-- ==== Sys2Proof/Word.lean ====
section
/-!
DEFINITION. The word types of the ML12 model: the byte of the serial lines and the 32-bit counts that wrap
(time base, berth time, duty counter values: R128, R139, R200).
-/
namespace Sys2Proof

/-- One character of LINK_RX, LINK_TX or SAMPLE: eight data bits (00_scope.md, Table 0-3). -/
abbrev Byte := BitVec 8

/-- A count that wraps from 2^32 - 1 to 0 (R128, R139, R200). -/
abbrev Count32 := BitVec 32

/-- A line station, 0..11 (00_scope.md, Units and number conventions). -/
abbrev Station := Fin 12

/-- A holding profile, 0..7. A lower number is a firmer hold (03, section 3.1). -/
abbrev ProfileNo := Fin 8

/-- A condition class, 0..3, 0 the calmest (03, section 3.2). -/
abbrev ConditionClass := Fin 4

/-- A duty counter, 0..3 (Chapter 10). -/
abbrev CounterNo := Fin 4

end Sys2Proof
end

