-- ==== Sys2Proof/Syntax.lean ====
section
/-!
DEFINITION. The commands of the ML12: one constructor for each row of spec/opcode_table.json. The table gives
the rows no fields; an operand here is what the spec's text says the event brings from outside the part
(which station, which bytes, which levels). A request carries its operands in its frame, so a request's command
carries none but, for a request with a station range, how many station turns the handler takes in this step (R173).
-/
namespace Sys2Proof

/-- The six discrete sensor inputs of a station (00_scope.md, Table 0-2; R132). -/
inductive Sensor where
  | latchClosed | latchOpen | headSeated | stowed | brakeOpen | driveReady
  deriving DecidableEq, Repr

/-- A discrete input of the part: a station's sensor or the berth's ZONE_HOLD (R132). -/
inductive Input where
  | sensor (station : Station) (which : Sensor)
  | zoneHold
  deriving DecidableEq, Repr

/-- The raw levels of one station's input pins, active or high as `true`. -/
structure StationPins where
  latchClosed : Bool
  latchOpen : Bool
  headSeated : Bool
  stowed : Bool
  brakeOpen : Bool
  driveReady : Bool
  encA : Bool
  encB : Bool
  deriving DecidableEq, Repr

/-- The raw levels of all level inputs, as a power-on reset finds them (R35, R132). -/
structure Pins where
  zoneHold : Bool
  stations : Vector StationPins 12
  deriving DecidableEq, Repr

/-- A command: one step of spec/opcode_table.json. -/
inductive Instr where
  /-- POWER_ON_RESET (R1): power comes up with these levels on the pins. -/
  | powerOnReset (found : Pins)
  /-- PIN_RESET (R1): RESET_N is asserted, with the pins at their present raw levels. -/
  | pinReset
  /-- FRAME_RECEIVED (R170): these bytes arrive on LINK_RX, each within 20 ms of the byte before it. -/
  | frameReceived (bytes : List Byte)
  /-- FRAME_CHECK_FAILED (R169): these bytes arrive on LINK_RX, each within 20 ms of the byte before it. -/
  | frameCheckFailed (bytes : List Byte)
  /-- FRAME_GAP_TIMEOUT (R169): this byte arrives on LINK_RX more than 20 ms after the byte before it. -/
  | frameGapTimeout (late : Byte)
  /-- UNKNOWN_REQUEST (R172): the handler takes a frame whose code names no request. -/
  | unknownRequest
  /-- IDENTIFY (R175). -/
  | identify
  /-- READ_BERTH (R176). -/
  | readBerth
  /-- READ_STATIONS (R177): the handler reads the records of at most `turns` further stations. -/
  | readStations (turns : Nat)
  /-- READ_PROFILES (R178). -/
  | readProfiles
  /-- READ_COUNTERS (R179). -/
  | readCounters
  /-- CONFIGURE_BERTH (R160). -/
  | configureBerth
  /-- CONFIGURE_STATION (R156): the handler applies the request to at most `turns` further stations. -/
  | configureStation (turns : Nat)
  /-- WRITE_PROFILE (R58). -/
  | writeProfile
  /-- SET_CONDITION (R60). -/
  | setCondition
  /-- COMMISSION_LOCK (R163). -/
  | commissionLock
  /-- DEPLOY (R12), at most `turns` further stations. -/
  | deploy (turns : Nat)
  /-- LOCK (R17), at most `turns` further stations. -/
  | lock (turns : Nat)
  /-- RELEASE (R23), at most `turns` further stations. -/
  | release (turns : Nat)
  /-- ARM_RELEASE (R128), at most `turns` further stations. -/
  | armRelease (turns : Nat)
  /-- REWIND (R25), at most `turns` further stations. -/
  | rewind (turns : Nat)
  /-- HALT (R14), at most `turns` further stations. -/
  | halt (turns : Nat)
  /-- SELECT_PROFILE (R33), at most `turns` further stations. -/
  | selectProfile (turns : Nat)
  /-- CLEAR_FAULT (R32), at most `turns` further stations. -/
  | clearFault (turns : Nat)
  /-- SET_COUNTER (R201). -/
  | setCounter
  /-- RESTART (R192). -/
  | restart
  /-- TRANSMIT_NEXT_FRAME (R186): LINK_TX becomes free. -/
  | transmitNextFrame
  /-- LINK_WATCH_EXPIRY (R188). -/
  | linkWatchExpiry
  /-- SAMPLE_RECORD_RECEIVED (R46, R47): these bytes arrive on the station's SAMPLE input, each within 2 ms of the
  byte before it, but that after SAMPLE_RECORD_GAP the first begins a record. -/
  | sampleRecordReceived (station : Station) (bytes : List Byte)
  /-- SAMPLE_RECORD_GAP (R46): more than 2 ms pass on the station's SAMPLE input without a byte. -/
  | sampleRecordGap (station : Station)
  /-- SAMPLE_TIMEOUT (R51). -/
  | sampleTimeout (station : Station)
  /-- ENCODER_EDGE (R37): the levels of ENC_A and ENC_B after the change. -/
  | encoderEdge (station : Station) (encA encB : Bool)
  /-- SPEED_WINDOW_END (R54) at one station. -/
  | speedWindowEnd (station : Station)
  /-- STALL_TIMEOUT (R105). -/
  | stallTimeout (station : Station)
  /-- DRIVE_READY_TIMEOUT (R102). -/
  | driveReadyTimeout (station : Station)
  /-- BRAKE_LIFT_TIMEOUT (R103). -/
  | brakeLiftTimeout (station : Station)
  /-- STOP_TIMEOUT (R107). -/
  | stopTimeout (station : Station)
  /-- BRAKE_SET_TIMEOUT (R108). -/
  | brakeSetTimeout (station : Station)
  /-- RAW_INPUT_EDGE (R133): the raw level of the input becomes `level`. -/
  | rawInputEdge (input : Input) (level : Bool)
  /-- FILTER_WIDTH_ELAPSED (R133). -/
  | filterWidthElapsed (input : Input)
  /-- SLICE_EXPIRY (R90). -/
  | sliceExpiry (station : Station)
  /-- PULSE_DELAY_END (R119). -/
  | pulseDelayEnd (station : Station)
  /-- PULSE_WIDTH_END (R120). -/
  | pulseWidthEnd (station : Station)
  /-- CONFIRM_TIMEOUT (R123). -/
  | confirmTimeout (station : Station)
  /-- CONFLICT_TIMEOUT (R131). -/
  | conflictTimeout (station : Station)
  /-- ARM_EXPIRY (R130). -/
  | armExpiry (station : Station)
  /-- TIME_BASE_TICK (R98): one millisecond passes. -/
  | timeBaseTick
  deriving DecidableEq, Repr

end Sys2Proof
end

