-- ==== Sys2Proof/Decode.lean ====
section
/-!
DEFINITION. The decoder over spec/opcode_table.json. No row of the table has bits (every row's "fields" is empty
and none has a pattern), so no word spells a command and every word is refused (log 25). The bytes of a link frame
and of a sample record are decoded in Machine/Operands.lean: they are operands of commands, not commands.
-/
namespace Sys2Proof

/-- The command that a word spells by the table's bits: none, since no row gives bits. -/
def decodeTableWord (_nbits _w : Nat) : Option Instr := none

end Sys2Proof
end

