-- ==== Sys2Proof/Config.lean ====
section
/-!
DEFINITION. What the ML12 fixes for every part: the numbers that no request can change. The spec leaves no
value of an operation open, so this file holds no free value (INVENTORY.md, What the manual leaves open).
-/
namespace Sys2Proof.Config

/-- The largest tension, 1000.0 kN; a saturated tension counts as this (R47, R48). -/
abbrev tensionMax : Nat := 10000

/-- The largest overload dose (R74). -/
abbrev doseMax : Nat := 65535

/-- A sample age, and a brake release time, saturate here (R51, R55). -/
abbrev ageMax : Nat := 65535

/-- A published speed stays within -32767..32767 (R54). -/
abbrev speedMax : Int := 32767

/-- The length of a speed window in ms (R54). -/
abbrev windowLength : Nat := 100

/-- The most frames the inbound queue holds (R170). -/
abbrev inboundDepth : Nat := 4

/-- The start byte of a frame (R169, Table 9-3a). -/
abbrev startByte : Byte := 0xA5

/-- The least and greatest payload length (R168). -/
abbrev payloadMin : Nat := 2
/-- The greatest payload length, and the bound of a READ_STATIONS reply (R168, R177). -/
abbrev payloadMax : Nat := 250

/-- The start value of the frame check register (R168). -/
abbrev crcStart : BitVec 16 := 0xFFFF
/-- The polynomial of the frame check (R168). -/
abbrev crcPolynomial : BitVec 16 := 0x1021

/-- The greatest drum count and line length a configuration may have (Table 2-3, R155). -/
abbrev cmaxLimit : Nat := 4194304
/-- The greatest line length in mm (Table 2-3, R155). -/
abbrev lengthLimit : Nat := 250000

/-- "ESKULON" in ASCII (R175, Table 9-5). -/
def familyName : List Byte := [0x45, 0x53, 0x4B, 0x55, 0x4C, 0x4F, 0x4E]
/-- "ML12" in ASCII (R175, Table 9-5). -/
def partName : List Byte := [0x4D, 0x4C, 0x31, 0x32]
/-- Revision 1.0: major in bits 4..7, minor in bits 0..3 (R175, Table 9-5). -/
def revision : Byte := 0x10

end Sys2Proof.Config
end

