-- ==== Sys2Proof/Machine/Bytes.lean ====
section
/-!
DEFINITION. Numbers as bytes and back, high byte first (R194), and the frame check (R168).
-/
namespace Sys2Proof.Machine

/-- One byte of a number (R194). -/
def be8 (n : Nat) : List Byte := [BitVec.ofNat 8 n]

/-- A two-byte number, high byte first (R194). -/
def be16 (n : Nat) : List Byte := [BitVec.ofNat 8 (n / 256), BitVec.ofNat 8 n]

/-- A three-byte number, high byte first (R194). -/
def be24 (n : Nat) : List Byte := [BitVec.ofNat 8 (n / 65536), BitVec.ofNat 8 (n / 256), BitVec.ofNat 8 n]

/-- A four-byte number, high byte first (R194). -/
def be32 (n : Nat) : List Byte :=
  [BitVec.ofNat 8 (n / 16777216), BitVec.ofNat 8 (n / 65536), BitVec.ofNat 8 (n / 256), BitVec.ofNat 8 n]

/-- A signed two-byte number in two's complement (R194). -/
def beInt16 (z : Int) : List Byte := be16 (BitVec.ofInt 16 z).toNat

/-- A signed four-byte number in two's complement (R194). -/
def beInt32 (z : Int) : List Byte := be32 (BitVec.ofInt 32 z).toNat

/-- A flag or an output level that the part sends as one byte: 1 for set or asserted, 0 for clear or deasserted
(DESIGN CHOICE, log 30: section 9.8 says which values these bytes may take only for the enabled byte of a counter, R201). -/
def beFlag (b : Bool) : List Byte := [if b then 1 else 0]

/-- The number a run of bytes spells, high byte first (R194). -/
def ofBe (bytes : List Byte) : Nat := bytes.foldl (fun n b => n * 256 + b.toNat) 0

/-- One shift of the check register (R168). -/
def crcShift (r : BitVec 16) : BitVec 16 :=
  if r.msb then (r <<< 1) ^^^ Config.crcPolynomial else r <<< 1

/-- One byte into the check register (R168). -/
def crcByte (r : BitVec 16) (b : Byte) : BitVec 16 :=
  let r0 : BitVec 16 := r ^^^ ((BitVec.setWidth 16 b) <<< 8)
  crcShift (crcShift (crcShift (crcShift (crcShift (crcShift (crcShift (crcShift r0)))))))

/-- The frame check over the length byte and the payload (R168). -/
def crc (bytes : List Byte) : BitVec 16 := bytes.foldl crcByte Config.crcStart

/-- A payload framed for the line (Table 9-3a). -/
def frameOf (payload : List Byte) : List Byte :=
  let counted := BitVec.ofNat 8 payload.length :: payload
  Config.startByte :: counted ++ be16 (crc counted).toNat

end Sys2Proof.Machine
end

