-- ==== Sys2Proof/Machine/Blocks.lean ====
section
/-!
DEFINITION. The state of each block of the ML12 as plain data, block by block (00_scope.md, Table 0-1). Names,
values and order of constructors follow the spec's tables; where Table 9-3 gives a field codes, the constructors
stand in the order of the codes.
-/
namespace Sys2Proof.Machine

/-! ### Enumerated values -/

/-- The twelve line states (Table 1-1, Table 9-3). -/
inductive LineState where
  | offline | stowed | payingOut | seated | locking | takingUp
  | holding | adjusting | releasing | rewinding | lineOut | fault
  deriving DecidableEq, Repr

/-- The causes of a change of line state (Table 1-1, Table 9-3). -/
inductive Reason where
  | none | request | seated | seatLost | targetReached | lockConfirmed | takeupDone | bandLow | bandHigh
  | profileChange | settled | releaseConfirmed | overloadRelease | stowed | fault | faultCleared | linkHold | adopted
  deriving DecidableEq, Repr

/-- The lock mode stored by DEPLOY (R12, R16). -/
inductive LockMode where
  | auto | onRequest
  deriving DecidableEq, Repr

/-- Out is line leaving the drum, in is line coming onto it (00_scope.md, Units and number conventions). -/
inductive Dir where
  | outward | inward
  deriving DecidableEq, Repr

/-- The fourteen fault kinds (Table 7-1), in the order of their codes. -/
inductive FaultKind where
  | driveNotReady | brakeStuck | stall | overrun | brakeNotSet | latchNotClosed | latchNotOpen | latchSensor
  | sensorLost | headLost | drumLimit | takeupLimit | stowNotFound | lineSnag
  deriving DecidableEq, Repr

/-- The latch position (Table 1-3). -/
inductive LatchPosition where
  | closed | opened | moving | conflict
  deriving DecidableEq, Repr

/-- The quarter position of the encoder pair (Table 2-2). -/
inductive Quarter where
  | q0 | q1 | q2 | q3
  deriving DecidableEq, Repr

/-- The drive phases (Table 5-1). -/
inductive DrivePhase where
  | idle | driveWait | brakeWait | running | stopping | setting | held
  deriving DecidableEq, Repr

/-- The DHU's stop request (Table 5-1). -/
inductive StopRequest where
  | none | normal | fault
  deriving DecidableEq, Repr

/-- The kinds of phase timer (Table 5-1). -/
inductive PhaseKind where
  | driveReady | brakeLift | stop | brakeSet
  deriving DecidableEq, Repr

/-- A slot holder's stop kind (04, section 4.1). -/
inductive StopKind where
  | none | withdrawing | yielding | hard
  deriving DecidableEq, Repr

/-- The kind of a coil pulse (Table 6-1). -/
inductive PulseKind where
  | lock | release
  deriving DecidableEq, Repr

/-- The phase of a pulse in progress (R119). -/
inductive PulsePhase where
  | delay | energized
  deriving DecidableEq, Repr

/-- The attempt sequence in being (Table 6-1). -/
inductive Sequence where
  | none | lock | release | headOpen
  deriving DecidableEq, Repr

/-- The link watch mode (Table 8-3). -/
inductive WatchMode where
  | off | report | hold | reportThenHold
  deriving DecidableEq, Repr

/-- The latest link event of a LINK report (Table 9-3). -/
inductive LinkEvent where
  | silent | holdBegun | restored
  deriving DecidableEq, Repr

/-- The reset cause (R193). -/
inductive ResetCause where
  | powerOn | resetPin | restartRequest
  deriving DecidableEq, Repr

/-- The event kinds a duty counter can count (Table 10-2). -/
inductive CounterKind where
  | tensionSample | adjustStart | slotGrant | slotYield | latchPulse | faultEntry | overloadEvent | waitTime
  deriving DecidableEq, Repr

/-- The results of a request at a station or the berth (Table 1-4), in the order of their codes. -/
inductive Result where
  | accepted | wrongState | absent | outOfRange | locked | notArmed | stillPresent | needEstimate | latchNotOpen
  deriving DecidableEq, Repr

/-- The frame results (R172), in the order of their codes. -/
inductive FrameResult where
  | ok | unknownRequest | badLength | badField
  deriving DecidableEq, Repr

/-! ### The Line Cycle Controller -/

/-- A motion need: what a motion state presents (R3, Table 1-2). -/
structure Need where
  cls : Nat
  dir : Dir
  speed : Nat
  deriving DecidableEq, Repr

/-- The fault record (Table 7-2). `further` holds bit i for fault kind code i, as Table 9-4 sends it. -/
structure FaultRecord where
  first : FaultKind
  stateAtEntry : LineState
  berthTime : Count32
  tension : Nat
  count : Nat
  further : BitVec 14
  deriving DecidableEq, Repr

/-- The station context held by the LCC (Table 1-1), with the aim profile of R69, the motion need of R3 and the creep
limit kept for a creep (R162). The requested profile stands in the station configuration (R153). -/
structure Lcc where
  lineState : LineState
  lastReason : Reason
  lockMode : LockMode
  payoutTarget : Option Nat
  takeupStart : Option Nat
  rewindFlag : Option Bool
  adjustDir : Option Dir
  adjustClass : Option Nat
  aimProfile : Option ProfileNo
  creepCount : Option Nat
  creepLimit : Option Nat
  need : Option Need
  armExpiry : Option Count32
  dose : Nat
  overloadHeld : Bool
  effective : Option ProfileNo
  current : Option ProfileNo
  fault : Option FaultRecord
  deriving DecidableEq, Repr

/-! ### The station configuration -/

/-- One layer of the drum: wrap length in mm and number of wraps (Table 2-3). -/
structure Layer where
  wrapLength : Nat
  wraps : Nat
  deriving DecidableEq, Repr

/-- The stored station configuration (Table 8-1). -/
structure StationConfig where
  countsPerRev : Nat
  layers : List Layer
  zero : Nat
  span : Nat
  requested : ProfileNo
  autoRelease : Bool
  reserve : Nat
  takeupLimit : Nat
  deriving DecidableEq, Repr

/-! ### The Measurement Unit -/

/-- The state held by the MU (Table 2-1), the timeout in force for the sample age (R53), the bytes of the sample
record in collection (R46) and whether a window end waits to be taken (R54, log 11). -/
structure Mu where
  count : Nat
  referenced : Bool
  quarter : Quarter
  accumulator : Int
  speed : Int
  windowDue : Bool
  age : Nat
  ageTimeout : Nat
  lost : Bool
  tension : Nat
  saturated : Bool
  releaseMeasure : Option Nat
  releaseTime : Nat
  correction : Option Int
  sampleHeld : List Byte
  deriving DecidableEq, Repr

/-! ### The Drive Handover Unit -/

/-- The target demand (Table 5-1). -/
structure Target where
  dir : Dir
  speed : Nat
  deriving DecidableEq, Repr

/-- The phase timer (Table 5-1), with the timeout taken at its start (R116). -/
inductive PhaseTimer where
  | absent
  | running (kind : PhaseKind) (elapsed timeout : Nat)
  | expired
  deriving DecidableEq, Repr

/-- A timer that counts up to the limit taken at its start: the stall timer (R105, R116) and the confirm timer (R121). -/
structure Timer where
  elapsed : Nat
  limit : Nat
  deriving DecidableEq, Repr

/-- The state held by the DHU (Table 5-1), and whether the demand has been 0 since the last window end (R107, log 12). -/
structure Dhu where
  phase : DrivePhase
  demandDir : Dir
  demand : Nat
  target : Option Target
  stopRequest : StopRequest
  timer : PhaseTimer
  stall : Option Timer
  pendingMotion : Option Need
  zeroThroughout : Bool
  deriving DecidableEq, Repr

/-! ### The Latch Pulse Unit -/

/-- A pulse in progress (R119): its remaining time in its present phase, the width taken at its beginning, and whether it
is a pulse of the attempt sequence now in being (R121, R124, R125). -/
structure Pulse where
  kind : PulseKind
  phase : PulsePhase
  remaining : Nat
  width : Nat
  ofSequence : Bool
  deriving DecidableEq, Repr

/-- The conflict timer (R131). -/
inductive ConflictTimer where
  | absent
  | running (elapsed timeout : Nat)
  | expired
  deriving DecidableEq, Repr

/-- The state held by the LPU (Table 6-1). -/
structure Lpu where
  pulse : Option Pulse
  queued : Option PulseKind
  sequence : Sequence
  retries : Nat
  attempts : Nat
  confirmTimer : Option Timer
  confirmOpen : Bool
  conflictTimer : ConflictTimer
  deriving DecidableEq, Repr

/-! ### Sensor filters -/

/-- The age of a pending level and the width taken at its start (Table 6-7). -/
structure PendingLevel where
  age : Nat
  width : Nat
  deriving DecidableEq, Repr

/-- A debounce filter (Table 6-7). A pending level, when held, is the level that differs from `level`. -/
structure Filter where
  level : Bool
  held : Option PendingLevel
  deriving DecidableEq, Repr

/-- The six filters of a station (R132). -/
structure Filters where
  latchClosed : Filter
  latchOpen : Filter
  headSeated : Filter
  stowed : Filter
  brakeOpen : Filter
  driveReady : Filter
  deriving DecidableEq, Repr

/-- Everything the part holds for one station. `handed` is the model's own (log 29): the kinds whose timers had run out
when a FAULT entry discarded them, detections handed to the LCC (R137) whose own commands have yet to be taken. -/
structure StationState where
  lcc : Lcc
  config : Option StationConfig
  mu : Mu
  dhu : Dhu
  lpu : Lpu
  filters : Filters
  handed : List FaultKind
  deriving DecidableEq, Repr

/-! ### The Drive Slot Arbiter -/

/-- A holder's slice timer (04, section 4.1; R89). -/
inductive SliceTimer where
  | absent
  | running (remaining : Nat)
  | paused (remaining : Nat)
  deriving DecidableEq, Repr

/-- A holder record (04, section 4.1). -/
structure Holder where
  station : Station
  cls : Nat
  grant : Nat
  slice : SliceTimer
  stopKind : StopKind
  deriving DecidableEq, Repr

/-- A waiting entry (04, section 4.1). -/
structure WaitEntry where
  station : Station
  cls : Nat
  deriving DecidableEq, Repr

/-- A preemption yield in progress (04, section 4.1; R92). -/
structure YieldPair where
  yielder : Station
  forStation : Station
  lapsed : Bool
  deriving DecidableEq, Repr

/-- The state held by the DSA (Table 4-1). The slice time stands in the berth record (Chapter 8, section 8.2).The grant
sequence has no bound (log 21). -/
structure Dsa where
  slots : Nat
  holders : List Holder
  waiting : List WaitEntry
  grantSeq : Nat
  yields : List YieldPair
  deriving DecidableEq, Repr

/-! ### The Profile Table -/

/-- A holding profile (Table 3-1). -/
structure Profile where
  low : Nat
  high : Nat
  overload : Nat
  doseLimit : Nat
  adjustSpeed : Nat
  deriving DecidableEq, Repr

/-- What the commissioning lock records of one profile (Table 8-5). -/
structure LimitSnapshot where
  overload : Nat
  doseLimit : Nat
  deriving DecidableEq, Repr

/-- The Profile Table's snapshots (Table 8-5). -/
structure ProfileSnapshot where
  limits : Vector LimitSnapshot 8
  ceiling : Vector ProfileNo 4
  deriving DecidableEq, Repr

/-- The Profile Table (R57). -/
structure ProfileTable where
  profiles : Vector Profile 8
  condition : ConditionClass
  ceiling : Vector ProfileNo 4
  snapshot : Option ProfileSnapshot
  deriving DecidableEq, Repr

/-! ### Berth Settings -/

/-- The berth configuration record: Table 8-3 less the slot count, the ceiling table and the routing set, which their
owners hold (Chapter 8, section 8.2). -/
structure BerthConfig where
  payoutSpeed : Nat
  takeupSpeed : Nat
  rewindSpeed : Nat
  creepSpeed : Nat
  creepLimit : Nat
  sampleTimeout : Nat
  rewindTensionLimit : Nat
  leak : Nat
  releaseThreshold : Nat
  armWindow : Nat
  sliceTime : Nat
  driveReadyTimeout : Nat
  brakeLiftTimeout : Nat
  stopTimeout : Nat
  brakeSetTimeout : Nat
  stallTime : Nat
  slewStep : Nat
  lockDelay : Nat
  lockWidth : Nat
  releaseDelay : Nat
  releaseWidth : Nat
  lockConfirmTimeout : Nat
  releaseConfirmTimeout : Nat
  retries : Nat
  filterWidth : Nat
  watchMode : WatchMode
  watchTime : Nat
  deriving DecidableEq, Repr

/-- The Berth Settings block (Chapter 8, section 8.2; Table 8-5; R193). -/
structure BerthSettings where
  config : BerthConfig
  locked : Bool
  thresholdSnapshot : Option Nat
  resetCause : ResetCause
  deriving DecidableEq, Repr

/-! ### The Alarm Router -/

/-- The routing set: bits 0 to 13 the fault kinds by code, bits 14 to 18 OVERLOAD_HELD, SATURATED, SAMPLE_LOST,
UNREFERENCED and LINK_HOLD (R148; 09, below Table 9-3). -/
abbrev RoutingSet := BitVec 19

/-! ### The Link Interface -/

/-- An entry of the Report Queue: its key, and for LINK the latest link event (R182, Table 9-1). -/
inductive ReportEntry where
  | station (station : Station)
  | link (event : LinkEvent)
  | zone
  | counter (counter : CounterNo)
  | restarted
  deriving DecidableEq, Repr

/-- The configuration a CONFIGURE_STATION carries, before its field checks and with omitted fields filled in (R154). -/
structure CarriedConfig where
  inService : Bool
  countsPerRev : Nat
  layers : List Layer
  zero : Nat
  span : Nat
  requested : Nat
  autoRelease : Bool
  reserve : Nat
  takeupLimit : Nat
  estimate : Option Nat
  deriving DecidableEq, Repr

/-- A request with a station range, decoded (R173). -/
inductive StationRequest where
  | readStations
  | configureStation (carried : CarriedConfig)
  | deploy (target mode : Nat)
  | lock
  | release (rewind : Bool)
  | armRelease
  | rewind
  | halt
  | selectProfile (number : Nat)
  | clearFault
  deriving DecidableEq, Repr

/-- A station request the handler is applying: the next station, the last one, and the reply body so far (R173, R177). -/
structure Working where
  code : Byte
  tag : Byte
  request : StationRequest
  next : Nat
  last : Nat
  done : Nat
  body : List Byte
  deriving DecidableEq, Repr

/-- The Receiver, request handler, Transmitter and Report Queue (Chapter 9). -/
structure Link where
  rxHeld : List Byte
  inbound : List (List Byte)
  working : Option Working
  replySlot : Option (List Byte)
  lineTx : Option (List Byte)
  reports : List ReportEntry
  deriving DecidableEq, Repr

/-- The Link Watch (Table 9-2b); its mode and watch time stand in the berth record. -/
structure LinkWatch where
  remaining : Nat
  firstExpirySeen : Bool
  hold : Bool
  deriving DecidableEq, Repr

/-! ### The Duty Counters -/

/-- A duty counter (Table 10-1). -/
structure Counter where
  enabled : Bool
  kind : CounterKind
  first : Nat
  last : Nat
  threshold : Nat
  invert : Bool
  edge : Bool
  value : Count32
  memory : Vector (Option Bool) 12
  deriving DecidableEq, Repr

end Sys2Proof.Machine
end

