-- ==== Sys2Proof/Machine/ResetValues.lean ====
section
/-!
DEFINITION. What every block holds right after power-on reset and pin reset, block by block, as the last column of
the spec's tables gives it (R1, R35, R57, R81, R99, R118, R132, R148, R158, R171, R185, R187, R195).
-/
namespace Sys2Proof.Machine

/-- Table 1-1, last column. -/
def Lcc.atReset : Lcc :=
  { lineState := .offline, lastReason := .none, lockMode := .onRequest, payoutTarget := none, takeupStart := none,
    rewindFlag := none, adjustDir := none, adjustClass := none, aimProfile := none, creepCount := none,
    creepLimit := none, need := none, armExpiry := none, dose := 0, overloadHeld := false, effective := none,
    current := none, fault := none }

/-- The quarter position of a pair of encoder levels (Table 2-2). -/
def Quarter.ofLevels : Bool → Bool → Quarter
  | false, false => .q0
  | true, false => .q1
  | true, true => .q2
  | false, true => .q3

/-- Table 2-1, last column: the quarter position is that of the encoder levels found (R35). -/
def Mu.atReset (quarter : Quarter) : Mu :=
  { count := 0, referenced := false, quarter := quarter, accumulator := 0, speed := 0, windowDue := false, age := 0,
    ageTimeout := 100, lost := false, tension := 0, saturated := false, releaseMeasure := none, releaseTime := 0,
    correction := none, sampleHeld := [] }

/-- Table 5-1, last column. -/
def Dhu.atReset : Dhu :=
  { phase := .idle, demandDir := .outward, demand := 0, target := none, stopRequest := .none, timer := .absent,
    stall := none, pendingMotion := none, zeroThroughout := true }

/-- Table 6-1, last column. -/
def Lpu.atReset : Lpu :=
  { pulse := none, queued := none, sequence := .none, retries := 0, attempts := 0, confirmTimer := none,
    confirmOpen := false, conflictTimer := .absent }

/-- A filter takes the raw level found and holds no pending level (R132). -/
def Filter.atReset (raw : Bool) : Filter := { level := raw, held := none }

/-- A station after reset, with these raw levels found at its pins (R1, R35, R99, R118, R132, R137, R153). -/
def StationState.atReset (found : StationPins) : StationState :=
  { lcc := Lcc.atReset
    config := none
    mu := Mu.atReset (Quarter.ofLevels found.encA found.encB)
    dhu := Dhu.atReset
    lpu := Lpu.atReset
    filters :=
      { latchClosed := Filter.atReset found.latchClosed
        latchOpen := Filter.atReset found.latchOpen
        headSeated := Filter.atReset found.headSeated
        stowed := Filter.atReset found.stowed
        brakeOpen := Filter.atReset found.brakeOpen
        driveReady := Filter.atReset found.driveReady }
    handed := [] }

/-- Table 4-1, last column. -/
def Dsa.atReset : Dsa := { slots := 3, holders := [], waiting := [], grantSeq := 0, yields := [] }

/-- A default profile: all have dose limit 20 000 (R57). -/
def Profile.default (low high overload adjustSpeed : Nat) : Profile :=
  { low := low, high := high, overload := overload, doseLimit := 20000, adjustSpeed := adjustSpeed }

/-- Table 3-2 and Table 3-3. -/
def ProfileTable.atReset : ProfileTable :=
  { profiles := #v[Profile.default 3600 4800 6000 300, Profile.default 3200 4400 5600 300,
      Profile.default 2800 4000 5200 300, Profile.default 2400 3600 4800 300, Profile.default 2000 3200 4400 250,
      Profile.default 1600 2800 4000 250, Profile.default 1200 2400 3600 250, Profile.default 800 2000 3200 250]
    condition := 0
    ceiling := #v[7, 5, 3, 1]
    snapshot := none }

/-- Table 8-3, third column. -/
def BerthConfig.atReset : BerthConfig :=
  { payoutSpeed := 400, takeupSpeed := 200, rewindSpeed := 600, creepSpeed := 50, creepLimit := 512,
    sampleTimeout := 100, rewindTensionLimit := 150, leak := 100, releaseThreshold := 300, armWindow := 5000,
    sliceTime := 10000, driveReadyTimeout := 500, brakeLiftTimeout := 400, stopTimeout := 1500,
    brakeSetTimeout := 400, stallTime := 2000, slewStep := 200, lockDelay := 0, lockWidth := 250, releaseDelay := 0,
    releaseWidth := 300, lockConfirmTimeout := 1500, releaseConfirmTimeout := 1000, retries := 2, filterWidth := 50,
    watchMode := .report, watchTime := 10 }

/-- The Berth Settings after a reset of this cause (R158, R193). -/
def BerthSettings.atReset (cause : ResetCause) : BerthSettings :=
  { config := BerthConfig.atReset, locked := false, thresholdSnapshot := none, resetCause := cause }

/-- The full set of nineteen kinds (R148). -/
def routingAtReset : RoutingSet := BitVec.allOnes 19

/-- Receiver hunting, queues and slot empty, LINK_TX idle, RESTARTED pending (R171, R185, R186). -/
def Link.atReset : Link :=
  { rxHeld := [], inbound := [], working := none, replySlot := none, lineTx := none, reports := [.restarted] }

/-- Table 9-2b, last column. -/
def LinkWatch.atReset : LinkWatch := { remaining := 10000, firstExpirySeen := false, hold := false }

/-- Table 10-1, last column. -/
def Counter.atReset : Counter :=
  { enabled := false, kind := .tensionSample, first := 0, last := 11, threshold := 0, invert := false, edge := false,
    value := 0, memory := Vector.replicate 12 none }

/-- A station's pins all inactive, encoder levels low. -/
def StationPins.inactive : StationPins :=
  { latchClosed := false, latchOpen := false, headSeated := false, stowed := false, brakeOpen := false,
    driveReady := false, encA := false, encB := false }

/-- Every pin inactive: the levels State.reset finds (DESIGN CHOICE, log 3: the spec gives no level of a pin). -/
def Pins.inactive : Pins := { zoneHold := false, stations := Vector.replicate 12 StationPins.inactive }

end Sys2Proof.Machine
end

