-- ==== Sys2Proof/Machine/State.lean ====
section
/-!
DEFINITION. The state of the ML12 as plain data, the reasons a command can stop, and the state after reset.
Machine/Blocks.lean holds the types of the blocks, Machine/ResetValues.lean what each holds after a reset.
-/
namespace Sys2Proof.Machine

/-- The whole part (00_scope.md, Table 0-1) and the queue of commands that wait. -/
structure State where
  stations : Vector StationState 12
  zoneFilter : Filter
  dsa : Dsa
  profiles : ProfileTable
  berth : BerthSettings
  routing : RoutingSet
  link : Link
  watch : LinkWatch
  counters : Vector Counter 4
  timeBase : Count32
  berthTime : Count32
  berthMs : Nat
  windowMs : Nat
  pending : List Instr
  deriving DecidableEq, Repr

/-- The reasons a command stops the machine: none. The part's own faults (Table 7-1) are states of its line cycle, and
every command has an effect in every state, so no step raises a fault of the model (safe: nothing is cut short). -/
inductive Fault where
  deriving DecidableEq, Repr

/-- The reasons a command is turned away without a meaning. -/
inductive Refusal where
  /-- The command has no meaning in the model yet. Raised by a refused arm of exec alone (safe: no claim follows). -/
  | notModelled (mnemonic : String)
  deriving DecidableEq, Repr

/-- The part right after a reset of this cause with these raw levels found on the pins (R1, R35, R57, R81, R99, R118,
R132, R151, R158, R171, R185, R187, R195). The time base, the berth time and the speed windows start from 0
(R128, R54, Units of 00_scope.md). -/
def State.atReset (cause : ResetCause) (found : Pins) : State :=
  { stations := #v[
      StationState.atReset (found.stations.get 0), StationState.atReset (found.stations.get 1),
      StationState.atReset (found.stations.get 2), StationState.atReset (found.stations.get 3),
      StationState.atReset (found.stations.get 4), StationState.atReset (found.stations.get 5),
      StationState.atReset (found.stations.get 6), StationState.atReset (found.stations.get 7),
      StationState.atReset (found.stations.get 8), StationState.atReset (found.stations.get 9),
      StationState.atReset (found.stations.get 10), StationState.atReset (found.stations.get 11)]
    zoneFilter := Filter.atReset found.zoneHold
    dsa := Dsa.atReset
    profiles := ProfileTable.atReset
    berth := BerthSettings.atReset cause
    routing := routingAtReset
    link := Link.atReset
    watch := LinkWatch.atReset
    counters := #v[Counter.atReset, Counter.atReset, Counter.atReset, Counter.atReset]
    timeBase := 0
    berthTime := 0
    berthMs := 0
    windowMs := 0
    pending := [] }

/-- The machine right after reset: a power-on reset with every pin inactive and no command waiting (log 3). -/
def State.reset : State := State.atReset .powerOn Pins.inactive

end Sys2Proof.Machine
end

