-- ==== Sys2Proof/Machine/Ops.lean ====
section
/-!
DEFINITION. The named operations on the state that every block shares: reading and updating one station's blocks,
working through the stations, making a report pending (R182), and counting an occurrence (R196 to R200).
-/
namespace Sys2Proof.Machine

/-! ### One station's blocks -/

/-- The state the part holds for one station. -/
def State.station (s : State) (i : Station) : StationState := s.stations.get i

/-- Replace the state of one station. -/
def State.setStation (s : State) (i : Station) (t : StationState) : State :=
  { s with stations := s.stations.set i.val t i.isLt }

/-- Update one station's LCC. -/
def State.modLcc (s : State) (i : Station) (f : Lcc → Lcc) : State :=
  s.setStation i { s.station i with lcc := f (s.station i).lcc }

/-- Store one station's configuration. -/
def State.setConfig (s : State) (i : Station) (c : Option StationConfig) : State :=
  s.setStation i { s.station i with config := c }

/-- Update one station's MU. -/
def State.modMu (s : State) (i : Station) (f : Mu → Mu) : State :=
  s.setStation i { s.station i with mu := f (s.station i).mu }

/-- Update one station's DHU. -/
def State.modDhu (s : State) (i : Station) (f : Dhu → Dhu) : State :=
  s.setStation i { s.station i with dhu := f (s.station i).dhu }

/-- Update one station's LPU. -/
def State.modLpu (s : State) (i : Station) (f : Lpu → Lpu) : State :=
  s.setStation i { s.station i with lpu := f (s.station i).lpu }

/-- Update one station's sensor filters. -/
def State.modFilters (s : State) (i : Station) (f : Filters → Filters) : State :=
  s.setStation i { s.station i with filters := f (s.station i).filters }

/-- Update the detections handed to one station's LCC that wait to be taken (R137, log 29). -/
def State.modHanded (s : State) (i : Station) (f : List FaultKind → List FaultKind) : State :=
  s.setStation i { s.station i with handed := f (s.station i).handed }

/-- A handed detection of this kind waits no longer (R137, log 29). -/
abbrev State.dropHanded (s : State) (i : Station) (kind : FaultKind) : State :=
  s.modHanded i fun l => l.filter fun k => !decide (k = kind)

/-- Update the DSA. -/
def State.modDsa (s : State) (f : Dsa → Dsa) : State := { s with dsa := f s.dsa }

/-- Update the Link Interface. -/
def State.modLink (s : State) (f : Link → Link) : State := { s with link := f s.link }

/-- Update the Link Watch. -/
def State.modWatch (s : State) (f : LinkWatch → LinkWatch) : State := { s with watch := f s.watch }

/-- Update one duty counter. -/
def State.modCounter (s : State) (n : CounterNo) (f : Counter → Counter) : State :=
  { s with counters := s.counters.set n.val (f (s.counters.get n)) n.isLt }

/-- A window end passes the DHU (R107, log 12): the demand has been 0 since the last window end exactly if it is 0. -/
def Dhu.passWindow (d : Dhu) : Dhu := { d with zeroThroughout := decide (d.demand = 0) }

/-- The twelve stations in ascending number. -/
def allStations : List Station := [0, 1, 2, 3, 4, 5, 6, 7, 8, 9, 10, 11]

/-- Work through the stations in ascending number (DESIGN CHOICE, log 4: the order inside one step; unsafe). -/
def State.forStations (s : State) (f : State → Station → State) : State := allStations.foldl f s

/-! ### The Report Queue -/

/-- Two entries have the same key (R182, Table 9-1). -/
def ReportEntry.sameKey : ReportEntry → ReportEntry → Bool
  | .station i, .station j => decide (i = j)
  | .link _, .link _ => true
  | .zone, .zone => true
  | .counter m, .counter n => decide (m = n)
  | .restarted, .restarted => true
  | _, _ => false

/-- Make a report pending: a new entry goes to the tail, an entry with the same key keeps its place and takes the
latest link event (R182). -/
def pendReport (e : ReportEntry) : List ReportEntry → List ReportEntry
  | [] => [e]
  | x :: rest => if x.sameKey e then e :: rest else x :: pendReport e rest

/-- Make a report pending in the Report Queue (R182). -/
def State.makePending (s : State) (e : ReportEntry) : State :=
  s.modLink fun l => { l with reports := pendReport e l.reports }

/-- Make a station's STATION report pending (R2, R182). -/
def State.reportStation (s : State) (i : Station) : State := s.makePending (.station i)

/-! ### The Duty Counters -/

/-- The four counters in number order. -/
def allCounters : List CounterNo := [0, 1, 2, 3]

/-- A counter takes an occurrence of this kind at this station: the first three tests of R196. -/
def Counter.takes (c : Counter) (kind : CounterKind) (i : Station) : Bool :=
  c.enabled && decide (c.kind = kind) && decide (c.first ≤ i.val) && decide (i.val ≤ c.last)

/-- Add 1 to a counter's value; an occurrence that finds 2^32 - 1 wraps it and makes the COUNTER report pending (R200). -/
def State.bump (s : State) (n : CounterNo) : State :=
  let wraps := decide ((s.counters.get n).value = BitVec.allOnes 32)
  let s := s.modCounter n fun c => { c with value := c.value + 1 }
  if wraps then s.makePending (.counter n) else s

/-- Offer an occurrence to one counter (R196). -/
def State.offer (s : State) (n : CounterNo) (kind : CounterKind) (i : Station) : State :=
  if (s.counters.get n).takes kind i then s.bump n else s

/-- An occurrence at a station, offered to all four counters (R196). -/
def State.occurrence (s : State) (kind : CounterKind) (i : Station) : State :=
  allCounters.foldl (fun s n => s.offer n kind i) s

/-- The condition of a sample at a TENSION_SAMPLE counter (R197). -/
def Counter.condition (c : Counter) (tension : Nat) : Bool :=
  if c.invert then decide (tension < c.threshold) else decide (c.threshold ≤ tension)

/-- Whether a TENSION_SAMPLE counter that tests this sample counts it (R197, R198). -/
def Counter.countsSample (c : Counter) (i : Station) (tension : Nat) : Bool :=
  c.condition tension && (!c.edge || decide (c.memory.get i = some false))

/-- Offer a sample event to one counter: the count is decided, then the condition is stored as the station's edge
memory (R197, R198). -/
def State.offerSample (s : State) (n : CounterNo) (i : Station) (tension : Nat) : State :=
  let c := s.counters.get n
  if c.takes .tensionSample i then
    let s := if c.countsSample i tension then s.bump n else s
    s.modCounter n fun d => { d with memory := d.memory.set i.val (some (c.condition tension)) i.isLt }
  else s

/-- A sample event of a station, offered to all four counters (R50, R196). -/
def State.sampleOccurrence (s : State) (i : Station) (tension : Nat) : State :=
  allCounters.foldl (fun s n => s.offerSample n i tension) s

/-- A station's edge memory becomes absent at every counter (R198). -/
def State.forgetEdges (s : State) (i : Station) : State :=
  allCounters.foldl (fun s n => s.modCounter n fun c => { c with memory := c.memory.set i.val none i.isLt }) s

/-! ### Reading the shared settings -/

/-- The berth configuration record. -/
def State.settings (s : State) : BerthConfig := s.berth.config

/-- A profile of the Profile Table as it stands. -/
def State.profile (s : State) (n : ProfileNo) : Profile := s.profiles.profiles.get n

/-- The ceiling entry for the present condition class (R62). -/
def State.ceilingNow (s : State) : ProfileNo := s.profiles.ceiling.get s.profiles.condition

end Sys2Proof.Machine
end

