-- ==== Sys2Proof/Machine/Operands.lean ====
section
/-!
DEFINITION. What the bytes from outside carry: frames in a run of LINK_RX bytes (R168, R169), the fields of each
request's body (R172, R173, R180, R181, Table 9-5), and sample records (R46).
-/
namespace Sys2Proof.Machine

/-! ### Frames on LINK_RX -/

/-- What the bytes after a start byte come to (R169). -/
inductive FrameCheck where
  /-- More bytes are needed. -/
  | incomplete
  /-- The length check or the CRC check fails. -/
  | failed
  /-- A good frame with this payload. -/
  | good (payload : List Byte)
  deriving DecidableEq, Repr

/-- The length and CRC checks on the bytes after a start byte (R168, R169). -/
def checkFrame : List Byte → FrameCheck
  | [] => .incomplete
  | len :: rest =>
    if len.toNat < Config.payloadMin ∨ Config.payloadMax < len.toNat then .failed
    else if rest.length < len.toNat + 2 then .incomplete
    else
      let payload := rest.take len.toNat
      if be16 (crc (len :: payload)).toNat = (rest.drop len.toNat).take 2 then .good payload else .failed

/-- What a run of bytes taken by the Receiver comes to: the payloads of its good frames, and the bytes then held. -/
structure Received where
  frames : List (List Byte)
  held : List Byte
  deriving DecidableEq, Repr

/-- The Receiver over a run of bytes (R169). `skip` bytes belong to a good frame already taken. Hunting discards bytes up
to a start byte; a failed frame is hunted again from the byte after its start byte; an incomplete one is held. -/
def scanBytes : Nat → List Byte → Received
  | _, [] => { frames := [], held := [] }
  | skip + 1, _ :: rest => scanBytes skip rest
  | 0, b :: rest =>
    if b ≠ Config.startByte then scanBytes 0 rest
    else
      match checkFrame rest with
      | .incomplete => { frames := [], held := b :: rest }
      | .failed => scanBytes 0 rest
      | .good payload =>
        let r := scanBytes (payload.length + 3) rest
        { r with frames := payload :: r.frames }

/-! ### Fields of a body -/

/-- The byte of a body at an offset, as a number. -/
def byteAt (body : List Byte) (k : Nat) : Nat := (body.getD k 0).toNat

/-- The number of `n` bytes of a body at an offset, high byte first (R194). -/
def numAt (body : List Byte) (k n : Nat) : Nat := ofBe ((body.drop k).take n)

/-- A decoded body, or the frame result that refuses it (R172). -/
abbrev Decoded (α : Type) := Except FrameResult α

/-- A body with no fields (R175 and the other requests without fields). -/
def decodeEmpty (body : List Byte) : Decoded Unit :=
  if body.isEmpty then .ok () else .error .badLength

/-- A body of exactly this length (R172 test 3). -/
def ofLength (n : Nat) (body : List Byte) : Decoded Unit :=
  if body.length = n then .ok () else .error .badLength

/-- A station range at the start of a body (R173). -/
def rangeValid (body : List Byte) : Bool :=
  decide (byteAt body 0 ≤ byteAt body 1) && decide (byteAt body 1 ≤ 11)

/-- A station request's range and fields. -/
structure RangeRequest where
  first : Nat
  last : Nat
  request : StationRequest
  deriving DecidableEq, Repr

/-- A station request whose body is a range and `extra` further bytes (Table 9-5): the length, then the range (R172). -/
def decodeRange (extra : Nat) (request : List Byte → StationRequest) (body : List Byte) : Decoded RangeRequest :=
  if body.length ≠ extra + 2 then .error .badLength
  else if !rangeValid body then .error .badField
  else .ok { first := byteAt body 0, last := byteAt body 1, request := request body }

/-- RELEASE: the rewind byte may be omitted, which sets the flag, and is 0 or 1 (R172, R23). -/
def decodeRelease (body : List Byte) : Decoded RangeRequest :=
  if body.length ≠ 2 ∧ body.length ≠ 3 then .error .badLength
  else if !rangeValid body ∨ (body.length = 3 ∧ 1 < byteAt body 2) then .error .badField
  else
    .ok { first := byteAt body 0, last := byteAt body 1,
          request := .release (decide (body.length = 2 ∨ byteAt body 2 = 1)) }

/-- The offset of the layer count in a CONFIGURE_STATION body with these flags (R181, Table 9-5). -/
def layerCountAt (flags : Nat) : Nat :=
  10 + (if flags.testBit 2 then 2 else 0) + (if flags.testBit 3 then 2 else 0) + (if flags.testBit 4 then 3 else 0)

/-- The configuration of a CONFIGURE_STATION body, with an omitted reserve or take-up limit filled in (R154, R181). -/
def carriedOf (body : List Byte) : CarriedConfig :=
  let flags := byteAt body 2
  let reserveAt := 10
  let takeupAt := reserveAt + if flags.testBit 2 then 2 else 0
  let estimateAt := takeupAt + if flags.testBit 3 then 2 else 0
  let countAt := layerCountAt flags
  { inService := flags.testBit 0
    autoRelease := flags.testBit 1
    countsPerRev := numAt body 3 2
    zero := numAt body 5 2
    span := numAt body 7 2
    requested := byteAt body 9
    reserve := if flags.testBit 2 then numAt body reserveAt 2 else 5000
    takeupLimit := if flags.testBit 3 then numAt body takeupAt 2 else 10000
    estimate := if flags.testBit 4 then some (numAt body estimateAt 3) else none
    layers := (List.range (byteAt body countAt)).map fun k =>
      { wrapLength := numAt body (countAt + 1 + 3 * k) 2, wraps := byteAt body (countAt + 3 + 3 * k) } }

/-- CONFIGURE_STATION: the flags byte, then the length it and the layer count give, then the range (R172, R181). -/
def decodeConfigureStation (body : List Byte) : Decoded RangeRequest :=
  if 3 ≤ body.length ∧ 32 ≤ byteAt body 2 then .error .badField
  else
    let countAt := layerCountAt (byteAt body 2)
    if body.length ≤ countAt ∨ body.length ≠ countAt + 1 + 3 * byteAt body countAt then .error .badLength
    else if !rangeValid body then .error .badField
    else .ok { first := byteAt body 0, last := byteAt body 1, request := .configureStation (carriedOf body) }

/-- WRITE_PROFILE: a profile number and a whole profile (R58, Table 9-5). -/
def decodeWriteProfile (body : List Byte) : Decoded (Nat × Profile) :=
  match ofLength 11 body with
  | .error e => .error e
  | .ok _ =>
    .ok (byteAt body 0,
      { low := numAt body 1 2, high := numAt body 3 2, overload := numAt body 5 2, doseLimit := numAt body 7 2,
        adjustSpeed := numAt body 9 2 })

/-- SET_CONDITION: a condition class (R60). -/
def decodeSetCondition (body : List Byte) : Decoded Nat :=
  match ofLength 1 body with
  | .error e => .error e
  | .ok _ => .ok (byteAt body 0)

/-- What a SET_COUNTER carries, before its checks (R201, Table 9-5). -/
structure CarriedCounter where
  number : Nat
  enabled : Nat
  kind : Nat
  first : Nat
  last : Nat
  threshold : Nat
  invert : Bool
  edge : Bool
  preload : Nat
  deriving DecidableEq, Repr

/-- SET_COUNTER: the flags byte, then the length (R172, R201). -/
def decodeSetCounter (body : List Byte) : Decoded CarriedCounter :=
  if 8 ≤ body.length ∧ 4 ≤ byteAt body 7 then .error .badField
  else if body.length ≠ 12 then .error .badLength
  else
    .ok { number := byteAt body 0, enabled := byteAt body 1, kind := byteAt body 2, first := byteAt body 3,
          last := byteAt body 4, threshold := numAt body 5 2, invert := (byteAt body 7).testBit 0,
          edge := (byteAt body 7).testBit 1, preload := numAt body 8 4 }

/-! ### Items of CONFIGURE_BERTH -/

/-- A field item: the field's row in Table 8-3, from 1, and its value's bytes (R180). -/
structure BerthItem where
  number : Nat
  value : List Byte
  deriving DecidableEq, Repr

/-- The width of a berth field in bytes (09, below Table 9-5). -/
def fieldWidth (number : Nat) : Nat :=
  match number with
  | 11 => 1
  | 25 => 1
  | 26 => 1
  | 27 => 4
  | 28 => 3
  | 29 => 1
  | 30 => 1
  | _ => 2

/-- The items of a CONFIGURE_BERTH body, in order (R180): at most one item for each byte of the body. -/
def decodeItems : Nat → List Byte → Decoded (List BerthItem)
  | _, [] => .ok []
  | 0, _ :: _ => .error .badLength
  | n + 1, b :: rest =>
    if b.toNat = 0 ∨ 30 < b.toNat then .error .badField
    else if rest.length < fieldWidth b.toNat then .error .badLength
    else
      match decodeItems n (rest.drop (fieldWidth b.toNat)) with
      | .error e => .error e
      | .ok items => .ok ({ number := b.toNat, value := rest.take (fieldWidth b.toNat) } :: items)

/-! ### Sample records -/

/-- A decoded sample record (R46). -/
inductive SampleRecord where
  | ok (raw : Nat)
  | overRange
  | converterFault
  | undecodable
  deriving DecidableEq, Repr

/-- A record of four bytes: status, raw code high byte first, and the exclusive-or of the three (R46). -/
def decodeSample (bytes : List Byte) : SampleRecord :=
  match bytes with
  | [status, high, low, check] =>
    if check ≠ (status ^^^ high ^^^ low) then .undecodable
    else if status = 0 then .ok (high.toNat * 256 + low.toNat)
    else if status = 1 then .overRange
    else if status = 2 then .converterFault
    else .undecodable
  | _ => .undecodable

end Sys2Proof.Machine
end

