-- ==== Sys2Proof/Machine/Flags.lean ====
section
/-!
DEFINITION. What is read off the state: line-state classes, the latch position, the layer model's length, the alarm
conditions and BERTH_ALARM, the outputs of each station, the timers that have run out, and a station's slot status. None of
it is stored (log 14).
-/
namespace Sys2Proof.Machine

/-! ### Classes of line states -/

/-- The motion states (R3). -/
def LineState.isMotion : LineState → Bool
  | .payingOut | .takingUp | .adjusting | .rewinding => true
  | _ => false

/-- The states that keep a live arm (R4). -/
def LineState.keepsArm : LineState → Bool
  | .takingUp | .holding | .adjusting | .locking | .fault => true
  | _ => false

/-- The states whose entry clears the current profile (R4, R64). -/
def LineState.clearsCurrent : LineState → Bool
  | .releasing | .lineOut | .rewinding | .stowed => true
  | _ => false

/-- Tensioned in this state with the latch at this position (R4). -/
def LineState.isTensioned (l : LineState) (latch : LatchPosition) : Bool :=
  match l with
  | .takingUp | .holding | .adjusting => true
  | .fault => decide (latch = .closed)
  | _ => false

/-- A lost sample stream is a fault in this state (R4, R52). -/
def LineState.lostIsFault (l : LineState) (latch : LatchPosition) : Bool :=
  match l with
  | .locking | .releasing | .rewinding => true
  | l => l.isTensioned latch

/-- The station is in service. -/
def State.inService (s : State) (i : Station) : Bool := decide ((s.station i).lcc.lineState ≠ .offline)

/-! ### The latch position -/

/-- Table 1-3: the position from the filtered LATCH_CLOSED and LATCH_OPEN. -/
def latchOf (closed opened : Bool) : LatchPosition :=
  match closed, opened with
  | true, false => .closed
  | false, true => .opened
  | false, false => .moving
  | true, true => .conflict

/-- The station's latch position (R5). -/
def StationState.latch (t : StationState) : LatchPosition :=
  latchOf t.filters.latchClosed.level t.filters.latchOpen.level

/-- The station is tensioned (R4). -/
def StationState.tensioned (t : StationState) : Bool := t.lcc.lineState.isTensioned t.latch

/-- A lost sample stream is a fault at the station (R52). -/
def StationState.lostIsFault (t : StationState) : Bool := t.lcc.lineState.lostIsFault t.latch

/-! ### The layer model -/

/-- The count with the drum fully paid out, from P and the layer list (Table 2-3, R43). -/
def cmaxOf (countsPerRev : Nat) (layers : List Layer) : Nat :=
  countsPerRev * (layers.map Layer.wraps).sum

/-- The length with the drum fully paid out (Table 2-3, R43). -/
def totalOf (layers : List Layer) : Nat := (layers.map fun l => l.wraps * l.wrapLength).sum

/-- The length for a count (R44): whole layers first, then the counts into the layer the count lies in. -/
def lengthOf (countsPerRev : Nat) : List Layer → Nat → Nat
  | [], _ => 0
  | l :: rest, c =>
    if c < l.wraps * countsPerRev then c * l.wrapLength / countsPerRev
    else l.wraps * l.wrapLength + lengthOf countsPerRev rest (c - l.wraps * countsPerRev)

/-- Cmax of a stored configuration. -/
def StationConfig.cmax (c : StationConfig) : Nat := cmaxOf c.countsPerRev c.layers

/-- T of a stored configuration. -/
def StationConfig.total (c : StationConfig) : Nat := totalOf c.layers

/-- The station's Cmax; without a configuration there is none, and the count stays 0 (R35). -/
def StationState.cmax (t : StationState) : Nat :=
  match t.config with
  | some c => c.cmax
  | none => 0

/-- The station's length for a count; without a configuration the length reads 0 (R44). -/
def StationState.lengthAt (t : StationState) (count : Nat) : Nat :=
  match t.config with
  | some c => lengthOf c.countsPerRev c.layers count
  | none => 0

/-- The station's present length (R45). -/
def StationState.length (t : StationState) : Nat := t.lengthAt t.mu.count

/-! ### The inner window -/

/-- A quarter of the band's width, rounded down (R59). -/
def Profile.quarter (p : Profile) : Nat := (p.high - p.low) / 4

/-- The inner low of a profile (R59). -/
def Profile.innerLow (p : Profile) : Nat := p.low + p.quarter

/-- The inner high of a profile (R59). -/
def Profile.innerHigh (p : Profile) : Nat := p.high - p.quarter

/-! ### Filtered inputs and outputs -/

/-- The filtered ZONE_HOLD (R135). -/
def State.zoneHold (s : State) : Bool := s.zoneFilter.level

/-- The raw level of a filter's input: the pending level when one is held (Table 6-7). -/
def Filter.raw (f : Filter) : Bool :=
  match f.held with
  | some _ => !f.level
  | none => f.level

/-- The DRIVE_ENABLE output (Table 5-3). -/
def State.driveEnable (s : State) (i : Station) : Bool :=
  match (s.station i).dhu.phase with
  | .idle => false
  | .setting => decide ((s.station i).dhu.stopRequest ≠ .fault)
  | _ => true

/-- The BRAKE_RELEASE output (Table 5-3). -/
def State.brakeRelease (s : State) (i : Station) : Bool :=
  match (s.station i).dhu.phase with
  | .brakeWait => !s.zoneHold
  | .running | .stopping => true
  | _ => false

/-- The DEMAND output in per-mille (R100). -/
def State.demandOut (s : State) (i : Station) : Nat := (s.station i).dhu.demand

/-- The DIR output (R100). -/
def State.dirOut (s : State) (i : Station) : Dir := (s.station i).dhu.demandDir

/-- A coil of the station is energized (R119). -/
def Lpu.coil (l : Lpu) (kind : PulseKind) : Bool :=
  match l.pulse with
  | some p => decide (p.kind = kind) && decide (p.phase = .energized)
  | none => false

/-- The LOCK_COIL output (R119). -/
def State.lockCoil (s : State) (i : Station) : Bool := (s.station i).lpu.coil .lock

/-- The RELEASE_COIL output (R119). -/
def State.releaseCoil (s : State) (i : Station) : Bool := (s.station i).lpu.coil .release

/-! ### Fault kinds, alarm conditions and BERTH_ALARM -/

/-- The code of a fault kind (Table 9-3). -/
def FaultKind.code : FaultKind → Nat
  | .driveNotReady => 0
  | .brakeStuck => 1
  | .stall => 2
  | .overrun => 3
  | .brakeNotSet => 4
  | .latchNotClosed => 5
  | .latchNotOpen => 6
  | .latchSensor => 7
  | .sensorLost => 8
  | .headLost => 9
  | .drumLimit => 10
  | .takeupLimit => 11
  | .stowNotFound => 12
  | .lineSnag => 13

/-- The bit of a fault kind in a set of fault kinds (Table 9-4). -/
def FaultKind.bit (k : FaultKind) : BitVec 14 := (1 : BitVec 14) <<< k.code

/-- The kinds of a record, the first and the further ones. -/
def FaultRecord.kinds (r : FaultRecord) : BitVec 14 := r.further ||| r.first.bit

/-- OVERLOAD_HELD is present (R76, R145). -/
def StationState.overloadHeldAlarm (t : StationState) : Bool :=
  decide (t.lcc.lineState ≠ .offline) && t.lcc.overloadHeld

/-- SATURATED is present (R50). -/
def StationState.saturatedAlarm (t : StationState) : Bool :=
  decide (t.lcc.lineState ≠ .offline) && t.mu.saturated

/-- SAMPLE_LOST is present: the stream is lost in a state where that is no fault (R52). -/
def StationState.sampleLostAlarm (t : StationState) : Bool :=
  decide (t.lcc.lineState ≠ .offline) && t.mu.lost && !t.lostIsFault

/-- UNREFERENCED is present (R41). -/
def StationState.unreferencedAlarm (t : StationState) : Bool :=
  decide (t.lcc.lineState ≠ .offline) && !t.mu.referenced

/-- The alarm condition set in the bits of Table 9-4 (R145). -/
def StationState.alarmSet (t : StationState) : BitVec 4 :=
  BitVec.ofBool t.unreferencedAlarm ++ BitVec.ofBool t.sampleLostAlarm ++ BitVec.ofBool t.saturatedAlarm
    ++ BitVec.ofBool t.overloadHeldAlarm

/-- The bit of LINK_HOLD in the routing set. -/
def linkHoldBit : RoutingSet := (1 : RoutingSet) <<< 18

/-- The routable kinds a station shows: those of its record, and its alarm conditions (R149). -/
def StationState.shown (t : StationState) : RoutingSet :=
  if t.lcc.lineState = .offline then 0
  else
    (match t.lcc.fault with
      | some r => r.kinds.setWidth 19
      | none => 0)
    ||| (t.alarmSet.setWidth 19 <<< 14)

/-- The BERTH_ALARM output: the test of R149. -/
def State.berthAlarm (s : State) : Bool :=
  allStations.any (fun i => decide ((s.station i).shown &&& s.routing ≠ 0))
    || (s.watch.hold && decide (linkHoldBit &&& s.routing ≠ 0))

/-! ### Timers that have run out -/

/-- The phase timer has run out with this kind (R102, R103, R107, R108). -/
def Dhu.phaseTimerDue (d : Dhu) (kind : PhaseKind) : Bool :=
  match d.timer with
  | .running k elapsed timeout => decide (k = kind) && decide (timeout ≤ elapsed)
  | _ => false

/-- A timer has reached its limit. -/
def Timer.due (t : Timer) : Bool := decide (t.limit ≤ t.elapsed)

/-- The stall timer has reached the stall time (R105). -/
def Dhu.stallDue (d : Dhu) : Bool :=
  match d.stall with
  | some t => decide (d.phase = .running) && t.due
  | none => false

/-- The phase timer that DRIVE_WAIT, BRAKE_WAIT, STOPPING or SETTING reads has run out (R102, R103, R107, R108). -/
def Dhu.phaseDue (d : Dhu) : PhaseKind → Bool
  | .driveReady => decide (d.phase = .driveWait) && d.phaseTimerDue .driveReady
  | .brakeLift => decide (d.phase = .brakeWait) && d.phaseTimerDue .brakeLift
  | .stop => decide (d.phase = .stopping) && d.phaseTimerDue .stop
  | .brakeSet => decide (d.phase = .setting) && d.phaseTimerDue .brakeSet

/-- The confirm timer has reached its timeout with confirmation open (R123). -/
def Lpu.confirmDue (l : Lpu) : Bool :=
  match l.confirmTimer with
  | some t => l.confirmOpen && t.due
  | none => false

/-- The confirm timer of this sequence has run out, and its attempts are exhausted (R123). -/
def Lpu.exhaustionDue (l : Lpu) (sequence : Sequence) : Bool :=
  l.confirmDue && decide (l.sequence = sequence) && decide (l.retries < l.attempts)

/-- The age has reached the timeout in force and the sample-lost condition has not begun (R51, R53). -/
def Mu.lossDue (m : Mu) : Bool := !m.lost && decide (m.ageTimeout ≤ m.age)

/-- A timer whose end detects this kind has run out, and its command has yet to be taken (Table 7-1, R137; log 29). The
timers of BRAKE_NOT_SET and LATCH_SENSOR are not among them: no FAULT entry discards one of them that has run out. -/
def StationState.detectionDue (t : StationState) : FaultKind → Bool
  | .driveNotReady => t.dhu.phaseDue .driveReady
  | .brakeStuck => t.dhu.phaseDue .brakeLift
  | .stall => t.dhu.stallDue
  | .overrun => t.dhu.phaseDue .stop
  | .latchNotClosed => t.lpu.exhaustionDue .lock
  | .latchNotOpen => t.lpu.exhaustionDue .release
  | .sensorLost => t.mu.lossDue && t.lostIsFault
  | .brakeNotSet => false
  | .latchSensor => false
  | .headLost => false
  | .drumLimit => false
  | .takeupLimit => false
  | .stowNotFound => false
  | .lineSnag => false

/-- The kinds a timer detects whose run-out timer a FAULT entry discards, in the order of their codes. -/
def handedKinds : List FaultKind :=
  [.driveNotReady, .brakeStuck, .stall, .overrun, .latchNotClosed, .latchNotOpen, .sensorLost]

/-- The detections that wait after an entry into FAULT by a detection of this kind: those that waited, and those whose
run-out timer stood before the entry and stands no longer (R137, log 29). -/
def StationState.handedAfter (before after : StationState) (kind : FaultKind) : List FaultKind :=
  handedKinds.filter fun k =>
    decide (k ∈ before.handed) || (before.detectionDue k && !after.detectionDue k && !decide (k = kind))

/-! ### Slot status -/

/-- The station holds a slot (R82). -/
def Dsa.holds (d : Dsa) (i : Station) : Bool := d.holders.any fun h => decide (h.station = i)

/-- The station has an entry in the waiting list (R84). -/
def Dsa.waits (d : Dsa) (i : Station) : Bool := d.waiting.any fun e => decide (e.station = i)

/-- The position of a station in the waiting list, from 1; 0 when it has no entry (R84, Table 9-4). -/
def positionIn (i : Station) : List WaitEntry → Nat → Nat
  | [], _ => 0
  | e :: rest, n => if e.station = i then n else positionIn i rest (n + 1)

/-- The list position sent in a station record (R84). -/
def Dsa.position (d : Dsa) (i : Station) : Nat := positionIn i d.waiting 1

/-- The code of a station's slot status: none, waiting, holding, held (R97, Table 9-3). -/
def State.slotStatus (s : State) (i : Station) : Nat :=
  if s.dsa.holds i then (if (s.station i).dhu.phase = .held then 3 else 2)
  else if s.dsa.waits i then 1 else 0

end Sys2Proof.Machine
end

