-- ==== Sys2Proof/Machine/Layout.lean ====
section
/-!
DEFINITION. What the part puts on the link: the codes of enumerated fields (Table 9-3), the station record (Table 9-4),
and the bodies of replies and reports (Table 9-5).
-/
namespace Sys2Proof.Machine

/-! ### Codes (Table 9-3) -/

def FrameResult.code : FrameResult → Nat
  | .ok => 0
  | .unknownRequest => 1
  | .badLength => 2
  | .badField => 3

def Result.code : Result → Nat
  | .accepted => 0
  | .wrongState => 1
  | .absent => 2
  | .outOfRange => 3
  | .locked => 4
  | .notArmed => 5
  | .stillPresent => 6
  | .needEstimate => 7
  | .latchNotOpen => 8

def LineState.code : LineState → Nat
  | .offline => 0
  | .stowed => 1
  | .payingOut => 2
  | .seated => 3
  | .locking => 4
  | .takingUp => 5
  | .holding => 6
  | .adjusting => 7
  | .releasing => 8
  | .rewinding => 9
  | .lineOut => 10
  | .fault => 11

def Reason.code : Reason → Nat
  | .none => 0
  | .request => 1
  | .seated => 2
  | .seatLost => 3
  | .targetReached => 4
  | .lockConfirmed => 5
  | .takeupDone => 6
  | .bandLow => 7
  | .bandHigh => 8
  | .profileChange => 9
  | .settled => 10
  | .releaseConfirmed => 11
  | .overloadRelease => 12
  | .stowed => 13
  | .fault => 14
  | .faultCleared => 15
  | .linkHold => 16
  | .adopted => 17

def DrivePhase.code : DrivePhase → Nat
  | .idle => 0
  | .driveWait => 1
  | .brakeWait => 2
  | .running => 3
  | .stopping => 4
  | .setting => 5
  | .held => 6

def LatchPosition.code : LatchPosition → Nat
  | .closed => 0
  | .opened => 1
  | .moving => 2
  | .conflict => 3

def WatchMode.code : WatchMode → Nat
  | .off => 0
  | .report => 1
  | .hold => 2
  | .reportThenHold => 3

def LinkEvent.code : LinkEvent → Nat
  | .silent => 0
  | .holdBegun => 1
  | .restored => 2

def ResetCause.code : ResetCause → Nat
  | .powerOn => 0
  | .resetPin => 1
  | .restartRequest => 2

def CounterKind.code : CounterKind → Nat
  | .tensionSample => 0
  | .adjustStart => 1
  | .slotGrant => 2
  | .slotYield => 3
  | .latchPulse => 4
  | .faultEntry => 5
  | .overloadEvent => 6
  | .waitTime => 7

/-- The counter event kind of a code (R201, Table 9-3). -/
def counterKindOf (code : Nat) : Option CounterKind :=
  match code with
  | 0 => some .tensionSample
  | 1 => some .adjustStart
  | 2 => some .slotGrant
  | 3 => some .slotYield
  | 4 => some .latchPulse
  | 5 => some .faultEntry
  | 6 => some .overloadEvent
  | 7 => some .waitTime
  | _ => none

/-- The link watch mode of a code (R160, Table 9-3). -/
def watchModeOf (code : Nat) : WatchMode :=
  match code with
  | 0 => .off
  | 1 => .report
  | 2 => .hold
  | _ => .reportThenHold

/-! ### The station record -/

/-- A profile number that may be absent: 0xFF then (R194). -/
def profileByte (p : Option ProfileNo) : List Byte :=
  match p with
  | some n => be8 n.val
  | none => be8 255

/-- The thirteen bytes of a fault record (Table 9-4). Bits 14 and 15 of the further-fault set name no kind and are sent as
0 (DESIGN CHOICE, log 31), because no kind that joins the set has such a code. -/
def faultRecordBytes (r : FaultRecord) : List Byte :=
  be8 r.first.code ++ be8 r.stateAtEntry.code ++ be32 r.berthTime.toNat ++ be16 r.tension ++ be24 r.count
    ++ be16 r.further.toNat

/-- The number a list of bits spells, the first bit the least significant. A byte built from it has 0 in every bit past
the list: these are the bits to which the spec gives no meaning (DESIGN CHOICE, log 31). -/
def bitsToNat : List Bool → Nat
  | [] => 0
  | b :: rest => b.toNat + 2 * bitsToNat rest

/-- The stow correction a STATION report carries (R42, R183). -/
def StationState.reportedCorrection (t : StationState) : Option Int :=
  if t.lcc.lineState = .stowed ∧ t.lcc.lastReason = .stowed then t.mu.correction else none

/-- The station record (Table 9-4) with this stow correction, or none. The bits without a meaning, bit 7 of the flags and
bits 4 to 7 of the alarm condition set, are sent as 0 (DESIGN CHOICE, log 31). -/
def stationRecord (s : State) (i : Station) (correction : Option Int) : List Byte :=
  let t := s.station i
  be8 i.val ++ be8 t.lcc.lineState.code ++ be8 t.lcc.lastReason.code
    ++ profileByte (t.config.map StationConfig.requested) ++ profileByte t.lcc.effective ++ profileByte t.lcc.current
    ++ be16 t.mu.tension ++ be24 t.length ++ be24 t.mu.count ++ beInt16 t.mu.speed
    ++ be8 t.dhu.phase.code ++ be8 (s.slotStatus i) ++ be8 (s.dsa.position i) ++ be8 t.latch.code
    ++ be8 (bitsToNat [t.mu.saturated, t.mu.referenced, t.filters.headSeated.level, t.filters.stowed.level,
        t.lcc.armExpiry.isSome, t.lcc.fault.isSome, correction.isSome])
    ++ be16 t.lcc.dose ++ be16 t.mu.releaseTime ++ be8 t.alarmSet.toNat
    ++ (match t.lcc.fault with
      | some r => faultRecordBytes r
      | none => [])
    ++ (match correction with
      | some c => beInt32 c
      | none => [])

/-! ### Bodies of read replies -/

/-- The body of IDENTIFY (R175, Table 9-5); the value of the lock flag's byte is log 30's. -/
def identifyBody (s : State) : List Byte :=
  Config.familyName ++ Config.partName ++ [Config.revision] ++ be8 12 ++ beFlag s.berth.locked
    ++ be8 s.berth.resetCause.code

/-- The thirty berth fields in the row order of Table 8-3 (R176). -/
def berthFields (s : State) : List Byte :=
  let c := s.settings
  be16 c.payoutSpeed ++ be16 c.takeupSpeed ++ be16 c.rewindSpeed ++ be16 c.creepSpeed ++ be16 c.creepLimit
    ++ be16 c.sampleTimeout ++ be16 c.rewindTensionLimit ++ be16 c.leak ++ be16 c.releaseThreshold
    ++ be16 c.armWindow ++ be8 s.dsa.slots ++ be16 c.sliceTime ++ be16 c.driveReadyTimeout
    ++ be16 c.brakeLiftTimeout ++ be16 c.stopTimeout ++ be16 c.brakeSetTimeout ++ be16 c.stallTime
    ++ be16 c.slewStep ++ be16 c.lockDelay ++ be16 c.lockWidth ++ be16 c.releaseDelay ++ be16 c.releaseWidth
    ++ be16 c.lockConfirmTimeout ++ be16 c.releaseConfirmTimeout ++ be8 c.retries ++ be8 c.filterWidth
    ++ (s.profiles.ceiling.toList.flatMap fun p => be8 p.val) ++ be24 s.routing.toNat
    ++ be8 c.watchMode.code ++ be8 c.watchTime

/-- The body of READ_BERTH (R176, Table 9-5); the values of its flag and level bytes are log 30's. -/
def readBerthBody (s : State) : List Byte :=
  berthFields s ++ be8 s.profiles.condition.val ++ beFlag s.berth.locked
    ++ be16 (s.berth.thresholdSnapshot.getD 65535) ++ beFlag s.berthAlarm ++ beFlag s.watch.hold
    ++ beFlag s.watch.firstExpirySeen ++ be16 s.watch.remaining ++ beFlag s.zoneHold ++ be32 s.berthTime.toNat
    ++ be8 s.dsa.holders.length ++ be8 s.dsa.waiting.length

/-- A profile's ten bytes (Table 9-5). -/
def profileBytes (p : Profile) : List Byte :=
  be16 p.low ++ be16 p.high ++ be16 p.overload ++ be16 p.doseLimit ++ be16 p.adjustSpeed

/-- The body of READ_PROFILES (R178, Table 9-5); the value of the lock flag's byte is log 30's. -/
def readProfilesBody (s : State) : List Byte :=
  (s.profiles.profiles.toList.flatMap profileBytes) ++ be8 s.profiles.condition.val
    ++ (s.profiles.ceiling.toList.flatMap fun p => be8 p.val) ++ beFlag s.berth.locked
    ++ (match s.berth.locked, s.profiles.snapshot with
      | true, some snap =>
        (snap.limits.toList.flatMap fun l => be16 l.overload ++ be16 l.doseLimit)
          ++ (snap.ceiling.toList.flatMap fun p => be8 p.val)
      | _, _ => [])

/-- A counter's eleven bytes (Table 9-5). The enabled byte is 1 for set and 0 for clear as in SET_COUNTER (R201); bits 2
to 7 of the flags byte have no meaning and are sent as 0 (DESIGN CHOICE, log 31). -/
def counterBytes (c : Counter) : List Byte :=
  beFlag c.enabled ++ be8 c.kind.code ++ be8 c.first ++ be8 c.last ++ be16 c.threshold
    ++ be8 (bitsToNat [c.invert, c.edge]) ++ be32 c.value.toNat

/-- The body of READ_COUNTERS (R179, Table 9-5). -/
def readCountersBody (s : State) : List Byte := s.counters.toList.flatMap counterBytes

/-! ### Replies and reports -/

/-- A reply's payload: the request's code with bit 7 set, its tag, the frame result and the body (R194). -/
def replyPayload (code tag : Byte) (result : FrameResult) (body : List Byte) : List Byte :=
  (code ||| 0x80) :: tag :: be8 result.code ++ body

/-- The stations whose drive phase is HELD, bit i for station i (R183, Table 9-5). Bits 12 to 15 name no station and are
sent as 0 (DESIGN CHOICE, log 31). -/
def heldStations (s : State) : Nat :=
  bitsToNat (allStations.map fun i => decide ((s.station i).dhu.phase = .held))

/-- A report's payload, built from the state as it stands; the tag is 0 (R183, Table 9-2, Table 9-5). The values of the
link-hold byte of LINK and the level byte of ZONE are log 30's. -/
def reportPayload (s : State) (e : ReportEntry) : List Byte :=
  match e with
  | .station i => 0x41 :: 0 :: stationRecord s i (s.station i).reportedCorrection
  | .link event => 0x42 :: 0 :: (be8 event.code ++ beFlag s.watch.hold ++ be8 s.settings.watchMode.code)
  | .zone => 0x43 :: 0 :: (beFlag s.zoneHold ++ be16 (heldStations s))
  | .counter n => 0x44 :: 0 :: (be8 n.val ++ counterBytes (s.counters.get n))
  | .restarted => 0x45 :: 0 :: (be8 s.berth.resetCause.code ++ be32 s.berthTime.toNat)

end Sys2Proof.Machine
end

