-- ==== Sys2Proof/Machine/Handover.lean ====
section
/-!
DEFINITION. The Drive Handover Unit (Chapter 5): from grant to running, the normal stop, the hard stop and the zone
hold, each on one station. An operation here that ends the stop leaves the drive phase at IDLE; Machine/Arbiter.lean
then frees the slot (R88, R109).
-/
namespace Sys2Proof.Machine

/-- Update a station's holder record, if it has one. -/
def State.modHolder (s : State) (i : Station) (f : Holder → Holder) : State :=
  s.modDsa fun d => { d with holders := d.holders.map fun h => if h.station = i then f h else h }

/-- The slice timer starts when the drive phase first reaches RUNNING after the grant (R89). -/
def Holder.startSlice (sliceTime : Nat) (h : Holder) : Holder :=
  if h.slice = .absent ∧ h.stopKind = .none then { h with slice := .running sliceTime } else h

/-- Give the holder a stop kind; its slice timer is discarded (R89, R94). -/
def Holder.stopAs (kind : StopKind) (h : Holder) : Holder := { h with stopKind := kind, slice := .absent }

/-- A withdrawal: a stop kind hard stands, any other becomes withdrawing (R94, log 15). -/
def Holder.withdraw (h : Holder) : Holder :=
  h.stopAs (if h.stopKind = .hard then .hard else .withdrawing)

/-- Enter RUNNING (R103): the brake-lift timer is discarded, the stall timer starts at 0 with the stall time as it
stands (R116), the slice timer starts if it never has (R89). -/
def enterRunning (s : State) (i : Station) : State :=
  let s1 := s.modDhu i fun d =>
    { d with phase := .running, timer := .absent, stall := some { elapsed := 0, limit := s.settings.stallTime } }
  s1.modHolder i (Holder.startSlice s.settings.sliceTime)

/-- Enter BRAKE_WAIT (R102): BRAKE_RELEASE is energized, which starts the release measurement (R55); with BRAKE_OPEN
already asserted the DHU passes at once to RUNNING. -/
def enterBrakeWait (s : State) (i : Station) : State :=
  let s1 := s.modDhu i fun d =>
    { d with phase := .brakeWait, timer := .running .brakeLift 0 s.settings.brakeLiftTimeout }
  let s2 := s1.modMu i fun m => { m with releaseMeasure := some 0 }
  if (s.station i).filters.brakeOpen.level then enterRunning s2 i else s2

/-- Enter DRIVE_WAIT (R101): with DRIVE_READY already asserted the DHU passes at once to BRAKE_WAIT. -/
def enterDriveWait (s : State) (i : Station) : State :=
  let s1 := s.modDhu i fun d =>
    { d with phase := .driveWait, timer := .running .driveReady 0 s.settings.driveReadyTimeout }
  if (s.station i).filters.driveReady.level then enterBrakeWait s1 i else s1

/-- A grant reaches the DHU in IDLE (R101). -/
def beginGrant (s : State) (i : Station) (need : Need) : State :=
  let s1 := s.modDhu i fun d =>
    { d with target := some { dir := need.dir, speed := need.speed }, demandDir := need.dir, demand := 0,
             stopRequest := .none }
  if s.zoneHold then s1.modDhu i fun d => { d with phase := .held } else enterDriveWait s1 i

/-- The handover resumes from HELD, or from the SETTING of a zone hold that has ended (R108, R113). -/
def resumeHandover (s : State) (i : Station) : State :=
  if (s.station i).filters.driveReady.level then enterBrakeWait s i else enterDriveWait s i

/-- The DHU becomes IDLE from a stop (R109). The demand keeps the grant's direction. -/
def becomeIdle (s : State) (i : Station) : State :=
  let s1 := s.modDhu i fun d =>
    { d with phase := .idle, demand := 0, target := none, stopRequest := .none, timer := .absent, stall := none,
             pendingMotion := none }
  s1.modMu i fun m => { m with releaseMeasure := none }

/-- The end of SETTING (R108): IDLE for a normal or hard stop; for a zone hold HELD, or the handover resumed if
ZONE_HOLD has fallen. -/
def endSetting (s : State) (i : Station) : State :=
  match (s.station i).dhu.stopRequest with
  | .none =>
    if s.zoneHold then s.modDhu i fun d => { d with phase := .held, timer := .absent } else resumeHandover s i
  | _ => becomeIdle s i

/-- Enter SETTING (R108): BRAKE_RELEASE is de-energized, which ends the release measurement (R55), the demand is 0,
and SETTING ends at once when BRAKE_OPEN is not asserted. -/
def enterSetting (s : State) (i : Station) : State :=
  let s1 := s.modDhu i fun d =>
    { d with phase := .setting, demand := 0, stall := none,
             timer := .running .brakeSet 0 s.settings.brakeSetTimeout }
  let s2 := s1.modMu i fun m => { m with releaseMeasure := none }
  if (s.station i).filters.brakeOpen.level then s2 else endSetting s2 i

/-- Enter STOPPING (R106, R107): the demand stands, and the stop timer starts if it is already 0. -/
def enterStopping (s : State) (i : Station) : State :=
  s.modDhu i fun d =>
    { d with phase := .stopping, stall := none,
             timer := if d.demand = 0 then .running .stop 0 s.settings.stopTimeout else .absent }

/-- A normal stop asked of the DHU (R106, Table 5-4). -/
def normalStop (s : State) (i : Station) : State :=
  if (s.station i).dhu.stopRequest ≠ .none then s
  else
    let s1 := s.modDhu i fun d => { d with stopRequest := .normal }
    match (s.station i).dhu.phase with
    | .idle => s
    | .driveWait => becomeIdle s1 i
    | .brakeWait => enterSetting s1 i
    | .running => enterStopping s1 i
    | .stopping => s1
    | .setting => s1
    | .held => becomeIdle s1 i

/-- A hard stop asked of the DHU (R110). -/
def hardStop (s : State) (i : Station) : State :=
  if (s.station i).dhu.stopRequest = .fault then s.modDhu i fun d => { d with pendingMotion := none }
  else
    let s1 := s.modDhu i fun d => { d with stopRequest := .fault, pendingMotion := none }
    match (s.station i).dhu.phase with
    | .idle => s
    | .driveWait => enterSetting s1 i
    | .brakeWait => enterSetting s1 i
    | .running => enterSetting s1 i
    | .stopping => enterSetting s1 i
    | .held => enterSetting s1 i
    | .setting => if (s.station i).dhu.timer = .expired then becomeIdle s1 i else s1

/-- ZONE_HOLD rising at one DHU (R112); the stop request is kept. -/
def zoneStop (s : State) (i : Station) : State :=
  match (s.station i).dhu.phase with
  | .driveWait => enterSetting s i
  | .brakeWait => enterSetting s i
  | .running => enterSetting s i
  | .stopping => enterSetting s i
  | .idle => s
  | .setting => s
  | .held => s

/-- ZONE_HOLD falling at one DHU (R113). -/
def zoneResume (s : State) (i : Station) : State :=
  if (s.station i).dhu.phase = .held then resumeHandover s i else s

/-- The demand moves toward the target by at most the slew step (R104). -/
def slewToward (demand goal step : Nat) : Nat :=
  if demand < goal then min goal (demand + step) else max goal (demand - step)

/-- A window end in RUNNING: the stall timer restarts when the drum moved (R105), and the demand slews (R104). -/
def windowRunning (s : State) (i : Station) : State :=
  let moved := decide ((s.station i).mu.speed ≠ 0)
  s.modDhu i fun d =>
    { d with
      stall := if moved then some { elapsed := 0, limit := s.settings.stallTime } else d.stall
      demand := match d.target with
        | some t => slewToward d.demand t.speed s.settings.slewStep
        | none => d.demand }

/-- A window end in STOPPING (R107). -/
def windowStopping (s : State) (i : Station) : State :=
  let d := (s.station i).dhu
  if d.zeroThroughout ∧ d.demand = 0 ∧ (s.station i).mu.speed = 0 then enterSetting s i
  else if d.demand ≠ 0 then
    let lowered := d.demand - s.settings.slewStep
    s.modDhu i fun d =>
      { d with demand := lowered,
               timer := if lowered = 0 then .running .stop 0 s.settings.stopTimeout else d.timer }
  else s

/-- A window end at the DHU (R104, R107): it acts in RUNNING and STOPPING, and then passes. -/
def dhuWindowEnd (s : State) (i : Station) : State :=
  let s1 := match (s.station i).dhu.phase with
    | .running => windowRunning s i
    | .stopping => windowStopping s i
    | .idle => s
    | .driveWait => s
    | .brakeWait => s
    | .setting => s
    | .held => s
  s1.modDhu i Dhu.passWindow

end Sys2Proof.Machine
end

