-- ==== Sys2Proof/Machine/Arbiter.lean ====
section
/-!
DEFINITION. The Drive Slot Arbiter (Chapter 4): joining and withdrawal, grants, stop completions, preemption and
slice yields.
-/
namespace Sys2Proof.Machine

/-- Join at the tail of the class: after every entry of the class and before every entry of a higher one (R84). -/
def insertEntry (e : WaitEntry) : List WaitEntry → List WaitEntry
  | [] => [e]
  | x :: rest => if e.cls < x.cls then e :: x :: rest else x :: insertEntry e rest

/-- The station's entry joins the waiting list (R85). -/
def joinList (s : State) (i : Station) (cls : Nat) : State :=
  s.modDsa fun d => { d with waiting := insertEntry { station := i, cls := cls } d.waiting }

/-- The pairs of a class-0 station that is granted or withdraws lapse (R92). -/
def lapseFor (i : Station) (yields : List YieldPair) : List YieldPair :=
  yields.map fun p => if p.forStation = i then { p with lapsed := true } else p

/-- The station's entry leaves the waiting list by withdrawal; its preemption pair lapses (R86, R92). -/
def leaveList (s : State) (i : Station) : State :=
  s.modDsa fun d =>
    { d with waiting := d.waiting.filter fun e => !decide (e.station = i), yields := lapseFor i d.yields }

/-- One grant to the entry at the head of the list (R87): the entry leaves the list, the grant sequence rises, a holder
record is made, the DHU begins its handover and SLOT_GRANT is counted. An entry whose station presents no need, which
no run reaches, only leaves the list (log 26). -/
def grantHead (s : State) : State :=
  match s.dsa.waiting with
  | [] => s
  | e :: rest =>
    match (s.station e.station).lcc.need with
    | none => s.modDsa fun d => { d with waiting := rest }
    | some need =>
      let s1 := s.modDsa fun d =>
        { d with
          waiting := rest
          grantSeq := d.grantSeq + 1
          holders := d.holders ++
            [{ station := e.station, cls := e.cls, grant := d.grantSeq + 1, slice := .absent, stopKind := .none }]
          yields := lapseFor e.station d.yields }
      (beginGrant s1 e.station need).occurrence .slotGrant e.station

/-- The grant rule (R87), applied again after each grant: at most once for each entry that waits. -/
def grantRule : Nat → State → State
  | 0, s => s
  | n + 1, s =>
    if s.dsa.holders.length < s.dsa.slots ∧ s.dsa.waiting ≠ [] then grantRule n (grantHead s) else s

/-- The grant rule over the whole waiting list (R87). -/
def grantAll (s : State) : State := grantRule s.dsa.waiting.length s

/-- A candidate for preemption: class 2 or 3 and no stop under way (R91). -/
def Holder.isCandidate (h : Holder) : Bool := decide (2 ≤ h.cls) && decide (h.stopKind = .none)

/-- The better yielder of two: the higher class number, then the higher grant number (R91). -/
def betterYielder (best : Option Holder) (h : Holder) : Option Holder :=
  match best with
  | none => some h
  | some b => if b.cls < h.cls ∨ (b.cls = h.cls ∧ b.grant < h.grant) then some h else some b

/-- The candidate the DSA chooses (R91). -/
def chooseYielder (holders : List Holder) : Option Holder :=
  (holders.filter Holder.isCandidate).foldl betterYielder none

/-- The preemption test (R91): the holder to yield and the class-0 station it yields for. -/
def preemptChoice (d : Dsa) : Option (Station × Station) :=
  match d.waiting with
  | [] => none
  | e :: _ =>
    if e.cls = 0 ∧ d.slots ≤ d.holders.length
        ∧ !(d.yields.any fun p => decide (p.forStation = e.station) && !p.lapsed) then
      (chooseYielder d.holders).map fun h => (h.station, e.station)
    else none

/-- A holder's stop has ended: its drive phase is IDLE while its record still stands (R88, R109). -/
def stopEnded (s : State) (i : Station) : Bool :=
  s.dsa.holds i && decide ((s.station i).dhu.phase = .idle)

/-- Step 1 of R88: the holder record is removed, and a pair with this station as its yielder. -/
def freeSlot (s : State) (i : Station) : State :=
  s.modDsa fun d =>
    { d with
      holders := d.holders.filter fun h => !decide (h.station = i)
      yields := d.yields.filter fun p => !decide (p.yielder = i) }

/-- Step 2 of R88: a station that still presents a motion need joins at the tail of its class. -/
def rejoin (s : State) (i : Station) : State :=
  match (s.station i).lcc.need with
  | some need => joinList s i need.cls
  | none => s

/-- A yield begins (R91, R93): stop kind yielding, slice timer discarded, SLOT_YIELD counted, a normal stop asked. -/
def beginYield (s : State) (i : Station) : State :=
  let s1 := s.modHolder i (Holder.stopAs .yielding)
  normalStop (s1.occurrence .slotYield i) i

/-- The preemption test and the yield it begins (R91). A yielder chosen in DRIVE_WAIT or HELD, or in BRAKE_WAIT with its
brake set, completes its stop at once; the completion is handled whole (R88) and the test is made again. Each such round
grants the class-0 entry at the head, so twelve rounds and a last test are enough. -/
def preempt : Nat → State → State
  | 0, s => s
  | n + 1, s =>
    match preemptChoice s.dsa with
    | none => s
    | some (yielder, forStation) =>
      let s1 := s.modDsa fun d =>
        { d with yields := d.yields ++ [{ yielder := yielder, forStation := forStation, lapsed := false }] }
      let s2 := beginYield s1 yielder
      if stopEnded s2 yielder then preempt n (grantAll (rejoin (freeSlot s2 yielder) yielder)) else s2

/-- The grant rule and then the preemption test (R87, R91). -/
def arbitrate (s : State) : State := preempt 13 (grantAll s)

/-- If the station's stop has ended, its completion is handled whole (R88): the slot is freed, the station rejoins if it
still presents a need, the grant rule is applied and the preemption test made. -/
def settleStop (s : State) (i : Station) : State :=
  if stopEnded s i then arbitrate (rejoin (freeSlot s i) i) else s

/-! ### Motion needs -/

/-- A station presents a motion need (R3, R85): it joins the list with its DHU IDLE, and holds the need as pending
motion otherwise (R114). -/
def presentNeed (s : State) (i : Station) (need : Need) : State :=
  let s1 := s.modLcc i fun l => { l with need := some need }
  if (s.station i).dhu.phase = .idle then arbitrate (joinList s1 i need.cls)
  else s1.modDhu i fun d => { d with pendingMotion := some need }

/-- A station withdraws its need (R3, R86, R94): a waiting entry is removed, a drum is brought to rest by a normal stop,
a pending motion is discarded. -/
def withdrawNeed (s : State) (i : Station) : State :=
  if (s.station i).lcc.need.isNone then s
  else
    let s1 := s.modLcc i fun l => { l with need := none }
    let s2 := s1.modDhu i fun d => { d with pendingMotion := none }
    if s.dsa.waits i then arbitrate (leaveList s2 i)
    else settleStop (normalStop (s2.modHolder i Holder.withdraw) i) i

/-- Motion ends by a hard stop at a FAULT entry (R29, R86, R94): the need and a pending motion are discarded, a waiting
entry is removed, a holder's stop kind becomes hard. -/
def stopForFault (s : State) (i : Station) : State :=
  let s1 := s.modLcc i fun l => { l with need := none }
  let s2 := s1.modDhu i fun d => { d with pendingMotion := none }
  if s.dsa.waits i then arbitrate (leaveList s2 i)
  else settleStop (hardStop (s2.modHolder i (Holder.stopAs .hard)) i) i

/-- A change of the need's speed (R3, R104, R114): it changes the need, and the pending motion or else the target demand,
and nothing about the slot. -/
def changeSpeed (s : State) (i : Station) (speed : Nat) : State :=
  let s1 := s.modLcc i fun l => { l with need := l.need.map fun n => { n with speed := speed } }
  s1.modDhu i fun d =>
    match d.pendingMotion with
    | some n => { d with pendingMotion := some { n with speed := speed } }
    | none => { d with target := d.target.map fun t => { t with speed := speed } }

/-- A slice expiry (R90): the holder yields if an entry of its class or a more urgent one waits; otherwise its slice
restarts at the slice time now in force. -/
def expireSlice (s : State) (h : Holder) : State :=
  if s.dsa.waiting.any fun e => decide (e.cls ≤ h.cls) then settleStop (beginYield s h.station) h.station
  else s.modHolder h.station fun k => { k with slice := .running s.settings.sliceTime }

end Sys2Proof.Machine
end

