-- ==== Sys2Proof/Machine/Latch.lean ====
section
/-!
DEFINITION. The Latch Pulse Unit (Chapter 6): beginning, queuing and energizing pulses, attempt sequences and their
end, and the conflict timer. What the LCC does on a confirmation or an exhaustion is in Machine/LineCycle.lean.
-/
namespace Sys2Proof.Machine

/-- The delay of a pulse of this kind, as the setting stands (R119). -/
def BerthConfig.pulseDelay (c : BerthConfig) : PulseKind → Nat
  | .lock => c.lockDelay
  | .release => c.releaseDelay

/-- The width of a pulse of this kind, as the setting stands (R119). -/
def BerthConfig.pulseWidth (c : BerthConfig) : PulseKind → Nat
  | .lock => c.lockWidth
  | .release => c.releaseWidth

/-- The coil a sequence pulses (Table 6-3). -/
def Sequence.kind : Sequence → PulseKind
  | .lock => .lock
  | _ => .release

/-- A sequence that confirms by position (Table 6-3). -/
def Sequence.confirms : Sequence → Bool
  | .lock | .release => true
  | _ => false

/-- The target position of a sequence (Table 6-3). -/
def Sequence.target : Sequence → Option LatchPosition
  | .lock => some .closed
  | .release => some .opened
  | _ => Option.none

/-- The confirm timeout of a sequence, as the setting stands (Table 6-3, R121). -/
def BerthConfig.confirmTimeout (c : BerthConfig) : Sequence → Nat
  | .lock => c.lockConfirmTimeout
  | _ => c.releaseConfirmTimeout

/-- The pulse in progress is energized for its width; LATCH_PULSE is counted (R119). For a pulse of a lock or release
sequence in being the confirm timer starts afresh and confirmation is open (R121). DESIGN CHOICE, log 5: the occurrence,
and a COUNTER report of its wrap, come before what a confirmation at that moment brings about. -/
def energize (s : State) (i : Station) : State :=
  let s1 := s.modLpu i fun l =>
    match l.pulse with
    | none => l
    | some p =>
      let pulse := some { p with phase := .energized, remaining := p.width }
      if p.ofSequence && l.sequence.confirms then
        { l with pulse := pulse, confirmOpen := true,
                 confirmTimer := some { elapsed := 0, limit := s.settings.confirmTimeout l.sequence } }
      else { l with pulse := pulse }
  s1.occurrence .latchPulse i

/-- A pulse of the sequence in being begins (R119, R121): delay and width are taken, attempts made rises, and with a
delay of 0 the coil is energized at once. -/
def beginPulse (s : State) (i : Station) (kind : PulseKind) : State :=
  let delay := s.settings.pulseDelay kind
  let width := s.settings.pulseWidth kind
  let s1 := s.modLpu i fun l =>
    { l with attempts := l.attempts + 1,
             pulse := some { kind := kind, phase := .delay, remaining := delay, width := width, ofSequence := true } }
  if delay = 0 then energize s1 i else s1

/-- The LPU is to begin a pulse: with a pulse of the station in progress it is queued, in place of one already queued
(R120). -/
def askPulse (s : State) (i : Station) (kind : PulseKind) : State :=
  if (s.station i).lpu.pulse.isSome then s.modLpu i fun l => { l with queued := some kind }
  else beginPulse s i kind

/-- A pulse in progress no longer belongs to the sequence in being (R124, R125). -/
def Pulse.released (p : Pulse) : Pulse := { p with ofSequence := false }

/-- A sequence starts (R121, R124, R126): one in being is superseded, its confirm timer discarded and its pulse in
progress left to run out; the retries are taken, attempts made is 0, confirmation is not open. -/
def startSequence (s : State) (i : Station) (sequence : Sequence) : State :=
  let s1 := s.modLpu i fun l =>
    { l with sequence := sequence, attempts := 0, confirmOpen := false, confirmTimer := none,
             retries := if sequence.confirms then s.settings.retries else 0,
             pulse := l.pulse.map Pulse.released }
  askPulse s1 i sequence.kind

/-- A lock or release sequence ends at a FAULT entry (R125): no report is made, a queued pulse is discarded, a pulse in
progress runs to its end. A head-open pulse and its sequence stand (log 20). -/
def Lpu.endedByFault (l : Lpu) : Lpu :=
  { l with sequence := if l.sequence.confirms then .none else l.sequence, confirmOpen := false, confirmTimer := none,
           queued := none,
           pulse := if l.sequence.confirms then l.pulse.map Pulse.released else l.pulse }

/-- A confirmed sequence ends (R122): a pulse of the sequence in phase delay, or queued, is discarded; an energized one
runs out its width. -/
def Lpu.confirmed (l : Lpu) : Lpu :=
  { l with sequence := .none, confirmOpen := false, confirmTimer := none, queued := none,
           pulse := match l.pulse with
             | some p => if p.ofSequence ∧ p.phase = .delay then none else some p.released
             | none => none }

/-- The attempts are exhausted (R123): the sequence ends; a pulse still energized runs out its width. -/
def Lpu.exhausted (l : Lpu) : Lpu :=
  { l with sequence := .none, confirmOpen := false, confirmTimer := none, queued := none,
           pulse := l.pulse.map Pulse.released }

/-- The sequence in being is confirmed by the latch as it reads now (R122). -/
def StationState.confirmsNow (t : StationState) : Bool :=
  t.lpu.confirmOpen && decide (t.lpu.sequence.target = some t.latch)

/-- A pulse's width has run out (R119, R120, R126): the coil is off, a head-open sequence whose pulse it was ends, and a
queued pulse begins at once. -/
def endPulse (s : State) (i : Station) : State :=
  let l := (s.station i).lpu
  let headOpenEnds := decide (l.sequence = .headOpen) && (l.pulse.map Pulse.ofSequence == some true)
  let s1 := s.modLpu i fun l =>
    { l with pulse := none, queued := none, sequence := if headOpenEnds then .none else l.sequence }
  match l.queued with
  | some kind => beginPulse s1 i kind
  | none => s1

/-- The conflict timer follows the latch position of a station in service: it starts when the position becomes CONFLICT
and is discarded when the position leaves it (R131). -/
def watchConflict (s : State) (i : Station) : State :=
  s.modLpu i fun l =>
    { l with conflictTimer :=
        if (s.station i).latch = .conflict then .running 0 s.settings.lockConfirmTimeout else .absent }

end Sys2Proof.Machine
end

