-- ==== Sys2Proof/Machine/LineCycle.lean ====
section
/-!
DEFINITION. The Line Cycle Controller's transitions (Chapter 1): the change of line state that all share (R2), the entry
into FAULT (R29, R137 to R140), the entry of every other line state with its effects, and the station's answers to a
confirmed or exhausted attempt sequence, to a count change and to a changed input.
-/
namespace Sys2Proof.Machine

/-! ### A change of line state -/

/-- What a change of line state makes of the station context (R2, R4, R13, R19, R21, R24, R26, R64, R69, R77, R130): the
cause is recorded; the items held "in state" are cleared unless the new state holds them; the current profile, the arm,
the dose and OVERLOAD_HELD go as the new state has it. -/
def Lcc.moved (l : Lcc) (new : LineState) (reason : Reason) (latch : LatchPosition) : Lcc :=
  { l with
    lineState := new
    lastReason := reason
    payoutTarget := if new = .payingOut then l.payoutTarget else none
    takeupStart := if new = .takingUp then l.takeupStart else none
    rewindFlag := if new = .releasing then l.rewindFlag else none
    adjustDir := if new = .adjusting then l.adjustDir else none
    adjustClass := if new = .adjusting then l.adjustClass else none
    aimProfile := if new = .adjusting then l.aimProfile else none
    creepCount := none
    creepLimit := none
    armExpiry := if new.keepsArm then l.armExpiry else none
    current := if new.clearsCurrent then none else l.current
    dose := if new.isTensioned latch then l.dose else 0
    overloadHeld := if new.isTensioned latch then l.overloadHeld else false }

/-- Record a change of line state (R2): the context moves, a stow correction is left behind with STOWED (R42), and the
STATION report is made pending. -/
def recordMove (s : State) (i : Station) (new : LineState) (reason : Reason) : State :=
  let s1 := s.modLcc i fun l => l.moved new reason (s.station i).latch
  let s2 := s1.modMu i fun m => { m with correction := none }
  s2.reportStation i

/-- A change of line state to a state other than FAULT (R2, R3): the change is recorded and the old state's motion need,
if it presented one, is withdrawn. -/
def changeState (s : State) (i : Station) (new : LineState) (reason : Reason) : State :=
  withdrawNeed (recordMove s i new reason) i

/-! ### FAULT -/

/-- A further fault of a station that holds a record (R30, R140): the kind joins the set, the STATION report is made
pending. -/
def addFurther (s : State) (i : Station) (kind : FaultKind) : State :=
  (s.modLcc i fun l => { l with fault := l.fault.map fun r => { r with further := r.further ||| kind.bit } })
    |>.reportStation i

/-- The record a FAULT entry leaves (R29, R139, R140): a new one, or the one that stands with the kind added. -/
def StationState.recordFor (t : StationState) (kind : FaultKind) (berthTime : Count32) : FaultRecord :=
  match t.lcc.fault with
  | some r => { r with further := r.further ||| kind.bit }
  | none =>
    { first := kind, stateAtEntry := t.lcc.lineState, berthTime := berthTime, tension := t.mu.tension,
      count := t.mu.count, further := 0 }

/-- The entry into FAULT (R29, R138): the hard stop, the end of the attempt sequence, the record, the STATION report, and
FAULT_ENTRY counted. A detection whose run-out timer the entry discards stays handed to the LCC (R137, log 29). With the
latch CLOSED the state entered is tensioned, and a lost stream is then a further SENSOR_LOST, whatever brought the entry
(R4, R52; DEDUCED, log 10). -/
def enterFault (s : State) (i : Station) (kind : FaultKind) : State :=
  let t := s.station i
  let s1 := s.modLcc i fun l => { l.moved .fault .fault t.latch with fault := some (t.recordFor kind s.berthTime) }
  let s2 := s1.modMu i fun m => { m with correction := none }
  let s3 := stopForFault s2 i
  let s4 := s3.modLpu i Lpu.endedByFault
  let s5 := s4.modHanded i fun _ => t.handedAfter (s4.station i) kind
  let s6 := (s5.reportStation i).occurrence .faultEntry i
  if t.mu.lost && LineState.lostIsFault .fault t.latch then addFurther s6 i .sensorLost else s6

/-- A detection of a fault handed to the station's LCC (R137). -/
def detect (s : State) (i : Station) (kind : FaultKind) : State :=
  match (s.station i).lcc.lineState with
  | .offline => s
  | .fault => addFurther s i kind
  | _ => enterFault s i kind

/-- The kind is a fault in the state the station is in now (Table 7-1, R144). -/
def State.isFaultNow (s : State) (i : Station) (kind : FaultKind) : Bool :=
  let t := s.station i
  let stopping := s.dsa.holds i && decide (t.dhu.stopRequest ≠ .none)
  let moving := s.dsa.holds i && t.lcc.lineState.isMotion
  decide (t.lcc.lineState = .fault) ||
    match kind with
    | .driveNotReady => moving || stopping
    | .brakeStuck => moving
    | .stall => moving
    | .overrun => stopping
    | .latchNotClosed => decide (t.lcc.lineState = .locking)
    | .latchNotOpen => decide (t.lcc.lineState = .releasing)
    | .sensorLost => t.lostIsFault
    | .brakeNotSet | .latchSensor | .headLost | .drumLimit | .takeupLimit | .stowNotFound | .lineSnag => false

/-- A detection handed to the LCC before another one's FAULT entry discarded its timer is taken now (R137, log 29): a
further fault in FAULT; in a state reached since, a fault if it is one there, and else discarded (R144). -/
def takeHanded (s : State) (i : Station) (kind : FaultKind) : State :=
  if kind ∈ (s.station i).handed then
    let s1 := s.dropHanded i kind
    if s.isFaultNow i kind then detect s1 i kind else s1
  else s

/-- The detection of SENSOR_LOST at the entry of a state in which a lost stream is a fault (R52). -/
def lostAtEntry (s : State) (i : Station) : State :=
  if (s.station i).mu.lost then detect s i .sensorLost else s

/-! ### Limits of the drum -/

/-- The count is at the limit in the direction of travel of PAYING_OUT, TAKING_UP or ADJUSTING (R6). -/
def StationState.atLimit (t : StationState) : Bool :=
  match t.lcc.lineState with
  | .payingOut => decide (t.mu.count = t.cmax)
  | .takingUp => decide (t.mu.count = 0)
  | .adjusting =>
    match t.lcc.adjustDir with
    | some .outward => decide (t.mu.count = t.cmax)
    | some .inward => decide (t.mu.count = 0)
    | none => false
  | _ => false

/-- The limit test at entry (R6). -/
def limitTest (s : State) (i : Station) : State :=
  if (s.station i).atLimit then detect s i .drumLimit else s

/-- Creep begins (R27, R161, R162): the creep count is 0, the creep limit is kept for this creep, and the need's speed
drops to the creep speed. -/
def beginCreep (s : State) (i : Station) : State :=
  let s1 := s.modLcc i fun l => { l with creepCount := some 0, creepLimit := some s.settings.creepLimit }
  changeSpeed s1 i s.settings.creepSpeed

/-- Creep begins if the count is 0 and creep has not begun (R6, R27). -/
def creepTest (s : State) (i : Station) : State :=
  if (s.station i).mu.count = 0 ∧ (s.station i).lcc.creepCount = none then beginCreep s i else s

/-! ### Entries -/

/-- Enter STOWED with the count set to 0 at the stowed sensor and marked referenced (R39, R40). -/
def enterStowed (s : State) (i : Station) (reason : Reason) (correction : Option Int) : State :=
  let s1 := changeState s i .stowed reason
  s1.modMu i fun m => { m with count := 0, referenced := true, correction := correction }

/-- The stow correction at an arrival: the count, or once creep has begun the creep count with its sign reversed (R42). -/
def StationState.arrivalCorrection (t : StationState) : Int :=
  match t.lcc.creepCount with
  | some c => -(c : Int)
  | none => (t.mu.count : Int)

/-- An arrival at STOWED from REWINDING (R26). -/
def arrive (s : State) (i : Station) : State :=
  enterStowed s i .stowed (some (s.station i).arrivalCorrection)

/-- Enter LINE_OUT (R28). -/
def enterLineOut (s : State) (i : Station) (reason : Reason) : State := changeState s i .lineOut reason

/-- Enter PAYING_OUT with its target (R12). -/
def enterPayingOut (s : State) (i : Station) (target : Nat) : State :=
  let s1 := s.modLcc i fun l => { l with payoutTarget := some target }
  let s2 := changeState s1 i .payingOut .request
  let s3 := presentNeed s2 i { cls := 3, dir := .outward, speed := s.settings.payoutSpeed }
  limitTest s3 i

/-- Enter REWINDING (R26): with the sensor STOWED asserted the station arrives at once; otherwise it presents its need
and the count is tested for creep. A lost stream is then a fault, unless the station has already arrived (R52; log 9). -/
def enterRewinding (s : State) (i : Station) (reason : Reason) : State :=
  let s1 := changeState s i .rewinding reason
  if (s.station i).filters.stowed.level then arrive s1 i
  else
    let s2 := presentNeed s1 i { cls := 2, dir := .inward, speed := s.settings.rewindSpeed }
    lostAtEntry (creepTest s2 i) i

/-- Enter TAKING_UP on a confirmed lock (R18, R19). -/
def enterTakingUp (s : State) (i : Station) : State :=
  let s1 := s.modLcc i fun l => { l with takeupStart := some (s.station i).mu.count }
  let s2 := changeState s1 i .takingUp .lockConfirmed
  let s3 := presentNeed s2 i { cls := 1, dir := .inward, speed := s.settings.takeupSpeed }
  lostAtEntry (limitTest s3 i) i

/-- The current profile is set to this profile; the STATION report is made pending, even when the value stands (R64). -/
def setCurrent (s : State) (i : Station) (e : ProfileNo) : State :=
  (s.modLcc i fun l => { l with current := some e }).reportStation i

/-- Enter HOLDING (R20). -/
def enterHolding (s : State) (i : Station) (reason : Reason) : State := changeState s i .holding reason

/-- Enter ADJUSTING with the direction, class and aim profile of the decision (R21, R69); ADJUST_START is counted (R80). -/
def enterAdjusting (s : State) (i : Station) (dir : Dir) (cls : Nat) (aim : ProfileNo) (reason : Reason) : State :=
  let s1 := changeState s i .adjusting reason
  let s2 := s1.modLcc i fun l => { l with adjustDir := some dir, adjustClass := some cls, aimProfile := some aim }
  let s3 := s2.occurrence .adjustStart i
  let s4 := presentNeed s3 i { cls := cls, dir := dir, speed := (s.profile aim).adjustSpeed }
  limitTest s4 i

/-- The release sequence is confirmed in RELEASING (R24): REWINDING or LINE_OUT by the rewind flag. -/
def releaseConfirmed (s : State) (i : Station) : State :=
  if (s.station i).lcc.rewindFlag = some true then enterRewinding s i .releaseConfirmed
  else enterLineOut s i .releaseConfirmed

/-- The LPU reports a confirmed sequence to the LCC (R18, R24). -/
def reportConfirmed (s : State) (i : Station) (sequence : Sequence) : State :=
  match sequence, (s.station i).lcc.lineState with
  | .lock, .locking => enterTakingUp s i
  | .release, .releasing => releaseConfirmed s i
  | _, _ => s

/-- The latch as it reads now confirms the sequence in being, if it does (R122). At an energizing this comes after the
LATCH_PULSE occurrence (DESIGN CHOICE, log 5). -/
def confirmTest (s : State) (i : Station) : State :=
  if (s.station i).confirmsNow then
    reportConfirmed (s.modLpu i Lpu.confirmed) i (s.station i).lpu.sequence
  else s

/-- Enter LOCKING (R18): the lock sequence is asked. A lost stream is a fault at this entry; otherwise a first pulse
energized at once with the latch already CLOSED confirms (R122; log 9). -/
def enterLocking (s : State) (i : Station) (reason : Reason) : State :=
  let s1 := changeState s i .locking reason
  confirmTest (lostAtEntry (startSequence s1 i .lock) i) i

/-- Enter SEATED (R16): with lock mode AUTO the station goes on to LOCKING with reason SEATED. -/
def enterSeated (s : State) (i : Station) (reason : Reason) : State :=
  let s1 := changeState s i .seated reason
  if (s.station i).lcc.lockMode = .auto then enterLocking s1 i .seated else s1

/-- Enter RELEASING with the rewind flag (R24): the release sequence is asked with a fresh attempt count. -/
def enterReleasing (s : State) (i : Station) (reason : Reason) (rewind : Bool) : State :=
  let s1 := s.modLcc i fun l => { l with rewindFlag := some rewind }
  let s2 := changeState s1 i .releasing reason
  confirmTest (lostAtEntry (startSequence s2 i .release) i) i

/-! ### The count and the drum -/

/-- The heaved-in distance exceeds the take-up limit (R19). -/
def StationState.takeupExceeded (t : StationState) : Bool :=
  match t.lcc.takeupStart, t.config with
  | some start, some c => decide (t.length + c.takeupLimit < t.lengthAt start)
  | _, _ => false

/-- The payout target is reached (R13). -/
def StationState.targetReached (t : StationState) : Bool :=
  match t.lcc.payoutTarget with
  | some target => decide (target ≤ t.length)
  | none => false

/-- A change of the count reaches the LCC (R6, R13, R19, R21, R27); the limit decides before the other condition. -/
def countChanged (s : State) (i : Station) : State :=
  let t := s.station i
  if t.atLimit then detect s i .drumLimit
  else
    match t.lcc.lineState with
    | .payingOut => if t.targetReached then enterLineOut s i .targetReached else s
    | .takingUp => if t.takeupExceeded then detect s i .takeupLimit else s
    | .rewinding => creepTest s i
    | _ => s

/-- An inward cycle discarded at the clamp reaches the LCC: in creep it adds 1 to the creep count, and a count over the
limit kept for this creep is STOW_NOT_FOUND (R27, R38, R162). -/
def inwardDiscarded (s : State) (i : Station) : State :=
  match (s.station i).lcc.creepCount, (s.station i).lcc.creepLimit with
  | some c, some limit =>
    let s1 := s.modLcc i fun l => { l with creepCount := some (c + 1) }
    if limit < c + 1 then detect s1 i .stowNotFound else s1
  | _, _ => s

/-! ### Changed inputs -/

/-- The latch position of an in-service station has changed from `old` (R4, R5, R22, R52, R122, R131). -/
def latchMoved (s : State) (i : Station) (old : LatchPosition) : State :=
  let t := s.station i
  if t.latch = old then s
  else
    let s1 := confirmTest (watchConflict s i) i
    match t.lcc.lineState with
    | .takingUp | .holding | .adjusting => if t.latch = .opened then detect s1 i .headLost else s1
    | .fault =>
      if old = .closed then
        let s2 := s1.modLcc i fun l => { l with dose := 0, overloadHeld := false }
        if t.lcc.overloadHeld || t.mu.lost then s2.reportStation i else s2
      else if t.latch = .closed ∧ t.mu.lost = true then detect s1 i .sensorLost
      else s1
    | _ => s1

/-- HEAD_SEATED rises (R13, R28). -/
def headSeats (s : State) (i : Station) : State :=
  match (s.station i).lcc.lineState with
  | .payingOut => enterSeated s i .seated
  | .lineOut => enterSeated s i .seated
  | _ => s

/-- HEAD_SEATED falls (R16, R18, R22). -/
def headUnseats (s : State) (i : Station) : State :=
  match (s.station i).lcc.lineState with
  | .seated => enterLineOut s i .seatLost
  | .locking => detect s i .headLost
  | .takingUp => detect s i .headLost
  | .holding => detect s i .headLost
  | .adjusting => detect s i .headLost
  | .fault => if (s.station i).latch = .closed then detect s i .headLost else s
  | _ => s

/-- The sensor STOWED rises: an arrival in REWINDING, nothing elsewhere (R26, R28). -/
def stowedRises (s : State) (i : Station) : State :=
  match (s.station i).lcc.lineState with
  | .rewinding => arrive s i
  | _ => s

/-! ### The effective profile -/

/-- The station's effective profile is recomputed (R62); a change is stored at once and, at an in-service station, makes
the STATION report pending (R63, log 27). -/
def recomputeEffective (s : State) (i : Station) : State :=
  match (s.station i).config with
  | none => s
  | some c =>
    let e := min c.requested s.ceilingNow
    if (s.station i).lcc.effective = some e then s
    else
      let s1 := s.modLcc i fun l => { l with effective := some e }
      if s.inService i then s1.reportStation i else s1

/-- Every station recomputes its effective profile (R60, R61). -/
def recomputeAll (s : State) : State := s.forStations recomputeEffective

end Sys2Proof.Machine
end

