-- ==== Sys2Proof/Machine/StationRequests.lean ====
section
/-!
DEFINITION. The nine station requests at one station (Chapter 1, sections 1.3 to 1.11; Chapter 8): the acceptance tests
in the order of R7 and the effect of an accepted request. A refused request changes nothing at the station.
-/
namespace Sys2Proof.Machine

/-- What a request did at a station: the state after it and its result (Table 1-4). -/
abbrev Applied := State × Result

/-- The station's reserve (Table 8-1). -/
def StationState.reserve (t : StationState) : Nat :=
  match t.config with
  | some c => c.reserve
  | none => 0

/-- The station's T (R43). -/
def StationState.total (t : StationState) : Nat :=
  match t.config with
  | some c => c.total
  | none => 0

/-- A pulse of the station is in progress or queued (R10, R23). -/
def Lpu.busy (l : Lpu) : Bool := l.pulse.isSome || l.queued.isSome

/-! ### DEPLOY -/

/-- DEPLOY is refused by the state: it is taken in STOWED and LINE_OUT with the head not seated (R12). -/
def StationState.deployWrongState (t : StationState) : Bool :=
  match t.lcc.lineState with
  | .stowed => t.filters.headSeated.level
  | .lineOut => t.filters.headSeated.level
  | _ => true

/-- DEPLOY carries a field out of range for this station (R12). -/
def StationState.deployOutOfRange (t : StationState) (target mode : Nat) : Bool :=
  !decide (1 ≤ target ∧ target + t.reserve ≤ t.total)
    || (decide (t.lcc.lineState = .lineOut) && decide (target ≤ t.length))
    || decide (1 < mode)

/-- The lock mode of a code (Table 9-3). -/
def lockModeOf (mode : Nat) : LockMode := if mode = 0 then .auto else .onRequest

/-- DEPLOY at an in-service station (R12). -/
def applyDeploy (s : State) (i : Station) (target mode : Nat) : Applied :=
  let t := s.station i
  if t.deployWrongState then (s, .wrongState)
  else if t.deployOutOfRange target mode then (s, .outOfRange)
  else if t.latch ≠ .opened then (s, .latchNotOpen)
  else (enterPayingOut (s.modLcc i fun l => { l with lockMode := lockModeOf mode }) i target, .accepted)

/-! ### LOCK, REWIND, HALT -/

/-- LOCK at an in-service station (R17). -/
def applyLock (s : State) (i : Station) : Applied :=
  if (s.station i).lcc.lineState = .seated then (enterLocking s i .request, .accepted) else (s, .wrongState)

/-- REWIND at an in-service station (R25). -/
def applyRewind (s : State) (i : Station) : Applied :=
  match (s.station i).lcc.lineState with
  | .seated => (enterRewinding s i .request, .accepted)
  | .lineOut => (enterRewinding s i .request, .accepted)
  | _ => (s, .wrongState)

/-- HALT at an in-service station (R14). -/
def applyHalt (s : State) (i : Station) : Applied :=
  match (s.station i).lcc.lineState with
  | .payingOut => (enterLineOut s i .request, .accepted)
  | .rewinding => (enterLineOut s i .request, .accepted)
  | _ => (s, .wrongState)

/-! ### RELEASE and ARM_RELEASE -/

/-- RELEASE is refused by the state (R23). -/
def StationState.releaseWrongState (t : StationState) : Bool :=
  match t.lcc.lineState with
  | .payingOut | .releasing | .rewinding => true
  | .stowed | .lineOut => t.lpu.busy
  | _ => false

/-- A live arm ends by being consumed; the STATION report is made pending (R129, R130). -/
def consumeArm (s : State) (i : Station) : State :=
  if (s.station i).lcc.armExpiry.isSome then
    (s.modLcc i fun l => { l with armExpiry := none }).reportStation i
  else s

/-- The effect of an accepted RELEASE by the line state (R23, R126). -/
def releaseEffect (s : State) (i : Station) (rewind : Bool) : State :=
  match (s.station i).lcc.lineState with
  | .stowed => startSequence s i .headOpen
  | .lineOut => startSequence s i .headOpen
  | .seated => if rewind then enterRewinding s i .request else enterLineOut s i .request
  | _ => enterReleasing s i .request rewind

/-- RELEASE at an in-service station (R23, R129). -/
def applyRelease (s : State) (i : Station) (rewind : Bool) : Applied :=
  let t := s.station i
  if t.releaseWrongState then (s, .wrongState)
  else if s.settings.releaseThreshold ≤ t.mu.tension ∧ t.lcc.armExpiry = none then (s, .notArmed)
  else (releaseEffect (consumeArm s i) i rewind, .accepted)

/-- ARM_RELEASE at an in-service station (R128, R130): the expiry is set afresh, and a new beginning of a live arm makes
the STATION report pending. -/
def applyArmRelease (s : State) (i : Station) : Applied :=
  let t := s.station i
  if t.lcc.lineState.keepsArm then
    let s1 := s.modLcc i fun l =>
      { l with armExpiry := some (s.timeBase + BitVec.ofNat 32 s.settings.armWindow) }
    (if t.lcc.armExpiry.isSome then s1 else s1.reportStation i, .accepted)
  else (s, .wrongState)

/-! ### SELECT_PROFILE -/

/-- A profile number (0..7) as a number of the table. -/
def profileNo (n : Nat) : ProfileNo := ⟨n % 8, Nat.mod_lt n (by decide)⟩

/-- SELECT_PROFILE at an in-service station (R33, R153). -/
def applySelectProfile (s : State) (i : Station) (number : Nat) : Applied :=
  if 7 < number then (s, .outOfRange)
  else
    let c := (s.station i).config.map fun c => { c with requested := profileNo number }
    (recomputeEffective (s.setConfig i c) i, .accepted)

/-! ### CLEAR_FAULT -/

/-- One of the four present conditions holds (R32, R143; the age test is log 13). -/
def stillPresent (s : State) (i : Station) : Bool :=
  let t := s.station i
  t.mu.lost || decide (t.mu.ageTimeout ≤ t.mu.age) || decide (t.latch = .conflict)
    || (t.filters.brakeOpen.level && !s.brakeRelease i) || (t.filters.driveReady.level && !s.driveEnable i)

/-- The fault record and OVERLOAD_HELD are cleared (R32); the clearing of a latched OVERLOAD_HELD makes the STATION
report pending (R76; log 17). -/
def clearRecord (s : State) (i : Station) : State :=
  let s1 := s.modLcc i fun l => { l with fault := none, overloadHeld := false }
  if (s.station i).lcc.overloadHeld then s1.reportStation i else s1

/-- A station leaves FAULT by its filtered sensors (R32). -/
def leaveFault (s : State) (i : Station) : State :=
  let t := s.station i
  let s1 := s.modLcc i fun l => { l with lockMode := .onRequest }
  if t.filters.stowed.level then enterStowed s1 i .faultCleared none
  else if t.latch = .closed ∧ t.filters.headSeated.level = true then enterHolding s1 i .faultCleared
  else enterLineOut s1 i .faultCleared

/-- CLEAR_FAULT at an in-service station (R32). -/
def applyClearFault (s : State) (i : Station) : Applied :=
  let l := (s.station i).lcc
  if ¬(l.lineState = .fault) ∧ l.fault = none ∧ l.overloadHeld = false then (s, .wrongState)
  else if stillPresent s i then (s, .stillPresent)
  else if l.lineState = .fault then (leaveFault (clearRecord s i) i, .accepted)
  else (clearRecord s i, .accepted)

/-! ### CONFIGURE_STATION -/

/-- The stored configuration a CONFIGURE_STATION carries (R154). -/
def CarriedConfig.stored (c : CarriedConfig) : StationConfig :=
  { countsPerRev := c.countsPerRev, layers := c.layers, zero := c.zero, span := c.span,
    requested := profileNo c.requested, autoRelease := c.autoRelease, reserve := c.reserve,
    takeupLimit := c.takeupLimit }

/-- Every field other than the requested profile and auto-release equals its stored value (R156). -/
def CarriedConfig.keepsOthers (c : CarriedConfig) (d : StationConfig) : Bool :=
  decide (c.countsPerRev = d.countsPerRev) && decide (c.layers = d.layers) && decide (c.zero = d.zero)
    && decide (c.span = d.span) && decide (c.reserve = d.reserve) && decide (c.takeupLimit = d.takeupLimit)

/-- CONFIGURE_STATION is refused by the state (R156, R10). -/
def StationState.configureWrongState (t : StationState) (c : CarriedConfig) : Bool :=
  match t.lcc.lineState with
  | .offline => false
  | .stowed => !c.inService && !(decide (t.dhu.phase = .idle) && !t.lpu.busy)
  | _ =>
    match t.config with
    | some d => !(c.inService && c.estimate.isNone && c.keepsOthers d)
    | none => true

/-- The wrap lengths do not increase from one layer to the next (R155). -/
def layersOrdered : List Layer → Bool
  | [] => true
  | a :: rest =>
    match rest with
    | [] => true
    | b :: _ => decide (b.wrapLength ≤ a.wrapLength) && layersOrdered rest

/-- A layer's fields lie in their ranges (Table 8-1). -/
def Layer.inRange (l : Layer) : Bool :=
  decide (100 ≤ l.wrapLength ∧ l.wrapLength ≤ 20000 ∧ 1 ≤ l.wraps ∧ l.wraps ≤ 200)

/-- The field checks of CONFIGURE_STATION pass (R155, Table 8-1). -/
def CarriedConfig.inRange (c : CarriedConfig) : Bool :=
  decide (32 ≤ c.countsPerRev ∧ c.countsPerRev ≤ 4096)
    && decide (1 ≤ c.layers.length ∧ c.layers.length ≤ 8) && c.layers.all Layer.inRange && layersOrdered c.layers
    && decide (c.zero ≤ 65535) && decide (1 ≤ c.span ∧ c.span ≤ 65535) && decide (c.requested ≤ 7)
    && decide (c.reserve ≤ 50000) && decide (500 ≤ c.takeupLimit ∧ c.takeupLimit ≤ 50000)
    && decide (cmaxOf c.countsPerRev c.layers ≤ Config.cmaxLimit) && decide (totalOf c.layers ≤ Config.lengthLimit)
    && decide (c.reserve < totalOf c.layers)
    && (match c.estimate with
      | some e => decide (e ≤ cmaxOf c.countsPerRev c.layers)
      | none => true)

/-- The commissioning lock refuses the configuration at a station that holds this one, or none (R166). -/
def CarriedConfig.lockRefuses (c : CarriedConfig) (held : Option StationConfig) : Bool :=
  match held with
  | none => true
  | some d =>
    !(decide (c.countsPerRev = d.countsPerRev) && decide (c.layers = d.layers) && decide (c.reserve = d.reserve)
      && decide (c.zero = d.zero) && decide (c.span = d.span)) || (d.autoRelease && !c.autoRelease)

/-- The adoption needs a count estimate and has none (R9). -/
def StationState.needsEstimate (t : StationState) (c : CarriedConfig) : Bool :=
  decide (t.lcc.lineState = .offline) && c.inService && !t.filters.stowed.level && c.estimate.isNone

/-- A configuration is stored and the effective profile recomputed (R62, R154, R157). -/
def storeConfig (s : State) (i : Station) (c : CarriedConfig) : State :=
  recomputeEffective (s.setConfig i (some c.stored)) i

/-- What the context and the MU hold at adoption, before the state is entered (R9, R36). -/
def adoptionValues (s : State) (i : Station) : State :=
  let s1 := s.modLcc i fun l =>
    { l with lockMode := .onRequest, dose := 0, overloadHeld := false, armExpiry := none, fault := none,
             current := none }
  s1.modMu i fun m =>
    { m with accumulator := 0, windowDue := false, age := 0, ageTimeout := s.settings.sampleTimeout, lost := false,
             tension := 0, saturated := false }

/-- The state an adopted station enters, with its count and referenced flag (R9, R39). -/
def enterAdopted (s : State) (i : Station) (estimate : Nat) : State :=
  let t := s.station i
  if t.filters.stowed.level then enterStowed s i .adopted none
  else
    let s1 := s.modMu i fun m => { m with count := estimate, referenced := false }
    if t.latch = .closed ∧ t.filters.headSeated.level = true then enterHolding s1 i .adopted
    else enterLineOut s1 i .adopted

/-- Adoption (R9): the configuration is stored, the station enters its state with reason ADOPTED, the conflict timer
starts if the latch reads CONFLICT (R131). -/
def adopt (s : State) (i : Station) (c : CarriedConfig) : State :=
  let s1 := enterAdopted (adoptionValues s i) i (c.estimate.getD 0)
  watchConflict (storeConfig s1 i c) i

/-- Leaving service from STOWED (R10, R36, R131, R141, R198); a detection that still waits is discarded (R137, log 29).
A window end that waits to be taken passes the DHU (R107, log 12). -/
def leaveService (s : State) (i : Station) (c : CarriedConfig) : State :=
  let s1 := changeState s i .offline .request
  let s2 := s1.modLcc i fun l => { l with fault := none }
  let s3 := s2.modMu i fun m =>
    { m with count := 0, referenced := false, accumulator := 0, speed := 0, windowDue := false, age := 0,
             lost := false, tension := 0, saturated := false, correction := none }
  let s4 := s3.modLpu i fun l => { l with conflictTimer := .absent }
  let s5 := if (s.station i).mu.windowDue then s4.modDhu i Dhu.passWindow else s4
  let s6 := s5.modHanded i fun _ => []
  storeConfig (s6.forgetEdges i) i c

/-- The effect of an accepted CONFIGURE_STATION (R156, R157). -/
def configureEffect (s : State) (i : Station) (c : CarriedConfig) : State :=
  match (s.station i).lcc.lineState, c.inService with
  | .offline, true => adopt s i c
  | .stowed, false => leaveService s i c
  | _, _ => storeConfig s i c

/-- CONFIGURE_STATION at a station (R7, R9, R155, R156, R166). -/
def applyConfigureStation (s : State) (i : Station) (c : CarriedConfig) : Applied :=
  let t := s.station i
  if t.configureWrongState c then (s, .wrongState)
  else if !c.inRange then (s, .outOfRange)
  else if s.berth.locked && c.lockRefuses t.config then (s, .locked)
  else if t.needsEstimate c then (s, .needEstimate)
  else (configureEffect s i c, .accepted)

/-! ### A request at a station -/

/-- A station request at an in-service station; ABSENT at an OFFLINE one (R7, R8). -/
def inServiceOnly (s : State) (i : Station) (result : Applied) : Applied :=
  if s.inService i then result else (s, .absent)

/-- One of the nine station requests at one station (R7). READ_STATIONS applies nothing (R174). -/
def applyRequest (s : State) (i : Station) : StationRequest → Applied
  | .readStations => (s, .accepted)
  | .configureStation c => applyConfigureStation s i c
  | .deploy target mode => inServiceOnly s i (applyDeploy s i target mode)
  | .lock => inServiceOnly s i (applyLock s i)
  | .release rewind => inServiceOnly s i (applyRelease s i rewind)
  | .armRelease => inServiceOnly s i (applyArmRelease s i)
  | .rewind => inServiceOnly s i (applyRewind s i)
  | .halt => inServiceOnly s i (applyHalt s i)
  | .selectProfile number => inServiceOnly s i (applySelectProfile s i number)
  | .clearFault => inServiceOnly s i (applyClearFault s i)

end Sys2Proof.Machine
end

