-- ==== Sys2Proof/Machine/Handler.lean ====
section
/-!
DEFINITION. The request handler's work that its commands share (R172 to R174): taking the head frame, placing the reply,
and working a station range turn by turn. A handler command that finds no frame of its own code to take, or no station
request of its own under way, leaves the state as it is (log 24).
-/
namespace Sys2Proof.Machine

/-- The message code of a payload (Table 9-3a). -/
def frameCode (payload : List Byte) : Byte := payload.getD 0 0

/-- The tag of a payload (Table 9-3a). -/
def frameTag (payload : List Byte) : Byte := payload.getD 1 0

/-- The body of a payload (Table 9-3a). -/
def frameBody (payload : List Byte) : List Byte := payload.drop 2

/-- The frame the handler may take: the head of the inbound queue, with the reply slot empty and no station request
under way (R172). -/
def State.headFrame (s : State) : Option (List Byte) :=
  match s.link.replySlot, s.link.working, s.link.inbound with
  | none, none, f :: _ => some f
  | _, _, _ => none

/-- The head frame leaves the inbound queue as it is taken (R172). -/
def dropHead (s : State) : State := s.modLink fun l => { l with inbound := l.inbound.tail }

/-- A reply is placed in the reply slot (R172, R194). -/
def placeReply (s : State) (code tag : Byte) (result : FrameResult) (body : List Byte) : State :=
  s.modLink fun l => { l with replySlot := some (replyPayload code tag result body) }

/-- The reply to a taken frame (R172, R194). -/
def replyTo (s : State) (frame : List Byte) (result : FrameResult) (body : List Byte) : State :=
  placeReply s (frameCode frame) (frameTag frame) result body

/-- A message code of Table 9-2 names a request. -/
def isRequestCode (code : Byte) : Bool := decide (1 ≤ code.toNat) && decide (code.toNat ≤ 20)

/-- The handler takes the head frame if it carries this code, decodes its body and gives `serve` the outcome: the state
after it and the reply's body (R172, R174). -/
def takeFrame {α : Type} (s : State) (code : Byte) (decode : List Byte → Decoded α)
    (serve : State → α → State × List Byte) : State :=
  match s.headFrame with
  | none => s
  | some f =>
    if frameCode f ≠ code then s
    else
      let s1 := dropHead s
      match decode (frameBody f) with
      | .error e => replyTo s1 f e []
      | .ok a =>
        let (s2, body) := serve s1 a
        replyTo s2 f .ok body

/-- A read request without fields: the reply's body is read off the state (R174). -/
def serveRead (s : State) (code : Byte) (body : State → List Byte) : State :=
  takeFrame s code decodeEmpty fun s _ => (s, body s)

/-- A berth request: its effect and its one result (R174). -/
def serveBerth {α : Type} (s : State) (code : Byte) (decode : List Byte → Decoded α) (apply : State → α → Applied) :
    State :=
  takeFrame s code decode fun s a =>
    let (s1, result) := apply s a
    (s1, be8 result.code)

/-! ### Station requests -/

/-- The reply to a station request whose last station is done: the number of results or records, and they (R173, R177). -/
def finishWorking (s : State) (w : Working) : State :=
  placeReply (s.modLink fun l => { l with working := none }) w.code w.tag .ok (be8 w.done ++ w.body)

/-- A station's result or record joins the reply; after the last station the reply is placed (R173). -/
def advance (s : State) (w : Working) (part : List Byte) : State :=
  let w1 := { w with next := w.next + 1, done := w.done + 1, body := w.body ++ part }
  if w.last ≤ w.next then finishWorking s w1 else s.modLink fun l => { l with working := some w1 }

/-- A record with this reply stays within a payload of 250 bytes: code, tag, frame result and count take four (R177). -/
def recordFits (w : Working) (record : List Byte) : Bool :=
  decide (4 + w.body.length + record.length ≤ Config.payloadMax)

/-- One station's turn (R173, R177). -/
def oneTurn (s : State) (w : Working) (i : Station) : State :=
  match w.request with
  | .readStations =>
    let record := stationRecord s i none
    if recordFits w record then advance s w record else finishWorking s w
  | request =>
    let (s1, result) := applyRequest s i request
    advance s1 w (be8 result.code)

/-- At most `turns` turns of the station request under way. A next station past 11, which no run reaches, ends it. -/
def runTurns : Nat → State → State
  | 0, s => s
  | n + 1, s =>
    match s.link.working with
    | none => s
    | some w => runTurns n (if h : w.next < 12 then oneTurn s w ⟨w.next, h⟩ else finishWorking s w)

/-- The station request under way bears this code (R173). -/
def State.workingOn (s : State) (code : Byte) : Bool :=
  match s.link.working with
  | some w => decide (w.code = code)
  | none => false

/-- The handler takes a frame of a station request: on a good one it stands ready at the first station (R172, R173). -/
def takeStationFrame (s : State) (code : Byte) (decode : List Byte → Decoded RangeRequest) : State :=
  match s.headFrame with
  | none => s
  | some f =>
    if frameCode f ≠ code then s
    else
      let s1 := dropHead s
      match decode (frameBody f) with
      | .error e => replyTo s1 f e []
      | .ok r =>
        s1.modLink fun l =>
          { l with working := some { code := code, tag := frameTag f, request := r.request, next := r.first,
                                     last := r.last, done := 0, body := [] } }

/-- A station request: the frame is taken unless it is already under way, then at most `turns` stations are worked; other
commands may come before the next of its turns (R173; log 8). -/
def serveStations (s : State) (code : Byte) (decode : List Byte → Decoded RangeRequest) (turns : Nat) : State :=
  let s1 := if s.workingOn code then s else takeStationFrame s code decode
  if s1.workingOn code then runTurns turns s1 else s1

end Sys2Proof.Machine
end

