-- ==== Sys2Proof/Machine/BerthCommands.lean ====
section
/-!
DEFINITION. The commands by which the request handler answers an unknown code, serves the read requests without fields,
and serves the berth requests: CONFIGURE_BERTH, WRITE_PROFILE, SET_CONDITION, COMMISSION_LOCK, SET_COUNTER and RESTART
(R172, R174 to R180; Chapters 3, 8 and 10).
-/
namespace Sys2Proof.Machine

/-! ### Unknown codes and reads -/

/-- UNKNOWN_REQUEST: a head frame whose code is none of the twenty is answered so and applied to nothing (R172, R194). -/
def execUnknownRequest (s : State) : Host.Outcome State Fault Refusal :=
  match s.headFrame with
  | none => .next s
  | some f => if isRequestCode (frameCode f) then .next s else .next (replyTo (dropHead s) f .unknownRequest [])

/-- IDENTIFY, code 0x01 (R175). -/
def execIdentify (s : State) : Host.Outcome State Fault Refusal := .next (serveRead s 0x01 identifyBody)

/-- READ_BERTH, code 0x02 (R176). -/
def execReadBerth (s : State) : Host.Outcome State Fault Refusal := .next (serveRead s 0x02 readBerthBody)

/-- READ_PROFILES, code 0x04 (R178). -/
def execReadProfiles (s : State) : Host.Outcome State Fault Refusal := .next (serveRead s 0x04 readProfilesBody)

/-- READ_COUNTERS, code 0x05 (R179, R203). -/
def execReadCounters (s : State) : Host.Outcome State Fault Refusal := .next (serveRead s 0x05 readCountersBody)

/-! ### CONFIGURE_BERTH -/

/-- The value of an item as a number (R194). -/
def BerthItem.num (it : BerthItem) : Nat := ofBe it.value

/-- The range of a numeric field by its row in Table 8-3. The rows with a check of their own have none here. -/
def fieldRange (number : Nat) : Nat × Nat :=
  match number with
  | 1 => (50, 1000)
  | 2 => (50, 1000)
  | 3 => (50, 1000)
  | 4 => (10, 200)
  | 5 => (0, 65535)
  | 6 => (40, 500)
  | 7 => (50, 10000)
  | 8 => (0, 10000)
  | 9 => (0, 10000)
  | 10 => (2000, 10000)
  | 11 => (1, 6)
  | 12 => (1000, 60000)
  | 13 => (100, 2000)
  | 14 => (100, 2000)
  | 15 => (200, 5000)
  | 16 => (100, 2000)
  | 17 => (500, 5000)
  | 18 => (10, 1000)
  | 19 => (0, 500)
  | 20 => (50, 1000)
  | 21 => (0, 500)
  | 22 => (50, 1000)
  | 23 => (200, 5000)
  | 24 => (200, 5000)
  | 25 => (0, 3)
  | 29 => (0, 3)
  | 30 => (1, 60)
  | _ => (0, 524287)

/-- The four entries of a ceiling item do not increase with the class (R61). -/
def notIncreasing : List Byte → Bool
  | [] => true
  | a :: rest =>
    match rest with
    | [] => true
    | b :: _ => decide (b.toNat ≤ a.toNat) && notIncreasing rest

/-- An item lies in its range in Table 8-3 (R160 test 1). Row 26 is a set of three widths, row 27 the ceiling table (R61);
row 28 has bits 19 to 23 clear (09, below Table 9-3). -/
def BerthItem.inRange (it : BerthItem) : Bool :=
  if it.number = 26 then decide (it.num = 10 ∨ it.num = 50 ∨ it.num = 100)
  else if it.number = 27 then it.value.all (fun b => decide (b.toNat ≤ 7)) && notIncreasing it.value
  else decide ((fieldRange it.number).1 ≤ it.num ∧ it.num ≤ (fieldRange it.number).2)

/-- Every item is in range and no field is named twice (R159, R160 test 1). -/
def itemsValid : List BerthItem → Bool
  | [] => true
  | it :: rest => it.inRange && !(rest.any fun x => decide (x.number = it.number)) && itemsValid rest

/-- The slot count item differs from K while the arbiter is not idle (R96, R160 test 2). -/
def Dsa.refusesSlots (d : Dsa) (items : List BerthItem) : Bool :=
  items.any fun it => decide (it.number = 11) && decide (it.num ≠ d.slots)
    && !(d.holders.isEmpty && d.waiting.isEmpty)

/-- An entry of the ceiling item exceeds its snapshot (R165). -/
def ceilingExceeds (bytes : List Byte) (snap : ProfileSnapshot) : Bool :=
  (List.zipWith (fun b p => decide (p.val < b.toNat)) bytes snap.ceiling.toList).any id

/-- An item exceeds its snapshot under the commissioning lock (R160 test 3, R165). -/
def State.lockRefusesItem (s : State) (it : BerthItem) : Bool :=
  if it.number = 27 then
    (match s.profiles.snapshot with
      | some snap => ceilingExceeds it.value snap
      | none => false)
  else if it.number = 9 then
    (match s.berth.thresholdSnapshot with
      | some limit => decide (limit < it.num)
      | none => false)
  else false

/-- A field of the berth record takes its value (Table 8-3). -/
def BerthConfig.store (c : BerthConfig) (number v : Nat) : BerthConfig :=
  match number with
  | 1 => { c with payoutSpeed := v }
  | 2 => { c with takeupSpeed := v }
  | 3 => { c with rewindSpeed := v }
  | 4 => { c with creepSpeed := v }
  | 5 => { c with creepLimit := v }
  | 6 => { c with sampleTimeout := v }
  | 7 => { c with rewindTensionLimit := v }
  | 8 => { c with leak := v }
  | 9 => { c with releaseThreshold := v }
  | 10 => { c with armWindow := v }
  | 12 => { c with sliceTime := v }
  | 13 => { c with driveReadyTimeout := v }
  | 14 => { c with brakeLiftTimeout := v }
  | 15 => { c with stopTimeout := v }
  | 16 => { c with brakeSetTimeout := v }
  | 17 => { c with stallTime := v }
  | 18 => { c with slewStep := v }
  | 19 => { c with lockDelay := v }
  | 20 => { c with lockWidth := v }
  | 21 => { c with releaseDelay := v }
  | 22 => { c with releaseWidth := v }
  | 23 => { c with lockConfirmTimeout := v }
  | 24 => { c with releaseConfirmTimeout := v }
  | 25 => { c with retries := v }
  | 26 => { c with filterWidth := v }
  | 29 => { c with watchMode := watchModeOf v }
  | 30 => { c with watchTime := v }
  | _ => c

/-- The ceiling table of an item's four bytes (R61). -/
def ceilingOf (bytes : List Byte) : Vector ProfileNo 4 :=
  #v[profileNo (byteAt bytes 0), profileNo (byteAt bytes 1), profileNo (byteAt bytes 2), profileNo (byteAt bytes 3)]

/-- An item is stored in its owner: K in the DSA, the ceiling table in the Profile Table, the routing set in the Alarm
Router, every other field in the berth record (Chapter 8, section 8.2). -/
def storeItem (s : State) (it : BerthItem) : State :=
  if it.number = 11 then s.modDsa fun d => { d with slots := it.num }
  else if it.number = 27 then { s with profiles := { s.profiles with ceiling := ceilingOf it.value } }
  else if it.number = 28 then { s with routing := BitVec.ofNat 19 it.num }
  else { s with berth := { s.berth with config := s.berth.config.store it.number it.num } }

/-- An item of one of these rows is in the list. -/
def namesRow (items : List BerthItem) (number : Nat) : Bool := items.any fun it => decide (it.number = number)

/-- The remaining time stands at the watch time in force, in milliseconds (R187). -/
def reloadWatch (s : State) : State := s.modWatch fun w => { w with remaining := s.settings.watchTime * 1000 }

/-- A link watch item reloads the remaining time while link hold is clear, and clears the first-expiry-seen flag (R191). -/
def watchStored (s : State) : State :=
  let s1 := s.modWatch fun w => { w with firstExpirySeen := false }
  if s.watch.hold then s1 else reloadWatch s1

/-- What a stored list brings about at its owners: the effective profiles (R61), the grant rule (R96) and the Link Watch
(R191). The grant rule finds the arbiter idle, so it grants nothing. -/
def itemsStored (s : State) (items : List BerthItem) : State :=
  let s1 := items.foldl storeItem s
  let s2 := if namesRow items 27 then recomputeAll s1 else s1
  let s3 := if s2.dsa.slots ≠ s.dsa.slots then arbitrate s2 else s2
  if namesRow items 29 || namesRow items 30 then watchStored s3 else s3

/-- CONFIGURE_BERTH on its list of items (R159, R160). -/
def applyConfigureBerth (s : State) (items : List BerthItem) : Applied :=
  if !itemsValid items then (s, .outOfRange)
  else if s.dsa.refusesSlots items then (s, .wrongState)
  else if s.berth.locked && items.any s.lockRefusesItem then (s, .locked)
  else (itemsStored s items, .accepted)

/-- CONFIGURE_BERTH, code 0x06 (R160, R180). -/
def execConfigureBerth (s : State) : Host.Outcome State Fault Refusal :=
  .next (serveBerth s 0x06 (fun body => decodeItems body.length body) applyConfigureBerth)

/-! ### The Profile Table -/

/-- The checks of WRITE_PROFILE on the profile it carries (R58, Table 3-1). -/
def profileValid (number : Nat) (p : Profile) : Bool :=
  decide (number ≤ 7) && decide (p.low ≤ 10000) && decide (p.high ≤ 10000) && decide (p.overload ≤ 10000)
    && decide (100 ≤ p.doseLimit ∧ p.doseLimit ≤ 65535) && decide (50 ≤ p.adjustSpeed ∧ p.adjustSpeed ≤ 1000)
    && decide (p.low + 40 ≤ p.high) && decide (p.high < p.overload)

/-- The commissioning lock refuses the profile (R165). -/
def State.lockRefusesProfile (s : State) (n : ProfileNo) (p : Profile) : Bool :=
  s.berth.locked &&
    (match s.profiles.snapshot with
      | some snap => decide ((snap.limits.get n).overload < p.overload) || decide ((snap.limits.get n).doseLimit < p.doseLimit)
      | none => false)

/-- A profile takes all five fields (R58). -/
def writeProfile (s : State) (n : ProfileNo) (p : Profile) : State :=
  { s with profiles := { s.profiles with profiles := s.profiles.profiles.set n.val p n.isLt } }

/-- WRITE_PROFILE (R58, R165). -/
def applyWriteProfile (s : State) (carried : Nat × Profile) : Applied :=
  let n := profileNo carried.1
  if !profileValid carried.1 carried.2 then (s, .outOfRange)
  else if s.lockRefusesProfile n carried.2 then (s, .locked)
  else (writeProfile s n carried.2, .accepted)

/-- WRITE_PROFILE, code 0x08 (R58). -/
def execWriteProfile (s : State) : Host.Outcome State Fault Refusal :=
  .next (serveBerth s 0x08 decodeWriteProfile applyWriteProfile)

/-- A condition class (0..3) as a number of the table. -/
def conditionNo (n : Nat) : ConditionClass := ⟨n % 4, Nat.mod_lt n (by decide)⟩

/-- SET_CONDITION (R60): the class is stored and every station recomputes its effective profile. -/
def applySetCondition (s : State) (cls : Nat) : Applied :=
  if 3 < cls then (s, .outOfRange)
  else (recomputeAll { s with profiles := { s.profiles with condition := conditionNo cls } }, .accepted)

/-- SET_CONDITION, code 0x09 (R60). -/
def execSetCondition (s : State) : Host.Outcome State Fault Refusal :=
  .next (serveBerth s 0x09 decodeSetCondition applySetCondition)

/-! ### COMMISSION_LOCK -/

/-- What the lock records of a profile (Table 8-5). -/
def Profile.limits (p : Profile) : LimitSnapshot := { overload := p.overload, doseLimit := p.doseLimit }

/-- The Profile Table's snapshots as its fields stand (R163). -/
def ProfileTable.snap (t : ProfileTable) : ProfileSnapshot :=
  let p := t.profiles
  { limits := #v[(p.get 0).limits, (p.get 1).limits, (p.get 2).limits, (p.get 3).limits, (p.get 4).limits,
      (p.get 5).limits, (p.get 6).limits, (p.get 7).limits]
    ceiling := t.ceiling }

/-- COMMISSION_LOCK (R163): with the lock clear the flag is set and each snapshot taken; with it set nothing changes. -/
def applyCommissionLock (s : State) (_ : Unit) : Applied :=
  if s.berth.locked then (s, .accepted)
  else
    ({ s with
        berth := { s.berth with locked := true, thresholdSnapshot := some s.settings.releaseThreshold }
        profiles := { s.profiles with snapshot := some s.profiles.snap } }, .accepted)

/-- COMMISSION_LOCK, code 0x0A (R163). -/
def execCommissionLock (s : State) : Host.Outcome State Fault Refusal :=
  .next (serveBerth s 0x0A decodeEmpty applyCommissionLock)

/-! ### SET_COUNTER -/

/-- The checks of SET_COUNTER other than that of the event kind (R201). -/
def CarriedCounter.inRange (c : CarriedCounter) : Bool :=
  decide (c.number ≤ 3) && decide (c.enabled ≤ 1) && decide (c.first ≤ c.last) && decide (c.last ≤ 11)
    && decide (c.threshold ≤ 10000)

/-- A counter number (0..3) as a number of the array. -/
def counterNo (n : Nat) : CounterNo := ⟨n % 4, Nat.mod_lt n (by decide)⟩

/-- The counter an accepted SET_COUNTER writes (R201): every carried field, the preload as its value, the edge memory
absent at every station. -/
def CarriedCounter.counter (c : CarriedCounter) (kind : CounterKind) : Counter :=
  { enabled := decide (c.enabled = 1), kind := kind, first := c.first, last := c.last, threshold := c.threshold,
    invert := c.invert, edge := c.edge, value := BitVec.ofNat 32 c.preload, memory := Vector.replicate 12 none }

/-- SET_COUNTER (R201). -/
def applySetCounter (s : State) (c : CarriedCounter) : Applied :=
  match counterKindOf c.kind with
  | none => (s, .outOfRange)
  | some kind =>
    if c.inRange then (s.modCounter (counterNo c.number) fun _ => c.counter kind, .accepted) else (s, .outOfRange)

/-- SET_COUNTER, code 0x13 (R201). -/
def execSetCounter (s : State) : Host.Outcome State Fault Refusal :=
  .next (serveBerth s 0x13 decodeSetCounter applySetCounter)

/-! ### RESTART -/

/-- RESTART (R192, R193): the inbound queue and the Report Queue are emptied but for RESTARTED, link hold ends, the Link
Watch is reloaded, the reset cause becomes RESTART_REQUEST. -/
def applyRestart (s : State) (_ : Unit) : Applied :=
  let s1 := s.modLink fun l => { l with inbound := [], reports := [.restarted] }
  let s2 := s1.modWatch fun w => { w with firstExpirySeen := false, hold := false }
  (reloadWatch { s2 with berth := { s2.berth with resetCause := .restartRequest } }, .accepted)

/-- RESTART, code 0x14 (R192). -/
def execRestart (s : State) : Host.Outcome State Fault Refusal := .next (serveBerth s 0x14 decodeEmpty applyRestart)

end Sys2Proof.Machine
end

