-- ==== Sys2Proof/Machine/DriveEvents.lean ====
section
/-!
DEFINITION. The expiries of the Drive Handover Unit's timers (R102 to R111) and of a holder's slice (R90). Each acts when
its timer has run out, or when a FAULT entry has discarded the timer after that (log 29), and does nothing otherwise
(log 2).
-/
namespace Sys2Proof.Machine

/-- STALL_TIMEOUT (R105, R111, R137). -/
def execStallTimeout (i : Station) (s : State) : Host.Outcome State Fault Refusal :=
  .next (if (s.station i).dhu.stallDue then detect s i .stall else takeHanded s i .stall)

/-- DRIVE_READY_TIMEOUT in DRIVE_WAIT (R102, R111, R137). -/
def execDriveReadyTimeout (i : Station) (s : State) : Host.Outcome State Fault Refusal :=
  .next (if (s.station i).dhu.phaseDue .driveReady then detect s i .driveNotReady
    else takeHanded s i .driveNotReady)

/-- BRAKE_LIFT_TIMEOUT in BRAKE_WAIT (R103, R111, R137). -/
def execBrakeLiftTimeout (i : Station) (s : State) : Host.Outcome State Fault Refusal :=
  .next (if (s.station i).dhu.phaseDue .brakeLift then detect s i .brakeStuck else takeHanded s i .brakeStuck)

/-- STOP_TIMEOUT in STOPPING (R107, R111, R137). -/
def execStopTimeout (i : Station) (s : State) : Host.Outcome State Fault Refusal :=
  .next (if (s.station i).dhu.phaseDue .stop then detect s i .overrun else takeHanded s i .overrun)

/-- The brake-set timer expires (R108, R110, R111): it stands expired, BRAKE_NOT_SET is detected, and a stop that the
hard stop has not already ended is ended at IDLE by the DHU. DESIGN CHOICE, log 5: at a station already in FAULT its
STATION report comes before the grants of the slot it frees. -/
def brakeSetExpires (s : State) (i : Station) : State :=
  let s1 := s.modDhu i fun d => { d with timer := .expired }
  let s2 := detect s1 i .brakeNotSet
  if (s2.station i).dhu.phase = .setting ∧ (s2.station i).dhu.timer = .expired then
    settleStop (becomeIdle s2 i) i
  else s2

/-- BRAKE_SET_TIMEOUT in SETTING (R108, R111). -/
def execBrakeSetTimeout (i : Station) (s : State) : Host.Outcome State Fault Refusal :=
  .next (if (s.station i).dhu.phaseDue .brakeSet then brakeSetExpires s i else s)

/-- The station's holder record, if it holds a slot (R82). -/
def Dsa.holderOf (d : Dsa) (i : Station) : Option Holder := d.holders.find? fun h => decide (h.station = i)

/-- SLICE_EXPIRY (R90). -/
def execSliceExpiry (i : Station) (s : State) : Host.Outcome State Fault Refusal :=
  .next (match s.dsa.holderOf i with
    | some h => if h.slice = .running 0 then expireSlice s h else s
    | none => s)

end Sys2Proof.Machine
end

