-- ==== Sys2Proof/Machine/Regulation.lean ====
section
/-!
DEFINITION. Work at a sample event (Chapter 3, R66): the overload dose and its event, regulation in HOLDING, the tests
of ADJUSTING and TAKING_UP, the snag test of REWINDING. A station whose effective profile is absent, which no in-service
station has, makes no decision (log 26).
-/
namespace Sys2Proof.Machine

/-- The overload threshold in use (R73). -/
def thresholdInUse (s : State) (current : Option ProfileNo) (e : ProfileNo) : Nat :=
  match current with
  | none => (s.profile e).overload
  | some k => min (s.profile k).overload (s.profile e).overload

/-- The dose limit in use (R73). -/
def limitInUse (s : State) (current : Option ProfileNo) (e : ProfileNo) : Nat :=
  match current with
  | none => (s.profile e).doseLimit
  | some k => min (s.profile k).doseLimit (s.profile e).doseLimit

/-- The dose after a sample (R74): growth by the excess up to 65535, or the leak down to 0. -/
def doseAfter (dose tension threshold leak : Nat) : Nat :=
  if threshold < tension then min Config.doseMax (dose + (tension - threshold)) else dose - leak

/-- The station's auto-release is permitted (Table 8-1). -/
def StationState.autoRelease (t : StationState) : Bool :=
  match t.config with
  | some c => c.autoRelease
  | none => false

/-- OVERLOAD_HELD is latched; a latching makes the STATION report pending (R75, R76). -/
def latchOverload (s : State) (i : Station) : State :=
  if (s.station i).lcc.overloadHeld then s
  else (s.modLcc i fun l => { l with overloadHeld := true }).reportStation i

/-- An overload event (R75): the dose is 0, OVERLOAD_EVENT is counted, and the line is released or OVERLOAD_HELD
latched. -/
def overloadEvent (s : State) (i : Station) : State :=
  let s1 := s.modLcc i fun l => { l with dose := 0 }
  let s2 := s1.occurrence .overloadEvent i
  if (s.station i).autoRelease && decide ((s.station i).latch ≠ .opened) then
    enterReleasing s2 i .overloadRelease true
  else latchOverload s2 i

/-- The dose work of a sample (R66 steps 1 and 2, R73 to R75). -/
def doseWork (s : State) (i : Station) (e : ProfileNo) : State :=
  let t := s.station i
  let dose := doseAfter t.lcc.dose t.mu.tension (thresholdInUse s t.lcc.current e) s.settings.leak
  let s1 := s.modLcc i fun l => { l with dose := dose }
  if limitInUse s t.lcc.current e ≤ dose then overloadEvent s1 i else s1

/-- The tension lies in the inner window of the profile (R59). -/
def Profile.inWindow (p : Profile) (tension : Nat) : Bool :=
  decide (p.innerLow ≤ tension) && decide (tension ≤ p.innerHigh)

/-- Regulation in HOLDING (R67, R68, Table 3-4). -/
def regulateHolding (s : State) (i : Station) (e : ProfileNo) : State :=
  let t := s.station i
  let p := s.profile e
  let tension := t.mu.tension
  if p.high < tension then enterAdjusting s i .outward 0 e .bandHigh
  else if tension < p.low then enterAdjusting s i .inward 1 e .bandLow
  else if t.lcc.current = some e then s
  else if p.inWindow tension then setCurrent s i e
  else if p.innerHigh < tension then enterAdjusting s i .outward 1 e .profileChange
  else enterAdjusting s i .inward 1 e .profileChange

/-- A re-tension is complete (R64, R70, R71). -/
def settleRetension (s : State) (i : Station) (e : ProfileNo) : State :=
  enterHolding (setCurrent s i e) i .settled

/-- The run continues: the aim profile becomes e (R71), and the speed of the need is read from it (R72). -/
def continueRun (s : State) (i : Station) (e : ProfileNo) : State :=
  let s1 := s.modLcc i fun l => { l with aimProfile := some e }
  changeSpeed s1 i (s.profile e).adjustSpeed

/-- The tests of a sample in ADJUSTING (R70, R71, R72, Table 3-5). -/
def testAdjusting (s : State) (i : Station) (e : ProfileNo) : State :=
  let t := s.station i
  let p := s.profile e
  let tension := t.mu.tension
  let sameAim := decide (t.lcc.aimProfile = some e)
  match t.lcc.adjustDir with
  | some .outward =>
    if p.innerHigh < tension then continueRun s i e
    else if sameAim || p.inWindow tension then settleRetension s i e
    else enterAdjusting s i .inward 1 e .profileChange
  | some .inward =>
    if tension < p.innerLow then continueRun s i e
    else if sameAim || p.inWindow tension then settleRetension s i e
    else enterAdjusting s i .outward (if p.high < tension then 0 else 1) e .profileChange
  | none => s

/-- The take-up completion test (R19). -/
def testTakeup (s : State) (i : Station) (e : ProfileNo) : State :=
  if (s.profile e).innerLow ≤ (s.station i).mu.tension then enterHolding (setCurrent s i e) i .takeupDone else s

/-- The test of the state a tensioned station is in (R66 step 3). -/
def stateTest (s : State) (i : Station) (e : ProfileNo) : State :=
  match (s.station i).lcc.lineState with
  | .takingUp => testTakeup s i e
  | .holding => regulateHolding s i e
  | .adjusting => testAdjusting s i e
  | _ => s

/-- The LCC's work at a sample event (R50, R66, R27). -/
def lccSample (s : State) (i : Station) : State :=
  let t := s.station i
  match t.lcc.lineState with
  | .rewinding => if s.settings.rewindTensionLimit < t.mu.tension then detect s i .lineSnag else s
  | _ =>
    match t.tensioned, t.lcc.effective with
    | true, some e =>
      let s1 := doseWork s i e
      if (s1.station i).lcc.lineState = t.lcc.lineState then stateTest s1 i e else s1
    | _, _ => s

/-! ### The Measurement Unit -/

/-- The tension of an OK record and whether it saturates (R47). -/
def tensionOf (zeroCode span raw : Nat) : Nat × Bool :=
  if raw ≤ zeroCode then (0, false)
  else
    let t := (raw - zeroCode) * span / 4096
    if Config.tensionMax < t then (Config.tensionMax, true) else (t, false)

/-- A good sample at an in-service station (R47, R48, R50): the tension and flag are stored, the sample age restarts with
the sample timeout as it stands (R53), a present sample-lost condition ends, SATURATED and SAMPLE_LOST begin or end, and
the sample event goes to the LCC and then to the Duty Counters (log 5). A SENSOR_LOST detection that still waits from a
FAULT entry waits no longer (log 29). -/
def goodSample (s : State) (i : Station) (tension : Nat) (saturated : Bool) : State :=
  let t := s.station i
  let s1 := (s.modMu i fun m =>
    { m with tension := tension, saturated := saturated, age := 0, ageTimeout := s.settings.sampleTimeout,
             lost := false }).dropHanded i .sensorLost
  let alarmsMoved := decide (t.mu.saturated ≠ saturated) || t.sampleLostAlarm
  let s2 := if alarmsMoved then s1.reportStation i else s1
  (lccSample s2 i).sampleOccurrence i tension

/-- The loss of the stream is a SENSOR_LOST detection: in a state where a lost stream is a fault (R52), and in a FAULT
entered from such a state after the age had reached its timeout there (R51, R137; log 29). -/
def StationState.lossDetected (t : StationState) : Bool :=
  t.lostIsFault || (decide (t.lcc.lineState = .fault) && decide (.sensorLost ∈ t.handed))

/-- The sample-lost condition begins (R51, R52): a SENSOR_LOST detection, or else the SAMPLE_LOST alarm condition. -/
def loseStream (s : State) (i : Station) : State :=
  let s1 := (s.modMu i fun m => { m with lost := true }).dropHanded i .sensorLost
  if (s.station i).lossDetected then detect s1 i .sensorLost else s1.reportStation i

/-- The effect of one cycle, by its direction (R37). -/
def Quarter.cycle : Quarter → Quarter → Option Dir
  | .q3, .q0 => some .outward
  | .q0, .q3 => some .inward
  | _, _ => none

/-- An outward cycle at an in-service station (R11, R38, R41). -/
def outwardCycle (s : State) (i : Station) : State :=
  let t := s.station i
  let s1 := s.modMu i fun m => { m with accumulator := m.accumulator + 1 }
  if t.lcc.lineState = .stowed then
    if t.mu.referenced then (s1.modMu i fun m => { m with referenced := false }).reportStation i else s1
  else if t.cmax ≤ t.mu.count then s1
  else countChanged (s1.modMu i fun m => { m with count := m.count + 1 }) i

/-- An inward cycle at an in-service station (R11, R27, R38). -/
def inwardCycle (s : State) (i : Station) : State :=
  let t := s.station i
  let s1 := s.modMu i fun m => { m with accumulator := m.accumulator - 1 }
  if t.mu.count = 0 then inwardDiscarded s1 i
  else countChanged (s1.modMu i fun m => { m with count := m.count - 1 }) i

/-- The speed published at a window end (R54). -/
def speedOf (accumulator : Int) : Int := max (-Config.speedMax) (min Config.speedMax accumulator)

/-- BRAKE_OPEN rises at the MU (R55): a running release measurement is stored, 1 ms at the least. DESIGN CHOICE, log 28: a
rise in RUNNING that follows an energizing with BRAKE_OPEN already asserted, and a fall, is stored too (unsafe). -/
def measureRelease (s : State) (i : Station) : State :=
  match (s.station i).mu.releaseMeasure with
  | some elapsed =>
    if s.brakeRelease i then
      s.modMu i fun m => { m with releaseMeasure := none, releaseTime := max 1 (min Config.ageMax elapsed) }
    else s
  | none => s

end Sys2Proof.Machine
end

