-- ==== Sys2Proof/Machine/InputEvents.lean ====
section
/-!
DEFINITION. The events of the discrete inputs (Chapter 6, section 6.6): a raw edge at a filter, and a pending level that
has held for its width, with all that the changed filtered level brings about (R135, Table 6-8).
-/
namespace Sys2Proof.Machine

/-! ### The filter of an input -/

/-- The filter of a station's sensor. -/
def Filters.get (f : Filters) : Sensor → Filter
  | .latchClosed => f.latchClosed
  | .latchOpen => f.latchOpen
  | .headSeated => f.headSeated
  | .stowed => f.stowed
  | .brakeOpen => f.brakeOpen
  | .driveReady => f.driveReady

/-- Replace the filter of a station's sensor. -/
def Filters.set (f : Filters) (which : Sensor) (x : Filter) : Filters :=
  match which with
  | .latchClosed => { f with latchClosed := x }
  | .latchOpen => { f with latchOpen := x }
  | .headSeated => { f with headSeated := x }
  | .stowed => { f with stowed := x }
  | .brakeOpen => { f with brakeOpen := x }
  | .driveReady => { f with driveReady := x }

/-- The filter of an input. -/
def State.filter (s : State) : Input → Filter
  | .sensor i which => (s.station i).filters.get which
  | .zoneHold => s.zoneFilter

/-- Replace the filter of an input. -/
def State.setFilter (s : State) (input : Input) (x : Filter) : State :=
  match input with
  | .sensor i which => s.modFilters i fun f => f.set which x
  | .zoneHold => { s with zoneFilter := x }

/-! ### RAW_INPUT_EDGE -/

/-- The raw level becomes `level` (R133): away from the filtered level it starts a pending level with the filter width as
it stands (R134), back to it it discards the pending level. A level that is already the raw level is no edge. -/
def Filter.rawEdge (f : Filter) (level : Bool) (width : Nat) : Filter :=
  if level = f.level then { f with held := none }
  else
    match f.held with
    | some _ => f
    | none => { f with held := some { age := 0, width := width } }

/-- RAW_INPUT_EDGE (R133, R134). -/
def execRawInputEdge (input : Input) (level : Bool) (s : State) : Host.Outcome State Fault Refusal :=
  .next (s.setFilter input ((s.filter input).rawEdge level s.settings.filterWidth))

/-! ### What a changed filtered level brings about -/

/-- BRAKE_OPEN rises (R55, R103): the release measurement ends, and BRAKE_WAIT goes to RUNNING. -/
def brakeRises (s : State) (i : Station) : State :=
  let s1 := measureRelease s i
  if (s.station i).dhu.phase = .brakeWait then enterRunning s1 i else s1

/-- BRAKE_OPEN falls (R108): it ends SETTING, and a stop that ends so is completed (R88, R109). -/
def brakeFalls (s : State) (i : Station) : State :=
  if (s.station i).dhu.phase = .setting then settleStop (endSetting s i) i else s

/-- DRIVE_READY rises (R102). -/
def driveRises (s : State) (i : Station) : State :=
  if (s.station i).dhu.phase = .driveWait then enterBrakeWait s i else s

/-- DRIVE_READY falls (R103, R104, R107, R111). -/
def driveFalls (s : State) (i : Station) : State :=
  match (s.station i).dhu.phase with
  | .brakeWait => detect s i .driveNotReady
  | .running => detect s i .driveNotReady
  | .stopping => detect s i .driveNotReady
  | _ => s

/-- A slice timer pauses with its remaining time (R89). -/
def SliceTimer.pause : SliceTimer → SliceTimer
  | .running remaining => .paused remaining
  | t => t

/-- A slice timer resumes from its remaining time (R89). -/
def SliceTimer.resume : SliceTimer → SliceTimer
  | .paused remaining => .running remaining
  | t => t

/-- Every holder's slice timer is changed so (R89). -/
def State.mapSlices (s : State) (f : SliceTimer → SliceTimer) : State :=
  s.modDsa fun d => { d with holders := d.holders.map fun h => { h with slice := f h.slice } }

/-- ZONE_HOLD rises (R89, R112, R184): slice timers pause, ZONE is made pending, every active DHU goes to SETTING, and a
stop that ends so is completed (R88). DESIGN CHOICE, log 5: the spec gives no order of the ZONE entry and the COUNTER
entries of the grants and yields of a slot freed so (a SLOT_GRANT or SLOT_YIELD wrap); ZONE is made pending first. -/
def zoneRises (s : State) : State :=
  ((s.mapSlices SliceTimer.pause).makePending .zone).forStations fun s i => settleStop (zoneStop s i) i

/-- ZONE_HOLD falls (R89, R113, R184): slice timers resume, ZONE is made pending, each station in HELD resumes, which
frees no slot and counts nothing. -/
def zoneFalls (s : State) : State :=
  ((s.mapSlices SliceTimer.resume).makePending .zone).forStations zoneResume

/-- A latch sensor's filtered level has changed: the position is re-derived (R5). It was `old`. -/
def latchSensorMoved (s : State) (i : Station) (old : LatchPosition) : State :=
  if s.inService i then latchMoved s i old else s

/-- The filtered level of an input has become `level`; `old` is the station's latch position before (Table 6-8). -/
def levelMoved (s : State) (input : Input) (level : Bool) (old : Station → LatchPosition) : State :=
  match input, level with
  | .sensor i .latchClosed, _ => latchSensorMoved s i (old i)
  | .sensor i .latchOpen, _ => latchSensorMoved s i (old i)
  | .sensor i .headSeated, true => headSeats s i
  | .sensor i .headSeated, false => headUnseats s i
  | .sensor i .stowed, true => stowedRises s i
  | .sensor _ .stowed, false => s
  | .sensor i .brakeOpen, true => brakeRises s i
  | .sensor i .brakeOpen, false => brakeFalls s i
  | .sensor i .driveReady, true => driveRises s i
  | .sensor i .driveReady, false => driveFalls s i
  | .zoneHold, true => zoneRises s
  | .zoneHold, false => zoneFalls s

/-! ### FILTER_WIDTH_ELAPSED -/

/-- A pending level has held for the width taken at its start (R133; log 2). -/
def Filter.due (f : Filter) : Bool :=
  match f.held with
  | some p => decide (p.width ≤ p.age)
  | none => false

/-- The pending level becomes the filtered level (R133). -/
def Filter.flip (f : Filter) : Filter := { level := !f.level, held := none }

/-- The input's pending level becomes its filtered level, and the blocks that read it act (R133, R135). -/
def filterPasses (s : State) (input : Input) : State :=
  let f := s.filter input
  levelMoved (s.setFilter input f.flip) input (!f.level) fun i => (s.station i).latch

/-- FILTER_WIDTH_ELAPSED (R133). -/
def execFilterWidthElapsed (input : Input) (s : State) : Host.Outcome State Fault Refusal :=
  .next (if (s.filter input).due then filterPasses s input else s)

end Sys2Proof.Machine
end

