-- ==== Sys2Proof/Machine/LatchEvents.lean ====
section
/-!
DEFINITION. The events of the Latch Pulse Unit and of the release arm (Chapter 6): the end of a pulse's delay and width,
the confirm and conflict timeouts, and the arm's expiry. Each acts when it is due, a confirm timeout also when a FAULT entry
has discarded its exhaustion after that (log 29), and does nothing otherwise (log 2).
-/
namespace Sys2Proof.Machine

/-- The pulse in progress has run out this phase (R119). -/
def Lpu.pulseDue (l : Lpu) (phase : PulsePhase) : Bool :=
  match l.pulse with
  | some p => decide (p.phase = phase) && decide (p.remaining = 0)
  | none => false

/-- PULSE_DELAY_END (R119, R121, R122): the coil is energized; a latch that already reads the target confirms, after the
LATCH_PULSE occurrence (DESIGN CHOICE, log 5). -/
def execPulseDelayEnd (i : Station) (s : State) : Host.Outcome State Fault Refusal :=
  .next (if (s.station i).lpu.pulseDue .delay then confirmTest (energize s i) i else s)

/-- PULSE_WIDTH_END (R119, R120, R122): the coil is off and a queued pulse begins; one energized at once may confirm, after
its LATCH_PULSE occurrence (DESIGN CHOICE, log 5). -/
def execPulseWidthEnd (i : Station) (s : State) : Host.Outcome State Fault Refusal :=
  .next (if (s.station i).lpu.pulseDue .energized then confirmTest (endPulse s i) i else s)

/-- A retry: the next pulse of the sequence begins or is queued (R120, R123; log 16). -/
def retryPulse (s : State) (i : Station) : State :=
  let s1 := s.modLpu i fun l => { l with confirmTimer := none }
  confirmTest (askPulse s1 i (s.station i).lpu.sequence.kind) i

/-- The attempts are exhausted (R18, R24, R123). -/
def attemptsExhausted (s : State) (i : Station) : State :=
  let s1 := s.modLpu i Lpu.exhausted
  match (s.station i).lpu.sequence with
  | .lock => detect s1 i .latchNotClosed
  | .release => detect s1 i .latchNotOpen
  | _ => s1

/-- The confirm timeout acts (R123). -/
def confirmTimesOut (s : State) (i : Station) : State :=
  if (s.station i).lpu.attempts ≤ (s.station i).lpu.retries then retryPulse s i else attemptsExhausted s i

/-- The exhaustion handed to the LCC before a FAULT entry ended its sequence, taken now (R137, log 29). -/
def takeExhaustion (s : State) (i : Station) : State :=
  takeHanded s i (if .latchNotClosed ∈ (s.station i).handed then .latchNotClosed else .latchNotOpen)

/-- CONFIRM_TIMEOUT (R123, R137). -/
def execConfirmTimeout (i : Station) (s : State) : Host.Outcome State Fault Refusal :=
  .next (if (s.station i).lpu.confirmDue then confirmTimesOut s i else takeExhaustion s i)

/-- The conflict timer has reached its timeout (R131). -/
def ConflictTimer.due (t : ConflictTimer) : Bool :=
  match t with
  | .running elapsed timeout => decide (timeout ≤ elapsed)
  | _ => false

/-- CONFLICT_TIMEOUT (R131): the timer stands expired and LATCH_SENSOR is detected. -/
def execConflictTimeout (i : Station) (s : State) : Host.Outcome State Fault Refusal :=
  .next (if (s.station i).lpu.conflictTimer.due then
    detect (s.modLpu i fun l => { l with conflictTimer := .expired }) i .latchSensor else s)

/-- The arm's expiry is reached: it no longer lies 1 to 10 000 ms, the longest arm window, ahead of the time base, which
wraps (R128; log 2). -/
def State.armDue (s : State) (i : Station) : Bool :=
  match (s.station i).lcc.armExpiry with
  | some expiry => !(decide (1 ≤ (expiry - s.timeBase).toNat) && decide ((expiry - s.timeBase).toNat ≤ 10000))
  | none => false

/-- The arm ends and the STATION report is made pending (R130). -/
def armEnds (s : State) (i : Station) : State :=
  (s.modLcc i fun l => { l with armExpiry := none }).reportStation i

/-- ARM_EXPIRY (R128, R130). -/
def execArmExpiry (i : Station) (s : State) : Host.Outcome State Fault Refusal :=
  .next (if s.armDue i then armEnds s i else s)

end Sys2Proof.Machine
end

