-- ==== Sys2Proof/Machine/LinkEvents.lean ====
section
/-!
DEFINITION. The events of the Link Interface and the Link Watch: bytes arriving on LINK_RX (R168 to R170), the
Transmitter's next frame (R183, R186), and the expiry of the Link Watch (R187 to R190).
-/
namespace Sys2Proof.Machine

/-- The watch time in force, in milliseconds (R187). -/
def State.watchMs (s : State) : Nat := s.settings.watchTime * 1000

/-- The Link Watch takes a good frame (R187, R190): it is reloaded, the first-expiry-seen flag is cleared, and a link
hold in force ends with LINK RESTORED pending. -/
def watchFrame (s : State) : State :=
  let s1 := s.modWatch fun _ => { remaining := s.watchMs, firstExpirySeen := false, hold := false }
  if s.watch.hold then s1.makePending (.link .restored) else s1

/-- A good frame joins the inbound queue, or is discarded when four stand there (R170). -/
def enqueue (l : Link) (payload : List Byte) : Link :=
  if l.inbound.length < Config.inboundDepth then { l with inbound := l.inbound ++ [payload] } else l

/-- A good frame is handed to the Link Watch and to the inbound queue (R170). -/
def acceptFrame (s : State) (payload : List Byte) : State := (watchFrame s).modLink fun l => enqueue l payload

/-- Bytes arrive on LINK_RX, each within 20 ms of the byte before it (R169): they are taken behind the bytes held, each
good frame is accepted in turn, and the bytes of a frame in collection are held. -/
def receiveBytes (s : State) (bytes : List Byte) : State :=
  let r := scanBytes 0 (s.link.rxHeld ++ bytes)
  r.frames.foldl acceptFrame (s.modLink fun l => { l with rxHeld := r.held })

/-- FRAME_RECEIVED (R170; log 6): a run of bytes, such as one that completes a good frame. -/
def execFrameReceived (bytes : List Byte) (s : State) : Host.Outcome State Fault Refusal := .next (receiveBytes s bytes)

/-- FRAME_CHECK_FAILED (R169; log 6): a run of bytes, such as one that completes a frame which fails a check; the bytes
after its start byte are taken again. -/
def execFrameCheckFailed (bytes : List Byte) (s : State) : Host.Outcome State Fault Refusal :=
  .next (receiveBytes s bytes)

/-- FRAME_GAP_TIMEOUT (R169, log 23): the frame in collection is abandoned, and the late byte is taken in hunting. -/
def execFrameGapTimeout (late : Byte) (s : State) : Host.Outcome State Fault Refusal :=
  .next (receiveBytes (s.modLink fun l => { l with rxHeld := [] }) [late])

/-- The Transmitter starts the next frame, LINK_TX being free (R183, R186): the reply, else the report at the head of the
queue with its content built now, else none. -/
def transmitNext (s : State) : State :=
  match s.link.replySlot, s.link.reports with
  | some reply, _ => s.modLink fun l => { l with replySlot := none, lineTx := some (frameOf reply) }
  | none, e :: rest => s.modLink fun l => { l with reports := rest, lineTx := some (frameOf (reportPayload s e)) }
  | none, [] => s.modLink fun l => { l with lineTx := none }

/-- TRANSMIT_NEXT_FRAME (R186; log 18: how long a frame takes on the line is left out). -/
def execTransmitNextFrame (s : State) : Host.Outcome State Fault Refusal := .next (transmitNext s)

/-- The Link Watch's expiry is due (R187, R188; log 2). -/
def State.watchDue (s : State) : Bool :=
  decide (s.settings.watchMode ≠ .off) && !s.watch.hold && decide (s.watch.remaining = 0)

/-- A station in PAYING_OUT goes to LINE_OUT as link hold begins (R15, R189). -/
def holdPayout (s : State) (i : Station) : State :=
  if (s.station i).lcc.lineState = .payingOut then enterLineOut s i .linkHold else s

/-- Link hold begins (R15, R189). DESIGN CHOICE, log 5: LINK HOLD_BEGUN is made pending, as R189 names it first, before the
STATION reports of the payouts it ends and what the grants of their places and slots count. -/
def beginLinkHold (s : State) : State :=
  let s1 := s.modWatch fun w => { w with hold := true }
  (s1.makePending (.link .holdBegun)).forStations holdPayout

/-- LINK SILENT is made pending and the watch reloaded (R188). -/
def reportSilent (s : State) : State :=
  (s.makePending (.link .silent)).modWatch fun w => { w with remaining := s.watchMs }

/-- The expiry acts by the mode (R188). -/
def watchExpires (s : State) : State :=
  match s.settings.watchMode with
  | .off => s
  | .report => reportSilent s
  | .hold => beginLinkHold s
  | .reportThenHold =>
    if s.watch.firstExpirySeen then beginLinkHold s
    else (reportSilent s).modWatch fun w => { w with firstExpirySeen := true }

/-- LINK_WATCH_EXPIRY (R188). -/
def execLinkWatchExpiry (s : State) : Host.Outcome State Fault Refusal :=
  .next (if s.watchDue then watchExpires s else s)

end Sys2Proof.Machine
end

