-- ==== Sys2Proof/Machine/MeasureEvents.lean ====
section
/-!
DEFINITION. The events of a station's Measurement Unit (Chapter 2): sample bytes and their gaps, the sample timeout,
encoder edges and the end of a speed window.
-/
namespace Sys2Proof.Machine

/-- A whole sample record at an in-service station (R47 to R49). -/
def takeRecord (s : State) (i : Station) (bytes : List Byte) : State :=
  match decodeSample bytes, (s.station i).config with
  | .ok raw, some c => goodSample s i (tensionOf c.zero c.span raw).1 (tensionOf c.zero c.span raw).2
  | .overRange, _ => goodSample s i Config.tensionMax true
  | _, _ => s

/-- Bytes arrive on SAMPLE (R46): the record in collection takes them up to its fourth byte, the rest are discarded; the
record is decoded when its fourth byte arrives, and not at an OFFLINE station (R36; log 7). -/
def takeSampleBytes (s : State) (i : Station) (bytes : List Byte) : State :=
  let old := (s.station i).mu.sampleHeld
  let new := (old ++ bytes).take 4
  let s1 := s.modMu i fun m => { m with sampleHeld := new }
  if old.length < 4 ∧ new.length = 4 ∧ s.inService i = true then takeRecord s1 i new else s1

/-- SAMPLE_RECORD_RECEIVED (R46, R47, R48, R49, R50). -/
def execSampleRecordReceived (i : Station) (bytes : List Byte) (s : State) : Host.Outcome State Fault Refusal :=
  .next (takeSampleBytes s i bytes)

/-- SAMPLE_RECORD_GAP (R46, R49): a record cut short is discarded, and the next byte begins a record. -/
def execSampleRecordGap (i : Station) (s : State) : Host.Outcome State Fault Refusal :=
  .next (s.modMu i fun m => { m with sampleHeld := [] })

/-- The sample timeout is due: the age has reached the timeout in force and the condition is absent (R51, R53; log 2). -/
def State.sampleDue (s : State) (i : Station) : Bool :=
  s.inService i && (s.station i).mu.lossDue

/-- SAMPLE_TIMEOUT (R51, R52). -/
def execSampleTimeout (i : Station) (s : State) : Host.Outcome State Fault Refusal :=
  .next (if s.sampleDue i then loseStream s i else s)

/-- The encoder levels after a change (R36, R37): the quarter position follows them, and a cycle counts at an in-service
station. -/
def encoderMoves (s : State) (i : Station) (encA encB : Bool) : State :=
  let new := Quarter.ofLevels encA encB
  let s1 := s.modMu i fun m => { m with quarter := new }
  match s.inService i, (s.station i).mu.quarter.cycle new with
  | true, some .outward => outwardCycle s1 i
  | true, some .inward => inwardCycle s1 i
  | _, _ => s1

/-- ENCODER_EDGE (R37, R38). -/
def execEncoderEdge (i : Station) (encA encB : Bool) (s : State) : Host.Outcome State Fault Refusal :=
  .next (encoderMoves s i encA encB)

/-- A window end at an in-service station (R54, R104, R105, R107): the speed is published, the accumulator starts again,
and the DHU takes the new speed; a stop that ends so is completed (R88). -/
def windowEnds (s : State) (i : Station) : State :=
  let s1 := s.modMu i fun m =>
    { m with speed := speedOf m.accumulator, accumulator := 0, windowDue := false }
  settleStop (dhuWindowEnd s1 i) i

/-- SPEED_WINDOW_END at one station (R54; log 11). -/
def execSpeedWindowEnd (i : Station) (s : State) : Host.Outcome State Fault Refusal :=
  .next (if s.inService i && (s.station i).mu.windowDue then windowEnds s i else s)

end Sys2Proof.Machine
end

