-- ==== Sys2Proof/Machine/ResetEvents.lean ====
section
/-!
DEFINITION. Power-on reset and pin reset (R1): every block takes its reset values, with the pin levels found. The
commands that wait in the queue belong to the outside and stay (log 22).
-/
namespace Sys2Proof.Machine

/-- The level of ENC_A at a quarter position (Table 2-2). -/
def Quarter.encA : Quarter → Bool
  | .q0 => false
  | .q1 => true
  | .q2 => true
  | .q3 => false

/-- The level of ENC_B at a quarter position (Table 2-2). -/
def Quarter.encB : Quarter → Bool
  | .q0 => false
  | .q1 => false
  | .q2 => true
  | .q3 => true

/-- The raw levels at a station's pins as they stand (R35, R132). -/
def StationState.pins (t : StationState) : StationPins :=
  { latchClosed := t.filters.latchClosed.raw, latchOpen := t.filters.latchOpen.raw,
    headSeated := t.filters.headSeated.raw, stowed := t.filters.stowed.raw, brakeOpen := t.filters.brakeOpen.raw,
    driveReady := t.filters.driveReady.raw, encA := t.mu.quarter.encA, encB := t.mu.quarter.encB }

/-- The raw levels at all pins as they stand (R35, R132). -/
def State.pins (s : State) : Pins :=
  { zoneHold := s.zoneFilter.raw
    stations := #v[(s.station 0).pins, (s.station 1).pins, (s.station 2).pins, (s.station 3).pins,
      (s.station 4).pins, (s.station 5).pins, (s.station 6).pins, (s.station 7).pins, (s.station 8).pins,
      (s.station 9).pins, (s.station 10).pins, (s.station 11).pins] }

/-- A reset of this cause with these levels found, the waiting commands kept (log 22). -/
def resetTo (s : State) (cause : ResetCause) (found : Pins) : State :=
  { State.atReset cause found with pending := s.pending }

/-- POWER_ON_RESET (R1, R35, R57, R81, R99, R118, R132, R158, R185, R193, R195). -/
def execPowerOnReset (found : Pins) (s : State) : Host.Outcome State Fault Refusal :=
  .next (resetTo s .powerOn found)

/-- PIN_RESET (R1, R35, R57, R81, R99, R118, R132, R158, R185, R193, R195): the pins stand at their present raw levels. -/
def execPinReset (s : State) : Host.Outcome State Fault Refusal := .next (resetTo s .resetPin s.pins)

end Sys2Proof.Machine
end

