-- ==== Sys2Proof/Machine/StationCommands.lean ====
section
/-!
DEFINITION. The commands by which the request handler serves a station request: READ_STATIONS and the nine requests of
Table 1-5 (R173, R177). Each names its code (Table 9-2) and the layout of its body (Table 9-5).
-/
namespace Sys2Proof.Machine

/-- READ_STATIONS, code 0x03 (R177). -/
def execReadStations (turns : Nat) (s : State) : Host.Outcome State Fault Refusal :=
  .next (serveStations s 0x03 (decodeRange 0 fun _ => .readStations) turns)

/-- CONFIGURE_STATION, code 0x07 (R156, R181). -/
def execConfigureStation (turns : Nat) (s : State) : Host.Outcome State Fault Refusal :=
  .next (serveStations s 0x07 decodeConfigureStation turns)

/-- DEPLOY, code 0x0B: a target of three bytes and a lock mode (R12). -/
def execDeploy (turns : Nat) (s : State) : Host.Outcome State Fault Refusal :=
  .next (serveStations s 0x0B (decodeRange 4 fun b => .deploy (numAt b 2 3) (byteAt b 5)) turns)

/-- LOCK, code 0x0C (R17). -/
def execLock (turns : Nat) (s : State) : Host.Outcome State Fault Refusal :=
  .next (serveStations s 0x0C (decodeRange 0 fun _ => .lock) turns)

/-- RELEASE, code 0x0D (R23). -/
def execRelease (turns : Nat) (s : State) : Host.Outcome State Fault Refusal :=
  .next (serveStations s 0x0D decodeRelease turns)

/-- ARM_RELEASE, code 0x0E (R128). -/
def execArmRelease (turns : Nat) (s : State) : Host.Outcome State Fault Refusal :=
  .next (serveStations s 0x0E (decodeRange 0 fun _ => .armRelease) turns)

/-- REWIND, code 0x0F (R25). -/
def execRewind (turns : Nat) (s : State) : Host.Outcome State Fault Refusal :=
  .next (serveStations s 0x0F (decodeRange 0 fun _ => .rewind) turns)

/-- HALT, code 0x10 (R14). -/
def execHalt (turns : Nat) (s : State) : Host.Outcome State Fault Refusal :=
  .next (serveStations s 0x10 (decodeRange 0 fun _ => .halt) turns)

/-- SELECT_PROFILE, code 0x11: a profile number (R33). -/
def execSelectProfile (turns : Nat) (s : State) : Host.Outcome State Fault Refusal :=
  .next (serveStations s 0x11 (decodeRange 1 fun b => .selectProfile (byteAt b 2)) turns)

/-- CLEAR_FAULT, code 0x12 (R32). -/
def execClearFault (turns : Nat) (s : State) : Host.Outcome State Fault Refusal :=
  .next (serveStations s 0x12 (decodeRange 0 fun _ => .clearFault) turns)

end Sys2Proof.Machine
end

