-- ==== Sys2Proof/Machine/TimeEvents.lean ====
section
/-!
DEFINITION. The 1 ms tick (R98): the time base and the berth time, every timer of the part, the speed windows, and the
WAIT_TIME occurrences. What a timer's end brings about is a command of its own (log 2).
-/
namespace Sys2Proof.Machine

/-! ### One station's timers -/

/-- The sample age and a running release measurement count up, saturating (R51, R55); a window end falls due (R54). An
OFFLINE station's age stays 0 and it has no window end (R36). -/
def Mu.tick (m : Mu) (inService windowEnd : Bool) : Mu :=
  { m with
    age := if inService then min Config.ageMax (m.age + 1) else m.age
    windowDue := m.windowDue || (inService && windowEnd)
    releaseMeasure := m.releaseMeasure.map fun n => min Config.ageMax (n + 1) }

/-- A timer counts up to its limit (R105, R121). -/
def Timer.tick (t : Timer) : Timer := { t with elapsed := min t.limit (t.elapsed + 1) }

/-- A phase timer counts up to its timeout (R102, R103, R107, R108). -/
def PhaseTimer.tick : PhaseTimer → PhaseTimer
  | .running kind elapsed timeout => .running kind (min timeout (elapsed + 1)) timeout
  | .absent => .absent
  | .expired => .expired

/-- The DHU's timers (R105, R116). -/
def Dhu.tick (d : Dhu) : Dhu := { d with timer := d.timer.tick, stall := d.stall.map Timer.tick }

/-- A pulse's phase runs out (R119). -/
def Pulse.tick (p : Pulse) : Pulse := { p with remaining := p.remaining - 1 }

/-- The conflict timer counts up to its timeout (R131). -/
def ConflictTimer.tick : ConflictTimer → ConflictTimer
  | .running elapsed timeout => .running (min timeout (elapsed + 1)) timeout
  | .absent => .absent
  | .expired => .expired

/-- The LPU's timers (R119, R121, R131). -/
def Lpu.tick (l : Lpu) : Lpu :=
  { l with pulse := l.pulse.map Pulse.tick, confirmTimer := l.confirmTimer.map Timer.tick,
           conflictTimer := l.conflictTimer.tick }

/-- A pending level ages up to its width (R133). -/
def PendingLevel.tick (p : PendingLevel) : PendingLevel := { p with age := min p.width (p.age + 1) }

/-- A filter's pending level ages (R133). -/
def Filter.tick (f : Filter) : Filter := { f with held := f.held.map PendingLevel.tick }

/-- A station's filters age, in every line state (R132, R133). -/
def Filters.tick (f : Filters) : Filters :=
  { latchClosed := f.latchClosed.tick, latchOpen := f.latchOpen.tick, headSeated := f.headSeated.tick,
    stowed := f.stowed.tick, brakeOpen := f.brakeOpen.tick, driveReady := f.driveReady.tick }

/-- All of a station's timers; whether a window ends at this tick (R54). At a station in service the window end then
waits to be taken; an OFFLINE station's DHU, which takes none, is passed by it at once (R107, log 12). -/
def StationState.tick (t : StationState) (windowEnd : Bool) : StationState :=
  let inService := decide (t.lcc.lineState ≠ .offline)
  let d := t.dhu.tick
  { t with mu := t.mu.tick inService windowEnd, dhu := if windowEnd && !inService then d.passWindow else d,
           lpu := t.lpu.tick, filters := t.filters.tick }

/-! ### The berth's timers -/

/-- A running slice timer counts down (R89). -/
def SliceTimer.tick : SliceTimer → SliceTimer
  | .running remaining => .running (remaining - 1)
  | .paused remaining => .paused remaining
  | .absent => .absent

/-- The DSA's slice timers (R89). -/
def Dsa.tick (d : Dsa) : Dsa := { d with holders := d.holders.map fun h => { h with slice := h.slice.tick } }

/-- The Link Watch counts down in every mode but OFF, while link hold is clear (R187). -/
def LinkWatch.tick (w : LinkWatch) (mode : WatchMode) : LinkWatch :=
  if mode = .off ∨ w.hold = true then w else { w with remaining := w.remaining - 1 }

/-- The time base, the berth time and the place in the present speed window (Units of 00_scope.md, R54, R128, R139). -/
def advanceTime (s : State) : State :=
  { s with
    timeBase := s.timeBase + 1
    berthTime := if s.berthMs = 999 then s.berthTime + 1 else s.berthTime
    berthMs := if s.berthMs = 999 then 0 else s.berthMs + 1
    windowMs := if s.windowMs = Config.windowLength - 1 then 0 else s.windowMs + 1 }

/-- Every station's timers, the ZONE_HOLD filter, the slice timers and the Link Watch. -/
def tickTimers (s : State) (windowEnd : Bool) : State :=
  let s1 := s.forStations fun s i => s.setStation i ((s.station i).tick windowEnd)
  { s1 with zoneFilter := s.zoneFilter.tick, dsa := s.dsa.tick, watch := s.watch.tick s.settings.watchMode }

/-- One WAIT_TIME occurrence for each station that has an entry in the waiting list (R98, R199). -/
def countWaiting (s : State) : State :=
  s.dsa.waiting.foldl (fun s e => s.occurrence .waitTime e.station) s

/-- TIME_BASE_TICK (R51, R54, R55, R89, R98, R105, R119, R121, R128, R131, R133, R187, R199). -/
def execTimeBaseTick (s : State) : Host.Outcome State Fault Refusal :=
  .next (countWaiting (tickTimers (advanceTime s) (decide (s.windowMs = Config.windowLength - 1))))

end Sys2Proof.Machine
end

