-- ==== Sys2Proof/Machine/Dispatch.lean ====
section
/-!
DEFINITION. Every command's meaning, one arm per constructor of Instr.
-/
namespace Sys2Proof.Machine

/-- The effect of a command on everything but the queue of waiting commands. -/
def exec (i : Instr) (s : State) : Host.Outcome State Fault Refusal :=
  match i with
  | .powerOnReset found => Sys2Proof.Machine.execPowerOnReset found s
  | .pinReset => Sys2Proof.Machine.execPinReset s
  | .frameReceived bytes => Sys2Proof.Machine.execFrameReceived bytes s
  | .frameCheckFailed bytes => Sys2Proof.Machine.execFrameCheckFailed bytes s
  | .frameGapTimeout late => Sys2Proof.Machine.execFrameGapTimeout late s
  | .unknownRequest => Sys2Proof.Machine.execUnknownRequest s
  | .identify => Sys2Proof.Machine.execIdentify s
  | .readBerth => Sys2Proof.Machine.execReadBerth s
  | .readStations turns => Sys2Proof.Machine.execReadStations turns s
  | .readProfiles => Sys2Proof.Machine.execReadProfiles s
  | .readCounters => Sys2Proof.Machine.execReadCounters s
  | .configureBerth => Sys2Proof.Machine.execConfigureBerth s
  | .configureStation turns => Sys2Proof.Machine.execConfigureStation turns s
  | .writeProfile => Sys2Proof.Machine.execWriteProfile s
  | .setCondition => Sys2Proof.Machine.execSetCondition s
  | .commissionLock => Sys2Proof.Machine.execCommissionLock s
  | .deploy turns => Sys2Proof.Machine.execDeploy turns s
  | .lock turns => Sys2Proof.Machine.execLock turns s
  | .release turns => Sys2Proof.Machine.execRelease turns s
  | .armRelease turns => Sys2Proof.Machine.execArmRelease turns s
  | .rewind turns => Sys2Proof.Machine.execRewind turns s
  | .halt turns => Sys2Proof.Machine.execHalt turns s
  | .selectProfile turns => Sys2Proof.Machine.execSelectProfile turns s
  | .clearFault turns => Sys2Proof.Machine.execClearFault turns s
  | .setCounter => Sys2Proof.Machine.execSetCounter s
  | .restart => Sys2Proof.Machine.execRestart s
  | .transmitNextFrame => Sys2Proof.Machine.execTransmitNextFrame s
  | .linkWatchExpiry => Sys2Proof.Machine.execLinkWatchExpiry s
  | .sampleRecordReceived station bytes => Sys2Proof.Machine.execSampleRecordReceived station bytes s
  | .sampleRecordGap station => Sys2Proof.Machine.execSampleRecordGap station s
  | .sampleTimeout station => Sys2Proof.Machine.execSampleTimeout station s
  | .encoderEdge station encA encB => Sys2Proof.Machine.execEncoderEdge station encA encB s
  | .speedWindowEnd station => Sys2Proof.Machine.execSpeedWindowEnd station s
  | .stallTimeout station => Sys2Proof.Machine.execStallTimeout station s
  | .driveReadyTimeout station => Sys2Proof.Machine.execDriveReadyTimeout station s
  | .brakeLiftTimeout station => Sys2Proof.Machine.execBrakeLiftTimeout station s
  | .stopTimeout station => Sys2Proof.Machine.execStopTimeout station s
  | .brakeSetTimeout station => Sys2Proof.Machine.execBrakeSetTimeout station s
  | .rawInputEdge input level => Sys2Proof.Machine.execRawInputEdge input level s
  | .filterWidthElapsed input => Sys2Proof.Machine.execFilterWidthElapsed input s
  | .sliceExpiry station => Sys2Proof.Machine.execSliceExpiry station s
  | .pulseDelayEnd station => Sys2Proof.Machine.execPulseDelayEnd station s
  | .pulseWidthEnd station => Sys2Proof.Machine.execPulseWidthEnd station s
  | .confirmTimeout station => Sys2Proof.Machine.execConfirmTimeout station s
  | .conflictTimeout station => Sys2Proof.Machine.execConflictTimeout station s
  | .armExpiry station => Sys2Proof.Machine.execArmExpiry station s
  | .timeBaseTick => Sys2Proof.Machine.execTimeBaseTick s

end Sys2Proof.Machine
end

