-- ==== Sys2Proof/Safety.lean ====
section
/-!
DEFINITION. What the statements speak of: the bounds and relations that the spec says hold at all times, each a predicate
on one state, and the frames: what a command leaves as it was, each a relation between the state before and after.
-/
namespace Sys2Proof.Machine

/-! ### Bounds -/

/-- A station's tension stays within 0..10000 and its overload dose within 0..65535 (R47, R74). -/
def StationState.measuresBounded (t : StationState) : Prop :=
  t.mu.tension ≤ Config.tensionMax ∧ t.lcc.dose ≤ Config.doseMax

/-- Tension and dose are bounded at every station (R47, R74). -/
def State.measuresBounded (s : State) : Prop := ∀ i : Station, (s.station i).measuresBounded

/-- A station's drum count stays within 0..Cmax, and it is 0 in STOWED and in OFFLINE (R8, R38). -/
def StationState.countBounded (t : StationState) : Prop :=
  t.mu.count ≤ t.cmax ∧ (t.lcc.lineState = .stowed ∨ t.lcc.lineState = .offline → t.mu.count = 0)

/-- The count is bounded so at every station (R38). -/
def State.countsBounded (s : State) : Prop := ∀ i : Station, (s.station i).countBounded

/-- The inbound queue holds at most four frames (R170). -/
def State.inboundBounded (s : State) : Prop := s.link.inbound.length ≤ Config.inboundDepth

/-- No two entries of a list of reports have the same key (R182). -/
def distinctKeys (reports : List ReportEntry) : Prop := reports.Pairwise fun a b => a.sameKey b = false

/-- The number of holders does not exceed K (R87). -/
def State.slotsBounded (s : State) : Prop := s.dsa.holders.length ≤ s.dsa.slots

/-! ### Relations between parts -/

/-- A configured station's effective profile is the lesser of its requested profile and the ceiling entry for the present
condition class, and one without a configuration has none (R62, R153). -/
def State.profilesEffective (s : State) : Prop :=
  ∀ i : Station, (s.station i).lcc.effective = (s.station i).config.map fun c => min c.requested s.ceilingNow

/-- The drive demand is nonzero only in RUNNING and STOPPING (R100). -/
def Dhu.demandSafe (d : Dhu) : Prop := d.demand = 0 ∨ d.phase = .running ∨ d.phase = .stopping

/-- The demand is safe so at every station (R100). -/
def State.demandsSafe (s : State) : Prop := ∀ i : Station, (s.station i).dhu.demandSafe

/-- A station's drive phase is other than IDLE exactly while the station holds a slot (R82). -/
def State.slotsMatchPhases (s : State) : Prop :=
  ∀ i : Station, s.dsa.holds i = true ↔ (s.station i).dhu.phase ≠ .idle

/-- The drive phases in which a drum is on its way to run, runs, or is brought to rest with its brake lifted. -/
def DrivePhase.isActive : DrivePhase → Bool
  | .driveWait | .brakeWait | .running | .stopping => true
  | _ => false

/-- No station is in an active drive phase while the filtered ZONE_HOLD is asserted (R101, R112). -/
def State.zoneObeyed (s : State) : Prop :=
  s.zoneHold = true → ∀ i : Station, (s.station i).dhu.phase.isActive = false

/-- A profile stands within what the commissioning lock recorded of it (R165). -/
def Profile.within (p : Profile) (snap : LimitSnapshot) : Prop :=
  p.overload ≤ snap.overload ∧ p.doseLimit ≤ snap.doseLimit

/-- While the commissioning lock is set, no closed value exceeds its value at the moment the lock was set (R165). -/
def State.lockKept (s : State) : Prop :=
  s.berth.locked = true →
    ∃ snap limit, s.profiles.snapshot = some snap ∧ s.berth.thresholdSnapshot = some limit ∧
      s.settings.releaseThreshold ≤ limit ∧
      (∀ n : ProfileNo, (s.profile n).within (snap.limits.get n)) ∧
      (∀ c : ConditionClass, (s.profiles.ceiling.get c).val ≤ (snap.ceiling.get c).val)

/-- A fault record keeps its first kind and its circumstances, and its further set only grows (R30, R139, R140). -/
def FaultRecord.continues (old new : FaultRecord) : Prop :=
  new.first = old.first ∧ new.stateAtEntry = old.stateAtEntry ∧ new.berthTime = old.berthTime ∧
    new.tension = old.tension ∧ new.count = old.count ∧ old.further &&& new.further = old.further

/-! ### Frames -/

/-- Two states of a station differ at most in its DHU and its release measurement: what a grant, a yield or a stop
completion at another station's command can touch. -/
structure StationState.SameButDrive (a b : StationState) : Prop where
  lcc : b.lcc = a.lcc
  config : b.config = a.config
  lpu : b.lpu = a.lpu
  filters : b.filters = a.filters
  handed : b.handed = a.handed
  mu : b.mu = { a.mu with releaseMeasure := b.mu.releaseMeasure }

/-- The berth's blocks are as they were, but for the holders, waiting entries and yields of the DSA, the values and edge
memories of the Duty Counters, and the Link Interface. -/
structure BerthKept (s t : State) : Prop where
  zoneFilter : t.zoneFilter = s.zoneFilter
  slots : t.dsa.slots = s.dsa.slots
  profiles : t.profiles = s.profiles
  berth : t.berth = s.berth
  routing : t.routing = s.routing
  watch : t.watch = s.watch
  counters : ∀ n : CounterNo, t.counters.get n =
    { s.counters.get n with value := (t.counters.get n).value, memory := (t.counters.get n).memory }
  timeBase : t.timeBase = s.timeBase
  berthTime : t.berthTime = s.berthTime
  berthMs : t.berthMs = s.berthMs
  windowMs : t.windowMs = s.windowMs
  pending : t.pending = s.pending

/-- The Link Interface is as it was, but for its Report Queue. -/
def LinkKept (s t : State) : Prop := t.link = { s.link with reports := t.link.reports }

/-- Every station but this one keeps all but its drive, and the berth's blocks stand. -/
structure KeptBeside (i : Station) (s t : State) : Prop where
  others : ∀ j : Station, j ≠ i → (s.station j).SameButDrive (t.station j)
  berth : BerthKept s t

/-- Every station keeps all but its drive, and the berth's blocks and the link stand: the frame of the DSA's work. -/
structure DriveOnly (s t : State) : Prop where
  stations : ∀ j : Station, (s.station j).SameButDrive (t.station j)
  berth : BerthKept s t
  link : LinkKept s t

/-! ### Relations the invariants speak of -/

/-- A station presents a motion need exactly in the motion states (R3). -/
def State.needsMatch (s : State) : Prop :=
  ∀ i : Station, (s.station i).lcc.need.isSome = (s.station i).lcc.lineState.isMotion

/-- The waiting list stands in the order of its classes (R84). -/
def State.waitingOrdered (s : State) : Prop := s.dsa.waiting.Pairwise fun a b => a.cls ≤ b.cls

/-- No slot is left free while an entry waits (R87). -/
def State.noSlotIdle (s : State) : Prop := s.dsa.waiting = [] ∨ s.dsa.slots ≤ s.dsa.holders.length

/-- The message code of a station request (Table 9-2). -/
def StationRequest.code : StationRequest → Byte
  | .readStations => 0x03
  | .configureStation _ => 0x07
  | .deploy _ _ => 0x0B
  | .lock => 0x0C
  | .release _ => 0x0D
  | .armRelease => 0x0E
  | .rewind => 0x0F
  | .halt => 0x10
  | .selectProfile _ => 0x11
  | .clearFault => 0x12

/-- The station request under way bears the code of its kind, and its next station lies in a valid range (R172, R173). -/
def State.requestFits (s : State) : Prop :=
  ∀ w, s.link.working = some w → w.code = w.request.code ∧ w.next ≤ w.last ∧ w.last ≤ 11

/-! ### What a handler command finds, and its replies -/

/-- The request handler is free and finds this frame at the head of the inbound queue (R172). -/
abbrev HandlerTakes (s : State) (frame : List Byte) (rest : List (List Byte)) : Prop :=
  s.link.replySlot = none ∧ s.link.working = none ∧ s.link.inbound = frame :: rest

/-- The Link Interface after a frame was taken and answered at once with this reply, the reports standing (R172). -/
def Link.answered (l : Link) (rest : List (List Byte)) (reply : List Byte) : Link :=
  { l with inbound := rest, replySlot := some reply }

/-- The state after a frame was taken and answered with this reply, all else standing (R172). -/
def State.answeredWith (s : State) (rest : List (List Byte)) (reply : List Byte) : State :=
  { s with link := s.link.answered rest reply }

/-- The payload of a station request for one station (R173, Table 9-5). -/
def requestFor (code tag : Byte) (i : Station) (fields : List Byte) : List Byte :=
  code :: tag :: BitVec.ofNat 8 i.val :: BitVec.ofNat 8 i.val :: fields

/-- The reply to a station request for one station with this result (R173, R194). -/
def replyFor (code tag result : Byte) : List Byte := [code ||| 0x80, tag, 0, 1, result]

/-- The reply to a berth request with this result (R174, R194). -/
def berthReply (code tag result : Byte) : List Byte := [code ||| 0x80, tag, 0, result]

/-- A station request for station `i` alone was taken and answered with this reply: every other station keeps all but its
drive, the berth's blocks stand, and the link took the frame and holds the reply (R7, R172, R173). -/
structure StationServed (i : Station) (s t : State) (rest : List (List Byte)) (reply : List Byte) : Prop where
  beside : KeptBeside i s t
  link : t.link = { s.link with inbound := rest, working := none, replySlot := some reply, reports := t.link.reports }

/-- An event at station `i` was taken: every other station keeps all but its drive, the berth's blocks and the link but
for its reports stand, and the station's STATION report is pending (R2). -/
structure StationMoved (i : Station) (s t : State) : Prop where
  beside : KeptBeside i s t
  link : LinkKept s t
  report : ReportEntry.station i ∈ t.link.reports

/-! ### What a change of line state leaves in the station context -/

/-- The context with its new state and reason, and with every item cleared that only one state holds: the need, the payout
target, the take-up start count, the rewind flag, the adjust items, the creep items (R13, R19, R21, R24, R26, R69). -/
def Lcc.between (l : Lcc) (new : LineState) (reason : Reason) : Lcc :=
  { l with lineState := new, lastReason := reason, payoutTarget := none, takeupStart := none, rewindFlag := none,
           adjustDir := none, adjustClass := none, aimProfile := none, creepCount := none, creepLimit := none,
           need := none }

/-- The context in LINE_OUT, STOWED or RELEASING besides: no current profile, no arm, no dose (R4, R64, R77, R130). -/
def Lcc.slack (l : Lcc) : Lcc := { l with current := none, armExpiry := none, dose := 0, overloadHeld := false }

/-- The record a station that enters FAULT holds (R29, R139, R140). -/
def StationState.recordOf (a : StationState) (kind : FaultKind) (left : LineState) (berthTime : Count32) : FaultRecord :=
  match a.lcc.fault with
  | none => { first := kind, stateAtEntry := left, berthTime := berthTime, tension := a.mu.tension, count := a.mu.count,
              further := 0 }
  | some r => { r with further := r.further ||| (1 <<< kind.code) }

/-- The record a station that enters FAULT with its sample stream lost holds: with the latch CLOSED it is tensioned by the
entry, which makes SENSOR_LOST a further fault (R4, R30, R52; log 10). -/
def StationState.recordLost (a : StationState) (kind : FaultKind) (left : LineState) (berthTime : Count32) : FaultRecord :=
  if a.latch = .closed then
    { a.recordOf kind left berthTime with further := (a.recordOf kind left berthTime).further ||| (1 <<< 8) }
  else a.recordOf kind left berthTime

/-- The context after an entry into FAULT from the state `left`, with its sample stream good (R4, R29, R139). -/
def StationState.lccInFault (a : StationState) (kind : FaultKind) (left : LineState) (berthTime : Count32) : Lcc :=
  { a.lcc.between .fault .fault with
    fault := some (a.recordOf kind left berthTime)
    dose := if a.latch = .closed then a.lcc.dose else 0
    overloadHeld := if a.latch = .closed then a.lcc.overloadHeld else false }

/-- The context after an entry into FAULT from the state `left`, with its sample stream lost (R4, R29, R52; log 10). -/
def StationState.lccLost (a : StationState) (kind : FaultKind) (left : LineState) (berthTime : Count32) : Lcc :=
  { a.lccInFault kind left berthTime with fault := some (a.recordLost kind left berthTime) }

/-- An LPU asked for a sequence with these settings (R119, R120, R121): its first pulse is queued behind a pulse in
progress, waits out its delay, or is energized at once. -/
def Lpu.asked (l : Lpu) (sequence : Sequence) (kind : PulseKind) (retries delay width timeout : Nat) : Lpu :=
  match l.pulse with
  | some p =>
    { l with sequence := sequence, retries := retries, attempts := 0, confirmOpen := false, confirmTimer := none,
             pulse := some { p with ofSequence := false }, queued := some kind }
  | none =>
    { l with
      sequence := sequence, retries := retries, attempts := 1
      pulse := some { kind := kind, phase := if delay = 0 then .energized else .delay,
                      remaining := if delay = 0 then width else delay, width := width, ofSequence := true }
      confirmOpen := decide (delay = 0)
      confirmTimer := if delay = 0 then some { elapsed := 0, limit := timeout } else none }


/-! ### What a reset leaves -/

/-- Every block at the last column of its table, with these pin levels found (Tables 1-1, 2-1, 3-2, 3-3, 4-1, 5-1, 6-1,
8-3, 9-2b, 10-1; R35, R132, R148, R158, R185). -/
def AfterReset (cause : ResetCause) (found : Pins) (t : State) : Prop :=
  (∀ i : Station,
    (t.station i).lcc =
      { lineState := .offline, lastReason := .none, lockMode := .onRequest, payoutTarget := none, takeupStart := none,
        rewindFlag := none, adjustDir := none, adjustClass := none, aimProfile := none, creepCount := none,
        creepLimit := none, need := none, armExpiry := none, dose := 0, overloadHeld := false, effective := none,
        current := none, fault := none } ∧
    (t.station i).config = none ∧
    (t.station i).mu =
      { count := 0, referenced := false
        quarter := if (found.stations.get i).encA then (if (found.stations.get i).encB then .q2 else .q1)
          else (if (found.stations.get i).encB then .q3 else .q0)
        accumulator := 0, speed := 0, windowDue := false, age := 0, ageTimeout := 100, lost := false, tension := 0,
        saturated := false, releaseMeasure := none, releaseTime := 0, correction := none, sampleHeld := [] } ∧
    (t.station i).dhu =
      { phase := .idle, demandDir := .outward, demand := 0, target := none, stopRequest := .none, timer := .absent,
        stall := none, pendingMotion := none, zeroThroughout := true } ∧
    (t.station i).lpu =
      { pulse := none, queued := none, sequence := .none, retries := 0, attempts := 0, confirmTimer := none,
        confirmOpen := false, conflictTimer := .absent } ∧
    (t.station i).filters =
      { latchClosed := { level := (found.stations.get i).latchClosed, held := none }
        latchOpen := { level := (found.stations.get i).latchOpen, held := none }
        headSeated := { level := (found.stations.get i).headSeated, held := none }
        stowed := { level := (found.stations.get i).stowed, held := none }
        brakeOpen := { level := (found.stations.get i).brakeOpen, held := none }
        driveReady := { level := (found.stations.get i).driveReady, held := none } } ∧
    (t.station i).handed = []) ∧
  t.zoneFilter = { level := found.zoneHold, held := none } ∧
  t.dsa = { slots := 3, holders := [], waiting := [], grantSeq := 0, yields := [] } ∧
  t.profiles.profiles.toList.map (fun p => [p.low, p.high, p.overload, p.doseLimit, p.adjustSpeed]) =
    [[3600, 4800, 6000, 20000, 300], [3200, 4400, 5600, 20000, 300], [2800, 4000, 5200, 20000, 300],
     [2400, 3600, 4800, 20000, 300], [2000, 3200, 4400, 20000, 250], [1600, 2800, 4000, 20000, 250],
     [1200, 2400, 3600, 20000, 250], [800, 2000, 3200, 20000, 250]] ∧
  t.profiles.condition = 0 ∧ t.profiles.ceiling = #v[7, 5, 3, 1] ∧ t.profiles.snapshot = none ∧
  t.settings =
    { payoutSpeed := 400, takeupSpeed := 200, rewindSpeed := 600, creepSpeed := 50, creepLimit := 512,
      sampleTimeout := 100, rewindTensionLimit := 150, leak := 100, releaseThreshold := 300, armWindow := 5000,
      sliceTime := 10000, driveReadyTimeout := 500, brakeLiftTimeout := 400, stopTimeout := 1500,
      brakeSetTimeout := 400, stallTime := 2000, slewStep := 200, lockDelay := 0, lockWidth := 250,
      releaseDelay := 0, releaseWidth := 300, lockConfirmTimeout := 1500, releaseConfirmTimeout := 1000, retries := 2,
      filterWidth := 50, watchMode := .report, watchTime := 10 } ∧
  t.berth.locked = false ∧ t.berth.thresholdSnapshot = none ∧ t.berth.resetCause = cause ∧
  t.routing = 0x7FFFF ∧ t.berthAlarm = false ∧
  t.link =
    { rxHeld := [], inbound := [], working := none, replySlot := none, lineTx := none, reports := [.restarted] } ∧
  t.watch = { remaining := 10000, firstExpirySeen := false, hold := false } ∧
  (∀ n : CounterNo, t.counters.get n =
    { enabled := false, kind := .tensionSample, first := 0, last := 11, threshold := 0, invert := false, edge := false,
      value := 0, memory := Vector.replicate 12 none }) ∧
  t.timeBase = 0 ∧ t.berthTime = 0 ∧ t.berthMs = 0 ∧ t.windowMs = 0

/-- Everything that every step keeps. -/
def State.invariants (s : State) : Prop :=
  s.measuresBounded ∧ s.countsBounded ∧ s.profilesEffective ∧ s.demandsSafe ∧ s.slotsMatchPhases ∧ s.zoneObeyed ∧
    s.slotsBounded ∧ s.noSlotIdle ∧ s.waitingOrdered ∧ s.needsMatch ∧ s.lockKept ∧ s.inboundBounded ∧
    distinctKeys s.link.reports ∧ s.requestFits

/-! ### Berth settings by row -/

/-- A number in this many bytes, high byte first (R194). -/
def beBytes : Nat → Nat → List Byte
  | 1, n => be8 n
  | 3, n => be24 n
  | 4, n => be32 n
  | _, n => be16 n

/-- The value in a row of Table 8-3 as a number; the ceiling table as its four entries in four bytes, class 0 first. -/
def berthRow (s : State) (row : Nat) : Nat :=
  match row with
  | 1 => s.settings.payoutSpeed
  | 2 => s.settings.takeupSpeed
  | 3 => s.settings.rewindSpeed
  | 4 => s.settings.creepSpeed
  | 5 => s.settings.creepLimit
  | 6 => s.settings.sampleTimeout
  | 7 => s.settings.rewindTensionLimit
  | 8 => s.settings.leak
  | 9 => s.settings.releaseThreshold
  | 10 => s.settings.armWindow
  | 11 => s.dsa.slots
  | 12 => s.settings.sliceTime
  | 13 => s.settings.driveReadyTimeout
  | 14 => s.settings.brakeLiftTimeout
  | 15 => s.settings.stopTimeout
  | 16 => s.settings.brakeSetTimeout
  | 17 => s.settings.stallTime
  | 18 => s.settings.slewStep
  | 19 => s.settings.lockDelay
  | 20 => s.settings.lockWidth
  | 21 => s.settings.releaseDelay
  | 22 => s.settings.releaseWidth
  | 23 => s.settings.lockConfirmTimeout
  | 24 => s.settings.releaseConfirmTimeout
  | 25 => s.settings.retries
  | 26 => s.settings.filterWidth
  | 27 => (s.profiles.ceiling.get 0).val * 16777216 + (s.profiles.ceiling.get 1).val * 65536 +
      (s.profiles.ceiling.get 2).val * 256 + (s.profiles.ceiling.get 3).val
  | 28 => s.routing.toNat
  | 29 => match s.settings.watchMode with
    | .off => 0
    | .report => 1
    | .hold => 2
    | .reportThenHold => 3
  | 30 => s.settings.watchTime
  | _ => 0

/-- An item of CONFIGURE_BERTH names a row of Table 8-3 with a value of the row's width (R180). -/
def wellSized (x : Nat × Nat) : Prop := 1 ≤ x.1 ∧ x.1 ≤ 30 ∧ x.2 < 256 ^ fieldWidth x.1

/-- The bytes of an item: its number, then its value in the row's width (R180). -/
def itemBytes (x : Nat × Nat) : List Byte := BitVec.ofNat 8 x.1 :: beBytes (fieldWidth x.1) x.2

/-- A value lies in the range of its row (Table 8-3, R61). -/
def rowInRange (row v : Nat) : Prop :=
  match row with
  | 1 | 2 | 3 => 50 ≤ v ∧ v ≤ 1000
  | 4 => 10 ≤ v ∧ v ≤ 200
  | 5 => v ≤ 65535
  | 6 => 40 ≤ v ∧ v ≤ 500
  | 7 => 50 ≤ v ∧ v ≤ 10000
  | 8 | 9 => v ≤ 10000
  | 10 => 2000 ≤ v ∧ v ≤ 10000
  | 11 => 1 ≤ v ∧ v ≤ 6
  | 12 => 1000 ≤ v ∧ v ≤ 60000
  | 13 | 14 | 16 => 100 ≤ v ∧ v ≤ 2000
  | 15 | 23 | 24 => 200 ≤ v ∧ v ≤ 5000
  | 17 => 500 ≤ v ∧ v ≤ 5000
  | 18 => 10 ≤ v ∧ v ≤ 1000
  | 19 | 21 => v ≤ 500
  | 20 | 22 => 50 ≤ v ∧ v ≤ 1000
  | 25 | 29 => v ≤ 3
  | 26 => v = 10 ∨ v = 50 ∨ v = 100
  | 27 => v / 16777216 ≤ 7 ∧ v / 65536 % 256 ≤ v / 16777216 ∧ v / 256 % 256 ≤ v / 65536 % 256 ∧
      v % 256 ≤ v / 256 % 256
  | 28 => v < 2 ^ 19
  | 30 => 1 ≤ v ∧ v ≤ 60
  | _ => False

/-- The commissioning lock lets the value pass: no ceiling entry and no release-under-load threshold above its snapshot
(R165). -/
def State.rowKeptByLock (s : State) (row v : Nat) : Prop :=
  (row = 27 → ∀ snap, s.profiles.snapshot = some snap →
    v / 16777216 ≤ (snap.ceiling.get 0).val ∧ v / 65536 % 256 ≤ (snap.ceiling.get 1).val ∧
    v / 256 % 256 ≤ (snap.ceiling.get 2).val ∧ v % 256 ≤ (snap.ceiling.get 3).val) ∧
  (row = 9 → ∀ limit, s.berth.thresholdSnapshot = some limit → v ≤ limit)

/-! ### Profiles -/

/-- The checks of WRITE_PROFILE on a profile's fields (R58, Table 3-1). -/
def Profile.valid (p : Profile) : Prop :=
  p.overload ≤ 10000 ∧ 100 ≤ p.doseLimit ∧ p.doseLimit ≤ 65535 ∧ 50 ≤ p.adjustSpeed ∧ p.adjustSpeed ≤ 1000 ∧
    p.low + 40 ≤ p.high ∧ p.high < p.overload

/-- The lock is set and the profile's overload threshold or dose limit is above the numbered profile's snapshot (R165). -/
def State.aboveSnapshot (s : State) (n : ProfileNo) (p : Profile) : Prop :=
  s.berth.locked = true ∧ ∃ snap, s.profiles.snapshot = some snap ∧
    ((snap.limits.get n).overload < p.overload ∨ (snap.limits.get n).doseLimit < p.doseLimit)

/-- The low end of the inner window (R59). -/
def Profile.windowLow (p : Profile) : Nat := p.low + (p.high - p.low) / 4

/-- The high end of the inner window (R59). -/
def Profile.windowHigh (p : Profile) : Nat := p.high - (p.high - p.low) / 4

/-! ### Reports and records -/

/-- The code of a value: its place in its row of Table 9-3, from 0. -/
def codeIn {α : Type} [DecidableEq α] (row : List α) (x : α) : Byte := BitVec.ofNat 8 (row.idxOf x)

/-- The line states in the order of their codes (Table 9-3). -/
def lineStateRow : List LineState :=
  [.offline, .stowed, .payingOut, .seated, .locking, .takingUp, .holding, .adjusting, .releasing, .rewinding, .lineOut,
   .fault]

/-- The reasons in the order of their codes (Table 9-3). -/
def reasonRow : List Reason :=
  [.none, .request, .seated, .seatLost, .targetReached, .lockConfirmed, .takeupDone, .bandLow, .bandHigh, .profileChange,
   .settled, .releaseConfirmed, .overloadRelease, .stowed, .fault, .faultCleared, .linkHold, .adopted]

/-- The fault kinds in the order of their codes (Table 9-3). -/
def faultKindRow : List FaultKind :=
  [.driveNotReady, .brakeStuck, .stall, .overrun, .brakeNotSet, .latchNotClosed, .latchNotOpen, .latchSensor,
   .sensorLost, .headLost, .drumLimit, .takeupLimit, .stowNotFound, .lineSnag]

/-- A profile number that may be absent, and is then sent as 0xFF (R194). -/
def optionalProfile : Option ProfileNo → Byte
  | some n => BitVec.ofNat 8 n.val
  | none => 0xFF

/-- The flags byte of a record at offset 20 (Table 9-4), bit 7 as 0 (the model's choice, log 31). -/
def StationState.recordFlags (a : StationState) (correction : Option Int) : Byte :=
  (if a.mu.saturated then 1 else 0) + (if a.mu.referenced then 2 else 0) + (if a.filters.headSeated.level then 4 else 0) +
    (if a.filters.stowed.level then 8 else 0) + (if a.lcc.armExpiry.isSome then 16 else 0) +
    (if a.lcc.fault.isSome then 32 else 0) + (if correction.isSome then 64 else 0)

/-- The alarm condition set of a record at offset 25 (Table 9-4, R41, R50, R52, R76), bits 4 to 7 as 0 (the model's choice,
log 31). -/
def StationState.recordAlarms (a : StationState) : Byte :=
  if a.lcc.lineState = .offline then 0
  else
    (if a.lcc.overloadHeld then 1 else 0) + (if a.mu.saturated then 2 else 0) +
      (if a.mu.lost ∧ a.lostIsFault = false then 4 else 0) + (if a.mu.referenced then 0 else 8)

/-- The station record byte by byte (Table 9-4), with this stow correction or none. Its bits without a meaning are 0 (the
model's choice, log 31). -/
def State.recordBytes (s : State) (i : Station) (correction : Option Int) : List Byte :=
  let a := s.station i
  [BitVec.ofNat 8 i.val, codeIn lineStateRow a.lcc.lineState, codeIn reasonRow a.lcc.lastReason,
    optionalProfile (a.config.map StationConfig.requested), optionalProfile a.lcc.effective,
    optionalProfile a.lcc.current] ++
  beBytes 2 a.mu.tension ++
  beBytes 3 (match a.config with
    | some c => lengthOf c.countsPerRev c.layers a.mu.count
    | none => 0) ++
  beBytes 3 a.mu.count ++ beBytes 2 (a.mu.speed % 65536).toNat ++
  [codeIn [DrivePhase.idle, .driveWait, .brakeWait, .running, .stopping, .setting, .held] a.dhu.phase,
    if s.dsa.holds i then (if a.dhu.phase = .held then 3 else 2) else if s.dsa.waits i then 1 else 0,
    match s.dsa.waiting.findIdx? fun e => decide (e.station = i) with
    | some k => BitVec.ofNat 8 (k + 1)
    | none => 0,
    codeIn [LatchPosition.closed, .opened, .moving, .conflict] a.latch, a.recordFlags correction] ++
  beBytes 2 a.lcc.dose ++ beBytes 2 a.mu.releaseTime ++ [a.recordAlarms] ++
  (match a.lcc.fault with
    | some r => [codeIn faultKindRow r.first, codeIn lineStateRow r.stateAtEntry] ++ beBytes 4 r.berthTime.toNat ++
        beBytes 2 r.tension ++ beBytes 3 r.count ++ beBytes 2 r.further.toNat
    | none => []) ++
  (match correction with
    | some z => beBytes 4 (z % 4294967296).toNat
    | none => [])

/-- The records of the first `k` stations of a range, in ascending order (R177). -/
def recordsFrom (s : State) (first last : Station) (k : Nat) : List (List Byte) :=
  ((allStations.filter fun j => decide (first ≤ j ∧ j ≤ last)).take k).map fun j => s.recordBytes j none

/-- The Transmitter has taken the head report and sends this payload (R183, R186). -/
def State.sends (s : State) (rest : List ReportEntry) (payload : List Byte) : State :=
  { s with link := { s.link with reports := rest, lineTx := some (frameOf payload) } }

/-! ### Station requests -/

/-- The place of the layer count in a CONFIGURE_STATION body whose flags byte is this (R181, Table 9-5). -/
def layerCountPlace (flags : Byte) : Nat :=
  10 + (if flags.toNat.testBit 2 then 2 else 0) + (if flags.toNat.testBit 3 then 2 else 0) +
    (if flags.toNat.testBit 4 then 3 else 0)

/-- A CONFIGURE_STATION body has the length that its flags and its layer count give (R181). -/
def laidOut (body : List Byte) : Prop :=
  layerCountPlace (body.getD 2 0) < body.length ∧
    body.length = layerCountPlace (body.getD 2 0) + 1 + 3 * (body.getD (layerCountPlace (body.getD 2 0)) 0).toNat

/-- DEPLOY's state test passes (R12). -/
def StationState.takesDeploy (a : StationState) : Prop :=
  (a.lcc.lineState = .stowed ∨ a.lcc.lineState = .lineOut) ∧ a.filters.headSeated.level = false

/-- DEPLOY's field checks pass (R12): 1 ≤ target ≤ T − reserve, beyond the present length in LINE_OUT, and a lock mode. -/
def StationState.deployFits (a : StationState) (target mode : Nat) : Prop :=
  1 ≤ target ∧ target + a.reserve ≤ a.total ∧ (a.lcc.lineState = .lineOut → a.length < target) ∧ mode ≤ 1

/-- RELEASE's state test passes (R23). -/
def StationState.takesRelease (a : StationState) : Prop :=
  a.lcc.lineState ∉ [LineState.payingOut, .releasing, .rewinding] ∧
    (a.lcc.lineState = .stowed ∨ a.lcc.lineState = .lineOut → a.lpu.pulse = none ∧ a.lpu.queued = none)

/-- One of the four present conditions holds at the station (R32, R143). -/
def State.conditionPresent (s : State) (i : Station) : Prop :=
  (s.station i).mu.lost = true ∨ (s.station i).mu.ageTimeout ≤ (s.station i).mu.age ∨
    (s.station i).latch = .conflict ∨
    ((s.station i).filters.brakeOpen.level = true ∧ s.brakeRelease i = false) ∨
    ((s.station i).filters.driveReady.level = true ∧ s.driveEnable i = false)

/-- A station has entered REWINDING with this reason (R26): with the sensor STOWED asserted it arrives at once; otherwise
it presents its class-2 inward need at the rewind speed, or at the creep speed with creep begun at count 0, and a lost
stream is SENSOR_LOST, a further one with the latch CLOSED (R52; log 10). -/
def StationState.Rewound (a : StationState) (c : BerthConfig) (berthTime : Count32) (reason : Reason) (t : State)
    (i : Station) : Prop :=
  (a.filters.stowed.level = true →
    StationState.SameButDrive { a with
      lcc := (a.lcc.between .stowed .stowed).slack
      mu := { a.mu with count := 0, referenced := true, correction := some (a.mu.count : Int) } } (t.station i)) ∧
  (a.filters.stowed.level = false → a.mu.lost = false →
    StationState.SameButDrive { a with
      lcc := { (a.lcc.between .rewinding reason).slack with
        creepCount := if a.mu.count = 0 then some 0 else none
        creepLimit := if a.mu.count = 0 then some c.creepLimit else none
        need := some { cls := 2, dir := .inward,
                       speed := if a.mu.count = 0 then c.creepSpeed else c.rewindSpeed } }
      mu := { a.mu with correction := none } } (t.station i)) ∧
  (a.filters.stowed.level = false → a.mu.lost = true →
    (t.station i).lcc.lineState = .fault ∧ (t.station i).lcc.lastReason = .fault ∧
    (t.station i).lcc.fault = some (a.recordLost .sensorLost .rewinding berthTime))

/-! ### CONFIGURE_STATION -/

/-- The configuration fits the widths of its fields (Table 9-5), and one whose reserve or take-up limit is not carried has
the value that stands in its place (Table 8-1). -/
def CarriedConfig.encodable (c : CarriedConfig) (reserveCarried takeupCarried : Bool) : Prop :=
  c.countsPerRev < 65536 ∧ c.zero < 65536 ∧ c.span < 65536 ∧ c.requested < 256 ∧ c.reserve < 65536 ∧
    c.takeupLimit < 65536 ∧ (∀ e, c.estimate = some e → e < 2 ^ 24) ∧ c.layers.length < 256 ∧
    (∀ l ∈ c.layers, l.wrapLength < 65536 ∧ l.wraps < 256) ∧
    (reserveCarried = false → c.reserve = 5000) ∧ (takeupCarried = false → c.takeupLimit = 10000)

/-- The fields of a CONFIGURE_STATION after its range (Table 9-5). -/
def CarriedConfig.encode (c : CarriedConfig) (reserveCarried takeupCarried : Bool) : List Byte :=
  be8 ((if c.inService then 1 else 0) + (if c.autoRelease then 2 else 0) + (if reserveCarried then 4 else 0) +
      (if takeupCarried then 8 else 0) + (if c.estimate.isSome then 16 else 0)) ++
    be16 c.countsPerRev ++ be16 c.zero ++ be16 c.span ++ be8 c.requested ++
    (if reserveCarried then be16 c.reserve else []) ++ (if takeupCarried then be16 c.takeupLimit else []) ++
    (match c.estimate with
      | some e => be24 e
      | none => []) ++
    be8 c.layers.length ++ (c.layers.flatMap fun l => be16 l.wrapLength ++ be8 l.wraps)

/-- The field checks of R155 pass (Table 8-1). -/
def CarriedConfig.valid (c : CarriedConfig) : Prop :=
  32 ≤ c.countsPerRev ∧ c.countsPerRev ≤ 4096 ∧ 1 ≤ c.layers.length ∧ c.layers.length ≤ 8 ∧
    (∀ l ∈ c.layers, 100 ≤ l.wrapLength ∧ l.wrapLength ≤ 20000 ∧ 1 ≤ l.wraps ∧ l.wraps ≤ 200) ∧
    c.layers.Pairwise (fun a b => b.wrapLength ≤ a.wrapLength) ∧ c.zero ≤ 65535 ∧ 1 ≤ c.span ∧ c.span ≤ 65535 ∧
    c.requested ≤ 7 ∧ c.reserve ≤ 50000 ∧ 500 ≤ c.takeupLimit ∧ c.takeupLimit ≤ 50000 ∧
    c.countsPerRev * (c.layers.map Layer.wraps).sum ≤ 4194304 ∧
    (c.layers.map fun l => l.wraps * l.wrapLength).sum ≤ 250000 ∧
    c.reserve < (c.layers.map fun l => l.wraps * l.wrapLength).sum ∧
    (∀ e, c.estimate = some e → e ≤ c.countsPerRev * (c.layers.map Layer.wraps).sum)

/-- The stored configuration with this requested profile (R154). -/
def CarriedConfig.stores (c : CarriedConfig) (requested : ProfileNo) : StationConfig :=
  { countsPerRev := c.countsPerRev, layers := c.layers, zero := c.zero, span := c.span, requested := requested,
    autoRelease := c.autoRelease, reserve := c.reserve, takeupLimit := c.takeupLimit }

/-- CONFIGURE_STATION's state test passes (R156, R10). -/
def StationState.takesConfig (a : StationState) (c : CarriedConfig) : Prop :=
  match a.lcc.lineState with
  | .offline => True
  | .stowed => c.inService = true ∨ (a.dhu.phase = .idle ∧ a.lpu.pulse = none ∧ a.lpu.queued = none)
  | _ => c.inService = true ∧ c.estimate = none ∧ ∃ d, a.config = some d ∧ c.countsPerRev = d.countsPerRev ∧
      c.layers = d.layers ∧ c.zero = d.zero ∧ c.span = d.span ∧ c.reserve = d.reserve ∧ c.takeupLimit = d.takeupLimit

/-- The commissioning lock lets the configuration pass at a station that holds this one, or none (R166). -/
def CarriedConfig.keptByLock (c : CarriedConfig) (held : Option StationConfig) : Prop :=
  ∃ d, held = some d ∧ c.countsPerRev = d.countsPerRev ∧ c.layers = d.layers ∧ c.reserve = d.reserve ∧
    c.zero = d.zero ∧ c.span = d.span ∧ (d.autoRelease = true → c.autoRelease = true)

/-- A station adopted into this line state with this count and referenced flag (R9, R36, R39, R131). -/
def StationState.adopted (a : StationState) (s : State) (c : CarriedConfig) (requested : ProfileNo) (new : LineState)
    (count : Nat) (referenced : Bool) : StationState :=
  { a with
    config := some (c.stores requested)
    lcc := { (a.lcc.between new .adopted).slack with
      lockMode := .onRequest, fault := none, effective := some (min requested s.ceilingNow) }
    mu := { a.mu with
      count := count, referenced := referenced, accumulator := 0, windowDue := false, age := 0,
      ageTimeout := s.settings.sampleTimeout, lost := false, tension := 0, saturated := false, correction := none }
    lpu := { a.lpu with conflictTimer :=
      if a.latch = .conflict then .running 0 s.settings.lockConfirmTimeout else .absent } }

/-! ### Samples, doses and regulation -/

/-- The tension a good record gives: the exact product divided by 4096, held to 10000; OVER_RANGE counts as 10000 (R47,
R48). -/
def StationConfig.tensionOfRecord (c : StationConfig) (status high low : Byte) : Nat :=
  if status = 1 then 10000
  else if high.toNat * 256 + low.toNat ≤ c.zero then 0
  else min 10000 ((high.toNat * 256 + low.toNat - c.zero) * c.span / 4096)

/-- A good record sets the saturated flag (R47, R48). -/
def StationConfig.recordSaturates (c : StationConfig) (status high low : Byte) : Bool :=
  decide (status = 1 ∨
    (c.zero < high.toNat * 256 + low.toNat ∧ 10000 < (high.toNat * 256 + low.toNat - c.zero) * c.span / 4096))

/-- The dose after a sample of this tension, before an overload event (R73, R74). -/
def State.doseGrown (s : State) (i : Station) (e : ProfileNo) (tension : Nat) : Nat :=
  let threshold := match (s.station i).lcc.current with
    | none => (s.profile e).overload
    | some k => min (s.profile k).overload (s.profile e).overload
  if threshold < tension then min 65535 ((s.station i).lcc.dose + (tension - threshold))
  else (s.station i).lcc.dose - s.settings.leak

/-- The dose limit in use at a sample (R73). -/
def State.doseLimitFor (s : State) (i : Station) (e : ProfileNo) : Nat :=
  match (s.station i).lcc.current with
  | none => (s.profile e).doseLimit
  | some k => min (s.profile k).doseLimit (s.profile e).doseLimit

/-- A sample of this tension leaves the line locked (R66, R75): it raises no overload event, or one that only latches
OVERLOAD_HELD, because auto-release is not permitted or the latch is OPEN. -/
def State.staysLocked (s : State) (i : Station) (c : StationConfig) (e : ProfileNo) (tension : Nat) : Prop :=
  s.doseGrown i e tension < s.doseLimitFor i e ∨ c.autoRelease = false ∨ (s.station i).latch = .opened

/-- The context after the dose work of a sample that leaves the line locked (R66 steps 1 and 2, R74, R75). -/
def State.lccDosed (s : State) (i : Station) (e : ProfileNo) (tension : Nat) : Lcc :=
  if s.doseGrown i e tension < s.doseLimitFor i e then
    { (s.station i).lcc with dose := s.doseGrown i e tension }
  else { (s.station i).lcc with dose := 0, overloadHeld := true }

/-- The context after an entry into ADJUSTING by a decision at a sample (R21, R69). -/
def Lcc.adjusts (l : Lcc) (reason : Reason) (dir : Dir) (cls : Nat) (aim : ProfileNo) (p : Profile) : Lcc :=
  { l.between .adjusting reason with
    adjustDir := some dir, adjustClass := some cls, aimProfile := some aim
    need := some { cls := cls, dir := dir, speed := p.adjustSpeed } }

/-- The count stands at the limit of the drum in this direction (R6). -/
def StationState.atEnd (a : StationState) (dir : Dir) : Prop :=
  match dir with
  | .outward => a.mu.count = a.cmax
  | .inward => a.mu.count = 0

/-- A station has entered ADJUSTING by a decision at a sample of this tension, whose dose work left the context `l` (R21,
R69), or, its count at the limit in that direction, has gone on to FAULT with DRUM_LIMIT by the limit test of the entry
(R6). -/
def StationState.Adjusted (a : StationState) (reason : Reason) (dir : Dir) (cls : Nat) (aim : ProfileNo) (p : Profile)
    (l : Lcc) (tension : Nat) (berthTime : Count32) (b : StationState) : Prop :=
  (¬a.atEnd dir → b.lcc = l.adjusts reason dir cls aim p) ∧
  (a.atEnd dir → b.lcc = StationState.lccInFault
    { a with lcc := l, mu := { a.mu with tension := tension } } .drumLimit .adjusting berthTime)

/-! ### Duty Counters -/

/-- A counter tests the samples of the station (R196). -/
def Counter.tests (c : Counter) (i : Station) : Prop :=
  c.enabled = true ∧ c.kind = .tensionSample ∧ c.first ≤ i.val ∧ i.val ≤ c.last

/-- Whether the condition of a sample at the counter is true (R197). -/
def Counter.holdsFor (c : Counter) (tension : Nat) : Bool :=
  if c.invert then decide (tension < c.threshold) else decide (c.threshold ≤ tension)

/-- Whether a counter that tests the sample counts it: with the edge flag, only after a false condition (R197, R198). -/
def Counter.counts (c : Counter) (i : Station) (tension : Nat) : Bool :=
  c.holdsFor tension && (!c.edge || decide (c.memory.get i = some false))

/-- How many WAIT_TIME occurrences a counter takes at a tick: one for each waiting station of its range (R196, R199). -/
def State.waitsCounted (s : State) (n : CounterNo) : Nat :=
  if (s.counters.get n).enabled = true ∧ (s.counters.get n).kind = .waitTime then
    s.dsa.waiting.countP fun e =>
      decide ((s.counters.get n).first ≤ e.station.val ∧ e.station.val ≤ (s.counters.get n).last)
  else 0

/-- A counter wraps at a tick (R200). -/
def State.wrapsWaiting (s : State) (n : CounterNo) : Prop := 2 ^ 32 ≤ (s.counters.get n).value.toNat + s.waitsCounted n

/-! ### Timers, filters and pulses -/

/-- The confirm timer of a sequence stands at these values with its attempts made (R123). -/
def Lpu.exhaustsAt (l : Lpu) (sequence : Sequence) (elapsed limit : Nat) : Prop :=
  l.sequence = sequence ∧ l.confirmOpen = true ∧ l.confirmTimer = some { elapsed := elapsed, limit := limit } ∧
    l.retries < l.attempts

/-- The timer whose end detects this kind of fault stands at these values, in the phase or state that reads it (Table 5-5,
R52, R123, R131). -/
def StationState.timesOut (a : StationState) (kind : FaultKind) (elapsed limit : Nat) : Prop :=
  match kind with
  | .stall => a.dhu.phase = .running ∧ a.dhu.stall = some { elapsed := elapsed, limit := limit }
  | .driveNotReady => a.dhu.phase = .driveWait ∧ a.dhu.timer = .running .driveReady elapsed limit
  | .brakeStuck => a.dhu.phase = .brakeWait ∧ a.dhu.timer = .running .brakeLift elapsed limit
  | .overrun => a.dhu.phase = .stopping ∧ a.dhu.timer = .running .stop elapsed limit
  | .brakeNotSet => a.dhu.phase = .setting ∧ a.dhu.timer = .running .brakeSet elapsed limit
  | .latchSensor => a.lpu.conflictTimer = .running elapsed limit
  | .latchNotClosed => a.lpu.exhaustsAt .lock elapsed limit
  | .latchNotOpen => a.lpu.exhaustsAt .release elapsed limit
  | .sensorLost => a.mu.lost = false ∧ a.mu.age = elapsed ∧ a.mu.ageTimeout = limit ∧
      (a.lcc.lineState ∈ [LineState.takingUp, .holding, .adjusting, .locking, .releasing, .rewinding] ∨
        (a.lcc.lineState = .fault ∧ a.latch = .closed))
  | .headLost | .drumLimit | .takeupLimit | .stowNotFound | .lineSnag => False

/-- The DHU at the end of a stop (R109). -/
def Dhu.atRest (d : Dhu) : Dhu :=
  { d with phase := .idle, demand := 0, target := none, stopRequest := .none, timer := .absent, stall := none,
           pendingMotion := none }

/-- The DHU in a SETTING just entered with its brake still open, for this stop, its pending motion discarded (R106, R108,
R110). -/
def Dhu.setsBrake (d : Dhu) (request : StopRequest) (timeout : Nat) : Dhu :=
  { d with phase := .setting, demand := 0, stopRequest := request, stall := none, pendingMotion := none,
           timer := .running .brakeSet 0 timeout }

/-- The DSA with the holder record of station `i` under this stop kind, its slice timer discarded (R89, R94). -/
def Dsa.stopping (d : Dsa) (i : Station) (kind : StopKind) : Dsa :=
  { d with holders := d.holders.map fun h => if h.station = i then { h with slice := .absent, stopKind := kind } else h }

/-- The DSA with station `i` withdrawing from its slot: a stop kind hard stands (R86, R94, log 15). -/
def Dsa.withdrawing (d : Dsa) (i : Station) : Dsa :=
  { d with holders := d.holders.map fun h => if h.station = i then
      { h with slice := .absent, stopKind := if h.stopKind = .hard then .hard else .withdrawing } else h }

/-- The slot of station `i`, which presents no need, has come free (R87, R88): with nobody waiting its record and its yield
are gone; with every other slot taken the entry at the head of the list, no class-0 entry among them, is granted it. -/
def SlotFreed (i : Station) (s t : State) : Prop :=
  (s.dsa.waiting = [] → t.dsa = { s.dsa with
    holders := s.dsa.holders.filter fun h => decide (h.station ≠ i)
    yields := s.dsa.yields.filter fun y => decide (y.yielder ≠ i) }) ∧
  ∀ (e : WaitEntry) (more : List WaitEntry) (need : Need) (others : List Holder),
    others = s.dsa.holders.filter (fun h => decide (h.station ≠ i)) → s.dsa.waiting = e :: more → e.station ≠ i →
    (s.station e.station).lcc.need = some need → (∀ k ∈ s.dsa.waiting, 1 ≤ k.cls) → others.length + 1 = s.dsa.slots →
    s.zoneHold = true ∨ (s.station e.station).filters.driveReady.level = false →
    t.dsa.waiting = more ∧ t.dsa.grantSeq = s.dsa.grantSeq + 1 ∧
    t.dsa.holders = others ++
      [{ station := e.station, cls := e.cls, grant := s.dsa.grantSeq + 1, slice := .absent, stopKind := .none }] ∧
    (t.station e.station).dhu.phase = (if s.zoneHold then .held else .driveWait)

/-- The drive phase that a handover reaches at once from its start, with these levels of DRIVE_READY and BRAKE_OPEN (R101,
R102). -/
def DrivePhase.reached (ready brakeOpen : Bool) : DrivePhase :=
  if ready = false then .driveWait else if brakeOpen = false then .brakeWait else .running

/-- The DHU after the start of a handover, from a grant or from HELD, with these levels of DRIVE_READY and BRAKE_OPEN: the
phase it reaches at once and that phase's fresh timer (R101, R102, R103, R113). -/
def Dhu.handsOver (d : Dhu) (ready brakeOpen : Bool) (c : BerthConfig) : Dhu :=
  match DrivePhase.reached ready brakeOpen with
  | .driveWait => { d with phase := .driveWait, timer := .running .driveReady 0 c.driveReadyTimeout }
  | .brakeWait => { d with phase := .brakeWait, timer := .running .brakeLift 0 c.brakeLiftTimeout }
  | _ => { d with phase := .running, timer := .absent, stall := some { elapsed := 0, limit := c.stallTime } }

/-- The DHU `d` of station `i` after a grant for this need (R101): HELD under zone hold, otherwise its handover begins. -/
def State.granted (s : State) (i : Station) (d : Dhu) (need : Need) : Dhu :=
  let taken : Dhu := { d with target := some { dir := need.dir, speed := need.speed }, demandDir := need.dir, demand := 0,
                              stopRequest := .none }
  if s.zoneHold then { taken with phase := .held }
  else taken.handsOver (s.station i).filters.driveReady.level (s.station i).filters.brakeOpen.level s.settings

/-- A grant to station `i` reaches RUNNING at once, so that its slice starts with it (R89, R101, R102). -/
abbrev State.runsAtGrant (s : State) (i : Station) : Prop :=
  s.zoneHold = false ∧ (s.station i).filters.driveReady.level = true ∧ (s.station i).filters.brakeOpen.level = true

/-- The holder record that the next grant makes of this entry (R87), its slice started if RUNNING is reached at once
(R89). -/
def State.newHolder (s : State) (e : WaitEntry) : Holder :=
  { station := e.station, cls := e.cls, grant := s.dsa.grantSeq + 1, stopKind := .none
    slice := if s.runsAtGrant e.station then .running s.settings.sliceTime else .absent }

/-- The DSA after the completed stop of station `i` and the grant of its slot to this entry, with these entries left to
wait: the yields of `i` are gone and those for the entry's station lapse (R87, R88, R92). -/
def State.dsaServing (s : State) (i : Station) (e : WaitEntry) (left : List WaitEntry) : Dsa :=
  { s.dsa with
    waiting := left
    grantSeq := s.dsa.grantSeq + 1
    holders := s.dsa.holders.filter (fun h => decide (h.station ≠ i)) ++ [s.newHolder e]
    yields := (s.dsa.yields.filter fun y => decide (y.yielder ≠ i)).map fun y =>
      if y.forStation = e.station then { y with lapsed := true } else y }

/-- Of the arbiter's work one SLOT_GRANT of station `i` has been counted and no further SLOT_YIELD (R98). -/
def GrantCounted (i : Station) (s t : State) : Prop :=
  ∀ n : CounterNo,
    ((s.counters.get n).kind = .slotGrant → t.counters.get n = (s.occurrence .slotGrant i).counters.get n) ∧
    ((s.counters.get n).kind = .slotYield → t.counters.get n = s.counters.get n)

/-- The stop of station `i`, which still presents this need, has completed with its DHU at `d` before (R88, R109, R114). The
station has rejoined at the tail of its class: with nobody waiting and a slot free it is granted again, and with every
other slot taken the entry that heads the list before it is granted its slot, no class-0 entry being left to wait. -/
def SlotRejoined (d : Dhu) (need : Need) (i : Station) (s t : State) : Prop :=
  match s.dsa.waiting with
  | [] =>
    (s.dsa.holders.filter fun h => decide (h.station ≠ i)).length < s.dsa.slots →
      t.dsa = s.dsaServing i { station := i, cls := need.cls } [] ∧ (t.station i).dhu = s.granted i d.atRest need ∧
      GrantCounted i s t
  | e :: more =>
    match (s.station e.station).lcc.need with
    | none => True
    | some other =>
      e.station ≠ i → (s.runsAtGrant e.station → ∀ h ∈ s.dsa.holders, h.station ≠ e.station) →
      s.dsa.waiting.Pairwise (fun a b => a.cls ≤ b.cls) → e.cls ≤ need.cls → 1 ≤ need.cls → (∀ k ∈ more, 1 ≤ k.cls) →
      (s.dsa.holders.filter fun h => decide (h.station ≠ i)).length + 1 = s.dsa.slots →
        t.dsa = s.dsaServing i e (more.filter (fun k => decide (k.cls ≤ need.cls)) ++
          { station := i, cls := need.cls } :: more.filter (fun k => decide (need.cls < k.cls))) ∧
        (t.station e.station).dhu = s.granted e.station (s.station e.station).dhu other ∧
        (t.station i).dhu = d.atRest ∧ GrantCounted e.station s t

/-- A normal stop asked of this station's DHU completes at once (R106, R108): in DRIVE_WAIT and HELD, and in BRAKE_WAIT
with the brake set. -/
def StationState.stopsAtOnce (a : StationState) : Prop :=
  a.dhu.phase = .driveWait ∨ a.dhu.phase = .held ∨
    (a.dhu.phase = .brakeWait ∧ a.filters.brakeOpen.level = false)

/-- A station after a normal stop asked of its DHU, its stop request none, that does not complete at once (Table 5-4, R55,
R106, R107, R108). -/
def StationState.stopAsked (a : StationState) (c : BerthConfig) : StationState :=
  match a.dhu.phase with
  | .brakeWait =>
    { a with
      dhu := { a.dhu with phase := .setting, demand := 0, stopRequest := .normal, stall := none
                          timer := .running .brakeSet 0 c.brakeSetTimeout }
      mu := { a.mu with releaseMeasure := none } }
  | .running =>
    { a with dhu := { a.dhu with
        phase := .stopping, stopRequest := .normal, stall := none
        timer := if a.dhu.demand = 0 then .running .stop 0 c.stopTimeout else .absent } }
  | _ => { a with dhu := { a.dhu with stopRequest := .normal } }

/-- The stop of this station's drum completes at the moment ZONE_HOLD rises (R108, R112): its DHU is in an active phase with
a stop request, and its brake is set already. -/
def StationState.endsByZone (a : StationState) : Prop :=
  a.dhu.phase.isActive = true ∧ a.dhu.stopRequest ≠ .none ∧ a.filters.brakeOpen.level = false

/-- A station after ZONE_HOLD has risen, where no stop completes by it (R55, R112): a DHU in an active phase is in SETTING,
and at once in HELD if the brake is set already; every other DHU stands. -/
def StationState.zoneHeld (a : StationState) (c : BerthConfig) : StationState :=
  if a.dhu.phase.isActive then
    { a with
      dhu := { a.dhu with
        demand := 0, stall := none
        phase := if a.filters.brakeOpen.level then .setting else .held
        timer := if a.filters.brakeOpen.level then .running .brakeSet 0 c.brakeSetTimeout else .absent }
      mu := { a.mu with releaseMeasure := none } }
  else a

/-- A station after ZONE_HOLD has fallen (R56, R113): the handover of a DHU in HELD starts again, and every other DHU
stands. -/
def StationState.zoneResumed (a : StationState) (c : BerthConfig) : StationState :=
  if a.dhu.phase = .held then
    { a with
      dhu := a.dhu.handsOver a.filters.driveReady.level a.filters.brakeOpen.level c
      mu := { a.mu with releaseMeasure := if a.filters.driveReady.level then some 0 else a.mu.releaseMeasure } }
  else a

/-- A slice timer under zone hold: paused with its remaining time (R89). -/
def SliceTimer.underZone : SliceTimer → SliceTimer
  | .running remaining => .paused remaining
  | other => other

/-- A slice timer after zone hold: it counts on from its remaining time (R89). -/
def SliceTimer.afterZone : SliceTimer → SliceTimer
  | .paused remaining => .running remaining
  | other => other

/-- The part under a ZONE_HOLD that has just risen, before any drum stops: its filter asserted, every slice paused (R89,
R95). -/
def State.underZone (s : State) : State :=
  { s with
    zoneFilter := { level := true, held := none }
    dsa := { s.dsa with holders := s.dsa.holders.map fun h => { h with slice := h.slice.underZone } } }

/-- The reports pending after station reports were made for some stations: those that were pending keep their places, and
of the others there are the STATION reports of exactly the stations for which this holds (R182). -/
def ReportsFor (made : Station → Prop) (before after : List ReportEntry) : Prop :=
  before <+: after ∧ ∀ r, r ∈ after ↔ r ∈ before ∨ ∃ i, made i ∧ r = .station i

/-- A filter after a raw edge to this level, with the filter width as it stands (R133, R134). -/
def Filter.takesEdge (f : Filter) (level : Bool) (width : Nat) : Filter :=
  if level = f.level then { level := f.level, held := none }
  else { level := f.level, held := some (f.held.getD { age := 0, width := width }) }

/-- A slice timer counts down. -/
def SliceTimer.isRunning : SliceTimer → Bool
  | .running _ => true
  | _ => false

/-- A slice timer is paused. -/
def SliceTimer.isPaused : SliceTimer → Bool
  | .paused _ => true
  | _ => false

/-- The delay of a pulse of this kind (R119). -/
def BerthConfig.delayOf (c : BerthConfig) (kind : PulseKind) : Nat :=
  if kind = .lock then c.lockDelay else c.releaseDelay

/-- The width of a pulse of this kind (R119). -/
def BerthConfig.widthOf (c : BerthConfig) (kind : PulseKind) : Nat :=
  if kind = .lock then c.lockWidth else c.releaseWidth

/-- The LPU with this pulse energized (R119): a pulse of a lock or release sequence in being opens confirmation, with a
fresh confirm timer (R121). -/
def Lpu.energizes (l : Lpu) (p : Pulse) (c : BerthConfig) : Lpu :=
  { l with
    pulse := some { p with phase := .energized, remaining := p.width }
    confirmOpen := if p.ofSequence = true ∧ l.sequence ∈ [Sequence.lock, .release] then true else l.confirmOpen
    confirmTimer :=
      if p.ofSequence = true ∧ l.sequence = .lock then some { elapsed := 0, limit := c.lockConfirmTimeout }
      else if p.ofSequence = true ∧ l.sequence = .release then some { elapsed := 0, limit := c.releaseConfirmTimeout }
      else l.confirmTimer }

/-- The latch reads the target of the station's sequence (Table 6-3). -/
def StationState.atTarget (a : StationState) : Prop :=
  (a.lpu.sequence = .lock ∧ a.latch = .closed) ∨ (a.lpu.sequence = .release ∧ a.latch = .opened)

/-- The sequence of station `i` has been confirmed in LOCKING or RELEASING (R18, R24, R122): it has ended, and the station is
in TAKING_UP, or at count 0 in FAULT with DRUM_LIMIT (R6), in LINE_OUT, or in REWINDING with all that its entry brings. -/
def SequenceConfirmed (i : Station) (s t : State) : Prop :=
  (t.station i).lpu.sequence = .none ∧ (t.station i).lpu.confirmOpen = false ∧
  (t.station i).lpu.confirmTimer = none ∧ (t.station i).lpu.queued = none ∧ ReportEntry.station i ∈ t.link.reports ∧
  ((s.station i).lpu.sequence = .lock →
    ((s.station i).mu.count ≠ 0 → (t.station i).lcc = { (s.station i).lcc.between .takingUp .lockConfirmed with
      takeupStart := some (s.station i).mu.count
      need := some { cls := 1, dir := .inward, speed := s.settings.takeupSpeed } }) ∧
    ((s.station i).mu.count = 0 →
      (t.station i).lcc = (s.station i).lccInFault .drumLimit .takingUp s.berthTime)) ∧
  ((s.station i).lpu.sequence = .release →
    ((s.station i).lcc.rewindFlag ≠ some true →
      (t.station i).lcc = ((s.station i).lcc.between .lineOut .releaseConfirmed).slack) ∧
    ((s.station i).lcc.rewindFlag = some true →
      ({ s.station i with lpu := (t.station i).lpu } : StationState).Rewound s.settings s.berthTime .releaseConfirmed
        t i))

/-- The station is in the state that its sequence serves, its stream good in LOCKING (R18, R24). -/
def State.sequenceWanted (s : State) (i : Station) : Prop :=
  ((s.station i).lpu.sequence = .lock ∧ (s.station i).lcc.lineState = .locking ∧ (s.station i).mu.lost = false) ∨
    ((s.station i).lpu.sequence = .release ∧ (s.station i).lcc.lineState = .releasing)

/-- One LATCH_PULSE has been counted for station `i` at every counter of that kind, its COUNTER reports ahead of every new
report (R119, R196, R200; the order: log 5). -/
def PulseCounted (i : Station) (s t : State) : Prop :=
  (∀ n : CounterNo, (s.counters.get n).kind = .latchPulse →
    t.counters.get n = (s.occurrence .latchPulse i).counters.get n) ∧
  (s.occurrence .latchPulse i).link.reports <+: t.link.reports

/-- The commands that end a timer of station `i` or its age, each with the kind it detects (Table 7-1). -/
def timedDetections (i : Station) : List (Instr × FaultKind) :=
  [(.stallTimeout i, .stall), (.driveReadyTimeout i, .driveNotReady), (.brakeLiftTimeout i, .brakeStuck),
    (.stopTimeout i, .overrun), (.brakeSetTimeout i, .brakeNotSet), (.conflictTimeout i, .latchSensor),
    (.confirmTimeout i, .latchNotClosed), (.confirmTimeout i, .latchNotOpen), (.sampleTimeout i, .sensorLost)]

/-- A command that resets the part (R1). -/
def resetsPart : Instr → Bool
  | .powerOnReset _ => true
  | .pinReset => true
  | _ => false

/-- A request that may end a fault record (R141). -/
def clearsRecords : Instr → Bool
  | .clearFault _ => true
  | .configureStation _ => true
  | _ => false

end Sys2Proof.Machine
end

