-- ==== Sys2Proof/Certificates/Slice0/Obligations.lean ====
section
/-!
DEFINITION. The statements for the provers, family by family: the machine and its resets, the link, the berth requests,
the station requests, the Measurement Unit, the drive, the inputs, the latch, time, and the invariants of every step.
-/
open Sys2Proof Sys2Proof.Machine

/-! ### The machine and its resets -/

/-- A step takes the command at the front of the queue and runs it on the state with the queue's rest. -/
def Obligations.StepRunsFrontCommand : Prop :=
  ∀ (c : Instr) (rest : List Instr) (s : State),
    step { s with pending := c :: rest } = exec c { s with pending := rest }

/-- POWER_ON_RESET and PIN_RESET leave every block at the reset values that its table or its rule gives; PIN_RESET finds
each filter's raw level as its pin stands and the encoder position as it stands (R1, R35, R57, R81, R99, R118, R128, R132,
R148, R151, R153, R158, R164, R171, R185, R186, R187, R193, R195). The model's own: no window end waits (windowDue, log 11),
the demand has been 0 since the last one (zeroThroughout, log 12), no detection waits for its command (handed, log 29), and
the commands that wait stay (log 22). -/
def Obligations.ResetStates : Prop :=
  ∀ (found : Pins) (s : State),
    (∃ t, exec (.powerOnReset found) s = .next t ∧ AfterReset .powerOn found t ∧ t.pending = s.pending) ∧
    (∃ t, exec .pinReset s = .next t ∧ AfterReset .resetPin s.pins t ∧ t.pending = s.pending ∧
      t.zoneFilter.level = s.zoneFilter.raw ∧
      ∀ i : Station, (t.station i).mu.quarter = (s.station i).mu.quarter ∧
        ∀ which : Sensor, ((t.station i).filters.get which).level = ((s.station i).filters.get which).raw)

/-- Every invariant of the last section holds right after a reset of any cause with any pin levels found, and so in
State.reset. -/
def Obligations.InvariantsHoldAtReset : Prop :=
  (∀ (cause : ResetCause) (found : Pins), (State.atReset cause found).invariants) ∧ State.reset.invariants

/-- A RESTART with frame result OK: the seven effects of R192, and nothing else changes. -/
def Obligations.RestartEffects : Prop :=
  ∀ (s : State) (tag : Byte) (rest : List (List Byte)), HandlerTakes s [0x14, tag] rest →
    exec .restart s = .next { s with
      link := { s.link with inbound := [], reports := [.restarted], replySlot := some (berthReply 0x14 tag 0) }
      watch := { remaining := s.settings.watchTime * 1000, firstExpirySeen := false, hold := false }
      berth := { s.berth with resetCause := .restartRequest } }

/-! ### The link -/

/-- A good frame reloads the Link Watch, ends a link hold with LINK RESTORED pending, and joins the inbound queue if fewer
than four frames stand there; nothing else changes (R170). -/
def Obligations.GoodFrameAccepted : Prop :=
  ∀ (s : State) (payload : List Byte), s.link.rxHeld = [] → 2 ≤ payload.length → payload.length ≤ 250 →
    exec (.frameReceived (frameOf payload)) s = .next { s with
      watch := { remaining := s.settings.watchTime * 1000, firstExpirySeen := false, hold := false }
      link := { s.link with
        inbound := if s.link.inbound.length < 4 then s.link.inbound ++ [payload] else s.link.inbound
        reports := if s.watch.hold then pendReport (.link .restored) s.link.reports else s.link.reports } }

/-- A frame that fails its length check or its CRC check is as if its start byte had never come: the bytes after it are
taken again in hunting, and with no start byte among them the frame leaves no trace. A byte that comes after a gap
abandons the frame in collection and is taken in hunting (R169). -/
def Obligations.BadFramesLeaveNoTrace : Prop :=
  ∀ (s : State) (len late : Byte) (body : List Byte),
    (s.link.rxHeld = [] →
      (len.toNat < 2 ∨ 250 < len.toNat ∨
        (body.length = len.toNat + 2 ∧ body.drop len.toNat ≠ be16 (crc (len :: body.take len.toNat)).toNat)) →
      ∃ t, exec (.frameCheckFailed (0xA5 :: len :: body)) s = .next t ∧
        exec (.frameCheckFailed (len :: body)) s = .next t ∧ ((∀ b ∈ len :: body, b ≠ 0xA5) → t = s)) ∧
    exec (.frameGapTimeout late) s =
      .next { s with link := { s.link with rxHeld := if late = 0xA5 then [0xA5] else [] } }

/-- A taken frame that fails a test of R172 is answered with its frame result and applied to nothing: an unknown code; a
bad flags byte of CONFIGURE_STATION or a bad item number of CONFIGURE_BERTH; a payload longer or shorter than its layout;
a range that is not valid, or a bad rewind byte (R172, R173, R180, R181). SET_COUNTER is in SetCounterByTheRules. -/
def Obligations.FrameFaultsAnswered : Prop :=
  ∀ (s : State) (code tag a b : Byte) (body fields : List Byte) (items : List (Nat × Nat)) (rest : List (List Byte))
      (n : Nat),
    (HandlerTakes s (code :: tag :: body) rest → code.toNat = 0 ∨ 20 < code.toNat →
      exec .unknownRequest s = .next (s.answeredWith rest [code ||| 0x80, tag, 1])) ∧
    (∀ c ∈ ([(.identify, 0x01, 0), (.readBerth, 0x02, 0), (.readStations n, 0x03, 2), (.readProfiles, 0x04, 0),
        (.readCounters, 0x05, 0), (.writeProfile, 0x08, 11), (.setCondition, 0x09, 1), (.commissionLock, 0x0A, 0),
        (.deploy n, 0x0B, 6), (.lock n, 0x0C, 2), (.armRelease n, 0x0E, 2), (.rewind n, 0x0F, 2), (.halt n, 0x10, 2),
        (.selectProfile n, 0x11, 3), (.clearFault n, 0x12, 2), (.restart, 0x14, 0)] : List (Instr × Byte × Nat)),
      HandlerTakes s (c.2.1 :: tag :: body) rest → body.length ≠ c.2.2 →
        exec c.1 s = .next (s.answeredWith rest [c.2.1 ||| 0x80, tag, 2])) ∧
    (∀ c ∈ ([(.readStations n, 0x03, 0), (.deploy n, 0x0B, 4), (.lock n, 0x0C, 0), (.armRelease n, 0x0E, 0),
        (.rewind n, 0x0F, 0), (.halt n, 0x10, 0), (.selectProfile n, 0x11, 1),
        (.clearFault n, 0x12, 0)] : List (Instr × Byte × Nat)),
      HandlerTakes s (c.2.1 :: tag :: a :: b :: fields) rest → fields.length = c.2.2 →
        ¬(a.toNat ≤ b.toNat ∧ b.toNat ≤ 11) →
        exec c.1 s = .next (s.answeredWith rest [c.2.1 ||| 0x80, tag, 3])) ∧
    (HandlerTakes s (0x0D :: tag :: body) rest → body.length ≠ 2 → body.length ≠ 3 →
      exec (.release n) s = .next (s.answeredWith rest [0x8D, tag, 2])) ∧
    (HandlerTakes s (0x0D :: tag :: a :: b :: fields) rest → fields.length ≤ 1 →
      ¬(a.toNat ≤ b.toNat ∧ b.toNat ≤ 11) ∨ (∃ f ∈ fields, 1 < f.toNat) →
      exec (.release n) s = .next (s.answeredWith rest [0x8D, tag, 3])) ∧
    (HandlerTakes s (0x07 :: tag :: body) rest →
      (32 ≤ (body.getD 2 0).toNat → exec (.configureStation n) s = .next (s.answeredWith rest [0x87, tag, 3])) ∧
      ((body.getD 2 0).toNat < 32 → ¬laidOut body →
        exec (.configureStation n) s = .next (s.answeredWith rest [0x87, tag, 2])) ∧
      ((body.getD 2 0).toNat < 32 → laidOut body →
        ¬((body.getD 0 0).toNat ≤ (body.getD 1 0).toNat ∧ (body.getD 1 0).toNat ≤ 11) →
        exec (.configureStation n) s = .next (s.answeredWith rest [0x87, tag, 3]))) ∧
    ((∀ x ∈ items, wellSized x) → HandlerTakes s (0x06 :: tag :: (items.flatMap itemBytes ++ a :: fields)) rest →
      (a.toNat = 0 ∨ 30 < a.toNat → exec .configureBerth s = .next (s.answeredWith rest [0x86, tag, 3])) ∧
      (1 ≤ a.toNat → a.toNat ≤ 30 → fields.length < fieldWidth a.toNat →
        exec .configureBerth s = .next (s.answeredWith rest [0x86, tag, 2])))

/-- IDENTIFY, READ_BERTH, READ_PROFILES and READ_COUNTERS answer the values concerned as they stand, laid out as in Table
9-5, and change nothing else (R174, R175, R176, R178, R179). That a one-byte flag or level is 1 for set or asserted and 0
otherwise is the model's choice (log 30; R201 gives it for the enabled byte), and so are the zeros in bits 2 to 7 of a
counter's flags byte (log 31). -/
def Obligations.ReadReplies : Prop :=
  ∀ (s : State) (tag : Byte) (rest : List (List Byte)),
    (HandlerTakes s [0x01, tag] rest → exec .identify s = .next (s.answeredWith rest
      ([0x81, tag, 0, 0x45, 0x53, 0x4B, 0x55, 0x4C, 0x4F, 0x4E, 0x4D, 0x4C, 0x31, 0x32, 0x10, 12] ++
        ([if s.berth.locked then 1 else 0,
          match s.berth.resetCause with | .powerOn => 0 | .resetPin => 1 | .restartRequest => 2] : List Byte)))) ∧
    (HandlerTakes s [0x02, tag] rest → exec .readBerth s = .next (s.answeredWith rest ([0x82, tag, 0] ++
      (List.range 30).flatMap (fun k => beBytes (fieldWidth (k + 1)) (berthRow s (k + 1))) ++
      be8 s.profiles.condition.val ++ beFlag s.berth.locked ++
      be16 (match s.berth.thresholdSnapshot with | some v => v | none => 0xFFFF) ++ beFlag s.berthAlarm ++
      beFlag s.watch.hold ++ beFlag s.watch.firstExpirySeen ++ be16 s.watch.remaining ++ beFlag s.zoneFilter.level ++
      be32 s.berthTime.toNat ++ be8 s.dsa.holders.length ++ be8 s.dsa.waiting.length))) ∧
    (HandlerTakes s [0x04, tag] rest → exec .readProfiles s = .next (s.answeredWith rest ([0x84, tag, 0] ++
      (s.profiles.profiles.toList.flatMap fun p =>
        be16 p.low ++ be16 p.high ++ be16 p.overload ++ be16 p.doseLimit ++ be16 p.adjustSpeed) ++
      be8 s.profiles.condition.val ++ (s.profiles.ceiling.toList.flatMap fun e => be8 e.val) ++
      beFlag s.berth.locked ++
      (match s.berth.locked, s.profiles.snapshot with
        | true, some snap => (snap.limits.toList.flatMap fun l => be16 l.overload ++ be16 l.doseLimit) ++
            (snap.ceiling.toList.flatMap fun e => be8 e.val)
        | _, _ => [])))) ∧
    (HandlerTakes s [0x05, tag] rest → exec .readCounters s = .next (s.answeredWith rest ([0x85, tag, 0] ++
      (s.counters.toList.flatMap fun c => beFlag c.enabled ++ be8 c.kind.code ++ be8 c.first ++ be8 c.last ++
        be16 c.threshold ++ [if c.invert then (if c.edge then 3 else 1) else (if c.edge then 2 else 0)] ++
        be32 c.value.toNat))))

/-- READ_STATIONS answers, from the first station of its range on, as many whole station records as keep the payload
within 250 bytes, their number first, each without a stow correction and byte by byte as in Table 9-4, and changes nothing
else (R177). The zeros in a record's bits without a meaning (bit 7 of the flags, bits 4 to 7 of the alarm condition set,
bits 14 and 15 of the further-fault set) are the model's choice (log 31). -/
def Obligations.ReadStationsReply : Prop :=
  ∀ (s : State) (tag : Byte) (first last : Station) (rest : List (List Byte)) (n : Nat),
    HandlerTakes s [0x03, tag, BitVec.ofNat 8 first.val, BitVec.ofNat 8 last.val] rest → first ≤ last → 12 ≤ n →
    ∃ k, k ≤ last.val + 1 - first.val ∧
      exec (.readStations n) s = .next (s.answeredWith rest
        ([0x83, tag, 0, BitVec.ofNat 8 k] ++ (recordsFrom s first last k).flatten)) ∧
      4 + (recordsFrom s first last k).flatten.length ≤ 250 ∧
      (k = last.val + 1 - first.val ∨ 250 < 4 + (recordsFrom s first last (k + 1)).flatten.length)

/-- The Transmitter, the line being free, sends the reply, else the report at the head of the queue with the content its
kind has now, a STATION report's record byte by byte as in Table 9-4, else nothing (R42, R183, R186). That the link-hold byte
of LINK and the level byte of ZONE are 1 for active or asserted and 0 otherwise is the model's choice (log 30), and so are
the zeros in the bits without a meaning of a record, a counter's flags and the stations in HELD (log 31). -/
def Obligations.TransmitterSendsNext : Prop :=
  ∀ (s : State) (reply : List Byte) (rest : List ReportEntry) (i : Station) (event : LinkEvent) (n : CounterNo),
    (s.link.replySlot = some reply → exec .transmitNextFrame s =
      .next { s with link := { s.link with replySlot := none, lineTx := some (frameOf reply) } }) ∧
    (s.link.replySlot = none → s.link.reports = [] → exec .transmitNextFrame s =
      .next { s with link := { s.link with lineTx := none } }) ∧
    (s.link.replySlot = none →
      (s.link.reports = .station i :: rest → exec .transmitNextFrame s = .next (s.sends rest
        (0x41 :: 0 :: s.recordBytes i
          (if (s.station i).lcc.lineState = .stowed ∧ (s.station i).lcc.lastReason = .stowed then
            (s.station i).mu.correction else none)))) ∧
      (s.link.reports = .link event :: rest → exec .transmitNextFrame s = .next (s.sends rest
        [0x42, 0, match event with | .silent => 0 | .holdBegun => 1 | .restored => 2, if s.watch.hold then 1 else 0,
          match s.settings.watchMode with | .off => 0 | .report => 1 | .hold => 2 | .reportThenHold => 3])) ∧
      (s.link.reports = .zone :: rest → exec .transmitNextFrame s = .next (s.sends rest
        ([0x43, 0, if s.zoneFilter.level then 1 else 0] ++
          be16 (allStations.map fun j => if (s.station j).dhu.phase = .held then 2 ^ j.val else 0).sum))) ∧
      (s.link.reports = .counter n :: rest → exec .transmitNextFrame s = .next (s.sends rest
        ([0x44, 0, BitVec.ofNat 8 n.val] ++ counterBytes (s.counters.get n)))) ∧
      (s.link.reports = .restarted :: rest → exec .transmitNextFrame s = .next (s.sends rest
        (([0x45, 0, match s.berth.resetCause with | .powerOn => 0 | .resetPin => 1 | .restartRequest => 2] : List Byte) ++
          be32 s.berthTime.toNat))))

/-- An expiry of the Link Watch acts by its mode: SILENT is made pending and the watch reloaded, or link hold begins, which
takes every station in PAYING_OUT to LINE_OUT and changes no other station's context (R15, R188, R189). -/
def Obligations.LinkWatchExpires : Prop :=
  ∀ (s : State), s.watch.remaining = 0 → s.watch.hold = false →
    (s.settings.watchMode = .report → exec .linkWatchExpiry s = .next { s with
      link := { s.link with reports := pendReport (.link .silent) s.link.reports }
      watch := { s.watch with remaining := s.settings.watchTime * 1000 } }) ∧
    (s.settings.watchMode = .reportThenHold → s.watch.firstExpirySeen = false →
      exec .linkWatchExpiry s = .next { s with
        link := { s.link with reports := pendReport (.link .silent) s.link.reports }
        watch := { s.watch with remaining := s.settings.watchTime * 1000, firstExpirySeen := true } }) ∧
    (s.settings.watchMode = .hold ∨ (s.settings.watchMode = .reportThenHold ∧ s.watch.firstExpirySeen = true) →
      ∃ t, exec .linkWatchExpiry s = .next t ∧ BerthKept { s with watch := { s.watch with hold := true } } t ∧
        LinkKept s t ∧ ReportEntry.link .holdBegun ∈ t.link.reports ∧
        (∀ i : Station, (s.station i).lcc.lineState ≠ .payingOut → (s.station i).SameButDrive (t.station i)) ∧
        (∀ i : Station, (s.station i).lcc.lineState = .payingOut →
          (t.station i).lcc = ((s.station i).lcc.between .lineOut .linkHold).slack ∧
          (t.station i).mu.count = (s.station i).mu.count ∧ (t.station i).config = (s.station i).config ∧
          (t.station i).lpu = (s.station i).lpu ∧ (t.station i).filters = (s.station i).filters ∧
          ReportEntry.station i ∈ t.link.reports))

/-- BERTH_ALARM is asserted exactly while an in-service station holds a routed fault kind, first or further, or has a routed
alarm condition, or LINK_HOLD is routed and link hold is active (R149). -/
def Obligations.BerthAlarmFollowsTheTest : Prop :=
  ∀ s : State, s.berthAlarm = true ↔
    (∃ i : Station, (s.station i).lcc.lineState ≠ .offline ∧
      ((∃ record kind, (s.station i).lcc.fault = some record ∧ s.routing.getLsbD (FaultKind.code kind) = true ∧
          (record.first = kind ∨ record.further.getLsbD kind.code = true)) ∨
        (s.routing.getLsbD 14 = true ∧ (s.station i).lcc.overloadHeld = true) ∨
        (s.routing.getLsbD 15 = true ∧ (s.station i).mu.saturated = true) ∨
        (s.routing.getLsbD 16 = true ∧ (s.station i).mu.lost = true ∧ (s.station i).lostIsFault = false) ∨
        (s.routing.getLsbD 17 = true ∧ (s.station i).mu.referenced = false))) ∨
    (s.routing.getLsbD 18 = true ∧ s.watch.hold = true)

/-! ### The berth requests -/

/-- WRITE_PROFILE (R58, R165): a failed check is OUT_OF_RANGE, a value above its snapshot under the lock is LOCKED, and
else all five fields of the numbered profile are replaced. Nothing else changes in any case. -/
def Obligations.WriteProfileByTheRules : Prop :=
  ∀ (s : State) (tag : Byte) (number : Nat) (p : Profile) (rest : List (List Byte)), number < 256 →
    p.low < 65536 → p.high < 65536 → p.overload < 65536 → p.doseLimit < 65536 → p.adjustSpeed < 65536 →
    HandlerTakes s (0x08 :: tag :: (be8 number ++ be16 p.low ++ be16 p.high ++ be16 p.overload ++ be16 p.doseLimit ++
      be16 p.adjustSpeed)) rest →
    (¬(number ≤ 7 ∧ p.valid) → exec .writeProfile s = .next (s.answeredWith rest (berthReply 0x08 tag 3))) ∧
    ∀ n : ProfileNo, number = n.val → p.valid →
      (s.aboveSnapshot n p → exec .writeProfile s = .next (s.answeredWith rest (berthReply 0x08 tag 4))) ∧
      (¬s.aboveSnapshot n p → ∃ t, exec .writeProfile s = .next t ∧
        t = { s.answeredWith rest (berthReply 0x08 tag 0) with profiles := t.profiles } ∧
        t.profiles = { s.profiles with profiles := t.profiles.profiles } ∧
        ∀ m : ProfileNo, t.profile m = if m = n then p else s.profile m)

/-- SET_CONDITION (R60): a class outside 0..3 is OUT_OF_RANGE and the class stands; a class in range is stored, and
every configured station's effective profile becomes the lesser of its requested profile and the ceiling entry of that
class, its STATION report pending if it changed in service, and no other report with it (R63, R182). The class already
in force changes no effective profile that is as R62 has it. Nothing else changes, under the lock or not. -/
def Obligations.SetConditionByTheRules : Prop :=
  ∀ (s : State) (tag : Byte) (cls : Nat) (rest : List (List Byte)), cls < 256 →
    HandlerTakes s (0x09 :: tag :: be8 cls) rest →
    (3 < cls → exec .setCondition s = .next (s.answeredWith rest (berthReply 0x09 tag 3))) ∧
    ∀ k : ConditionClass, cls = k.val → ∃ t, exec .setCondition s = .next t ∧
      t.profiles = { s.profiles with condition := k } ∧
      (∀ i : Station, t.station i = { s.station i with
        lcc := { (s.station i).lcc with
          effective := match (s.station i).config with
            | some c => some (min c.requested (s.profiles.ceiling.get k))
            | none => (s.station i).lcc.effective } }) ∧
      ReportsFor (fun i => (t.station i).lcc.effective ≠ (s.station i).lcc.effective ∧
        (s.station i).lcc.lineState ≠ .offline) s.link.reports t.link.reports ∧
      (k = s.profiles.condition → s.profilesEffective →
        ∀ i : Station, (t.station i).lcc.effective = (s.station i).lcc.effective) ∧
      t = { s with profiles := t.profiles, stations := t.stations,
                   link := { s.link.answered rest (berthReply 0x09 tag 0) with reports := t.link.reports } }

/-- COMMISSION_LOCK is accepted in every state (R163): with the lock clear the flag is set and each snapshot takes its
field's value; with the lock set nothing changes. -/
def Obligations.CommissionLockTakesSnapshots : Prop :=
  ∀ (s : State) (tag : Byte) (rest : List (List Byte)), HandlerTakes s [0x0A, tag] rest →
    (s.berth.locked = true →
      exec .commissionLock s = .next (s.answeredWith rest (berthReply 0x0A tag 0))) ∧
    (s.berth.locked = false → ∃ t snap, exec .commissionLock s = .next t ∧
      t = { s.answeredWith rest (berthReply 0x0A tag 0) with
        berth := { s.berth with locked := true, thresholdSnapshot := some s.settings.releaseThreshold }
        profiles := { s.profiles with snapshot := some snap } } ∧
      (∀ n : ProfileNo, (snap.limits.get n).overload = (s.profile n).overload ∧
        (snap.limits.get n).doseLimit = (s.profile n).doseLimit) ∧
      snap.ceiling = s.profiles.ceiling)

/-- SET_COUNTER (R201): a flags byte with another bit is BAD_FIELD, a body of another length BAD_LENGTH, a failed check is
OUT_OF_RANGE and changes no counter, and else the numbered counter takes every carried field, the preload as its value
and no edge memory. -/
def Obligations.SetCounterByTheRules : Prop :=
  ∀ (s : State) (tag number enabled kind first last flags : Byte) (threshold preload : Nat) (body : List Byte)
      (rest : List (List Byte)),
    (HandlerTakes s (0x13 :: tag :: body) rest →
      (∀ b, body[7]? = some b → 4 ≤ b.toNat → exec .setCounter s = .next (s.answeredWith rest [0x93, tag, 3])) ∧
      ((∀ b, body[7]? = some b → b.toNat < 4) → body.length ≠ 12 →
        exec .setCounter s = .next (s.answeredWith rest [0x93, tag, 2]))) ∧
    (threshold < 65536 → preload < 2 ^ 32 →
    HandlerTakes s (0x13 :: tag :: ([number, enabled, kind, first, last] ++ be16 threshold ++ [flags] ++ be32 preload))
      rest →
    (flags.toNat < 4 →
      ¬(number.toNat ≤ 3 ∧ enabled.toNat ≤ 1 ∧ kind.toNat ≤ 7 ∧ first.toNat ≤ last.toNat ∧ last.toNat ≤ 11 ∧
        threshold ≤ 10000) →
      exec .setCounter s = .next (s.answeredWith rest (berthReply 0x13 tag 3))) ∧
    (flags.toNat < 4 → number.toNat ≤ 3 → enabled.toNat ≤ 1 → kind.toNat ≤ 7 → first.toNat ≤ last.toNat →
      last.toNat ≤ 11 → threshold ≤ 10000 → ∃ t, exec .setCounter s = .next t ∧
        t = { s.answeredWith rest (berthReply 0x13 tag 0) with counters := t.counters } ∧
        ∀ n : CounterNo, t.counters.get n = if n.val = number.toNat then
          { enabled := decide (enabled = 1)
            kind := [CounterKind.tensionSample, .adjustStart, .slotGrant, .slotYield, .latchPulse, .faultEntry,
              .overloadEvent, .waitTime].getD kind.toNat .tensionSample
            first := first.toNat, last := last.toNat, threshold := threshold, invert := flags.toNat.testBit 0,
            edge := flags.toNat.testBit 1, value := BitVec.ofNat 32 preload, memory := Vector.replicate 12 none }
          else s.counters.get n))

/-- CONFIGURE_BERTH (R159, R160): the first test that refuses gives the result and then nothing is stored: OUT_OF_RANGE
for an item out of its range or a row named twice, WRONG_STATE for another slot count while the arbiter is busy, LOCKED
for a ceiling or threshold above its snapshot under the lock. Otherwise every item is stored in its row and every other
row stands; a ceiling item recomputes the effective profiles, with the STATION reports of the in-service stations whose
profile it changes and no others (R63, R182), a link watch item reloads the watch unless link hold is in force and
clears the first-expiry-seen flag, and nothing else changes (R61, R62, R96, R191). -/
def Obligations.ConfigureBerthByTheRules : Prop :=
  ∀ (s : State) (tag : Byte) (items : List (Nat × Nat)) (rest : List (List Byte)), (∀ x ∈ items, wellSized x) →
    HandlerTakes s (0x06 :: tag :: items.flatMap itemBytes) rest →
    (¬((∀ x ∈ items, rowInRange x.1 x.2) ∧ (items.map Prod.fst).Nodup) →
      exec .configureBerth s = .next (s.answeredWith rest (berthReply 0x06 tag 3))) ∧
    ((∀ x ∈ items, rowInRange x.1 x.2) → (items.map Prod.fst).Nodup →
      ((∃ x ∈ items, x.1 = 11 ∧ x.2 ≠ s.dsa.slots) → ¬(s.dsa.holders = [] ∧ s.dsa.waiting = []) →
        exec .configureBerth s = .next (s.answeredWith rest (berthReply 0x06 tag 1))) ∧
      ((∀ x ∈ items, x.1 = 11 → x.2 = s.dsa.slots) ∨ (s.dsa.holders = [] ∧ s.dsa.waiting = []) →
        (s.berth.locked = true → (∃ x ∈ items, ¬s.rowKeptByLock x.1 x.2) →
          exec .configureBerth s = .next (s.answeredWith rest (berthReply 0x06 tag 4))) ∧
        ((s.berth.locked = true → ∀ x ∈ items, s.rowKeptByLock x.1 x.2) →
          ∃ t, exec .configureBerth s = .next t ∧
          (∀ x ∈ items, berthRow t x.1 = x.2) ∧
          (∀ r ∈ List.range 31, r ∉ items.map Prod.fst → berthRow t r = berthRow s r) ∧
          t = { s with
            berth := { s.berth with config := t.berth.config }
            dsa := { s.dsa with slots := t.dsa.slots }
            profiles := { s.profiles with ceiling := t.profiles.ceiling }
            routing := t.routing
            stations := t.stations
            watch := if 29 ∈ items.map Prod.fst ∨ 30 ∈ items.map Prod.fst then
                { s.watch with firstExpirySeen := false
                               remaining := if s.watch.hold then s.watch.remaining else t.settings.watchTime * 1000 }
              else s.watch
            link := { s.link.answered rest (berthReply 0x06 tag 0) with reports := t.link.reports } } ∧
          (∀ i : Station, t.station i = if 27 ∈ items.map Prod.fst then { s.station i with
              lcc := { (s.station i).lcc with
                effective := match (s.station i).config with
                  | some c => some (min c.requested (t.profiles.ceiling.get s.profiles.condition))
                  | none => (s.station i).lcc.effective } }
            else s.station i) ∧
          ReportsFor (fun i => (t.station i).lcc.effective ≠ (s.station i).lcc.effective ∧
            (s.station i).lcc.lineState ≠ .offline) s.link.reports t.link.reports ∧
          (27 ∉ items.map Prod.fst → t.link.reports = s.link.reports))))

/-! ### The station requests -/

/-- Eight of the nine requests are answered ABSENT at an OFFLINE station, whatever their fields, and change nothing
(R7, R8); a RELEASE with no rewind byte, and with one that is set or clear. -/
def Obligations.OfflineAnswersAbsent : Prop :=
  ∀ (s : State) (i : Station) (tag x y z m : Byte) (rest : List (List Byte)) (n : Nat),
    (s.station i).lcc.lineState = .offline →
    ∀ c ∈ ([(.deploy (n + 1), 0x0B, [x, y, z, m]), (.lock (n + 1), 0x0C, []), (.release (n + 1), 0x0D, []),
        (.release (n + 1), 0x0D, [0]), (.release (n + 1), 0x0D, [1]),
        (.armRelease (n + 1), 0x0E, []), (.rewind (n + 1), 0x0F, []), (.halt (n + 1), 0x10, []),
        (.selectProfile (n + 1), 0x11, [x]), (.clearFault (n + 1), 0x12, [])] : List (Instr × Byte × List Byte)),
      HandlerTakes s (requestFor c.2.1 tag i c.2.2) rest →
        exec c.1 s = .next (s.answeredWith rest (replyFor c.2.1 tag 2))

/-- DEPLOY at an in-service station (R12): the refusals in the order of R7, and the entry of PAYING_OUT with its lock mode,
target and class-3 outward need. At a count already at Cmax the limit test of the entry takes the station to FAULT with
DRUM_LIMIT. -/
def Obligations.DeployByTheRules : Prop :=
  ∀ (s : State) (i : Station) (tag : Byte) (target mode n : Nat) (rest : List (List Byte)), target < 2 ^ 24 →
    mode < 256 → HandlerTakes s (requestFor 0x0B tag i (be24 target ++ be8 mode)) rest →
    (s.station i).lcc.lineState ≠ .offline →
    (¬(s.station i).takesDeploy → exec (.deploy (n + 1)) s = .next (s.answeredWith rest (replyFor 0x0B tag 1))) ∧
    ((s.station i).takesDeploy → ¬(s.station i).deployFits target mode →
      exec (.deploy (n + 1)) s = .next (s.answeredWith rest (replyFor 0x0B tag 3))) ∧
    ((s.station i).takesDeploy → (s.station i).deployFits target mode → (s.station i).latch ≠ .opened →
      exec (.deploy (n + 1)) s = .next (s.answeredWith rest (replyFor 0x0B tag 8))) ∧
    ((s.station i).takesDeploy → (s.station i).deployFits target mode → (s.station i).latch = .opened →
      ∃ t, exec (.deploy (n + 1)) s = .next t ∧ StationServed i s t rest (replyFor 0x0B tag 0) ∧
        ReportEntry.station i ∈ t.link.reports ∧
        ((s.station i).mu.count ≠ (s.station i).cmax →
          StationState.SameButDrive { s.station i with
            lcc := { (s.station i).lcc.between .payingOut .request with
              lockMode := if mode = 0 then .auto else .onRequest
              payoutTarget := some target
              need := some { cls := 3, dir := .outward, speed := s.settings.payoutSpeed }
              armExpiry := none, dose := 0, overloadHeld := false }
            mu := { (s.station i).mu with correction := none } } (t.station i)) ∧
        ((s.station i).mu.count = (s.station i).cmax →
          (t.station i).lcc.lineState = .fault ∧ (t.station i).lcc.lastReason = .fault ∧
          (t.station i).lcc.fault = some ((s.station i).recordOf .drumLimit .payingOut s.berthTime)))

/-- LOCK at an in-service station (R17): WRONG_STATE outside SEATED, and from SEATED the entry of LOCKING with reason
REQUEST, which asks the LPU for a lock sequence. A lost stream is then a fault, and a latch already CLOSED confirms a
first pulse energized at once, so that the station enters TAKING_UP, or at count 0 FAULT with DRUM_LIMIT (R6, R18, R19,
R52, R122). The model's own: the lost stream comes before the confirmation where both hold (log 9), and SENSOR_LOST is also
a further fault of the FAULT it brings, where that is tensioned with the latch CLOSED (R52, R4; log 10). -/
def Obligations.LockByTheRules : Prop :=
  ∀ (s : State) (i : Station) (tag : Byte) (n : Nat) (rest : List (List Byte)),
    HandlerTakes s (requestFor 0x0C tag i []) rest → (s.station i).lcc.lineState ≠ .offline →
    ((s.station i).lcc.lineState ≠ .seated →
      exec (.lock (n + 1)) s = .next (s.answeredWith rest (replyFor 0x0C tag 1))) ∧
    ((s.station i).lcc.lineState = .seated →
      ∃ t, exec (.lock (n + 1)) s = .next t ∧ StationServed i s t rest (replyFor 0x0C tag 0) ∧
        ReportEntry.station i ∈ t.link.reports ∧
        ((s.station i).mu.lost = false →
          ¬((s.station i).latch = .closed ∧ (s.station i).lpu.pulse = none ∧ s.settings.lockDelay = 0) →
          StationState.SameButDrive { s.station i with
            lcc := { (s.station i).lcc.between .locking .request with dose := 0, overloadHeld := false }
            mu := { (s.station i).mu with correction := none }
            lpu := (s.station i).lpu.asked .lock .lock s.settings.retries s.settings.lockDelay s.settings.lockWidth
              s.settings.lockConfirmTimeout } (t.station i)) ∧
        ((s.station i).mu.lost = true →
          (t.station i).lcc.lineState = .fault ∧ (t.station i).lcc.lastReason = .fault ∧
          (t.station i).lcc.fault = some ((s.station i).recordLost .sensorLost .locking s.berthTime)) ∧
        ((s.station i).mu.lost = false → (s.station i).latch = .closed → (s.station i).lpu.pulse = none →
          s.settings.lockDelay = 0 →
          ((s.station i).mu.count ≠ 0 →
            (t.station i).lcc = { (s.station i).lcc.between .takingUp .lockConfirmed with
              takeupStart := some (s.station i).mu.count
              need := some { cls := 1, dir := .inward, speed := s.settings.takeupSpeed }
              dose := 0, overloadHeld := false }) ∧
          ((s.station i).mu.count = 0 →
            (t.station i).lcc = StationState.lccInFault
              { s.station i with lcc := { (s.station i).lcc with dose := 0, overloadHeld := false } }
              .drumLimit .takingUp s.berthTime)))

/-- REWIND at an in-service station (R25, R26): WRONG_STATE outside SEATED and LINE_OUT, and from them REWINDING with
reason REQUEST and a class-2 inward need, creep beginning at once at count 0. With the sensor STOWED asserted the station
arrives at once, and otherwise a lost stream is a fault (R27, R42, R52). The model's own: an arrival at once detects no
lost stream (log 9), and SENSOR_LOST is also a further fault of the FAULT it brings, where that is tensioned with the latch
CLOSED (R52, R4; log 10). -/
def Obligations.RewindByTheRules : Prop :=
  ∀ (s : State) (i : Station) (tag : Byte) (n : Nat) (rest : List (List Byte)),
    HandlerTakes s (requestFor 0x0F tag i []) rest → (s.station i).lcc.lineState ≠ .offline →
    (¬((s.station i).lcc.lineState = .seated ∨ (s.station i).lcc.lineState = .lineOut) →
      exec (.rewind (n + 1)) s = .next (s.answeredWith rest (replyFor 0x0F tag 1))) ∧
    ((s.station i).lcc.lineState = .seated ∨ (s.station i).lcc.lineState = .lineOut →
      ∃ t, exec (.rewind (n + 1)) s = .next t ∧ StationServed i s t rest (replyFor 0x0F tag 0) ∧
        ReportEntry.station i ∈ t.link.reports ∧
        (s.station i).Rewound s.settings s.berthTime .request t i)

/-- HALT at an in-service station (R14): WRONG_STATE outside PAYING_OUT and REWINDING, and from them LINE_OUT with reason
REQUEST, the count and its referenced flag left as they stand. A waiting entry is withdrawn, and a station that holds a
slot is brought to rest by a normal stop as its holder withdraws, by its drive phase (Table 5-4): a running drum goes to
STOPPING; BRAKE_WAIT with the brake open goes to SETTING; DRIVE_WAIT, HELD and BRAKE_WAIT with the brake set end the stop
at once, which frees the slot and grants it to the entry that heads the list; a stop under way goes on (R3, R86, R87, R88,
R93, R94, R106, R108, R109). -/
def Obligations.HaltByTheRules : Prop :=
  ∀ (s : State) (i : Station) (tag : Byte) (n : Nat) (rest : List (List Byte)),
    HandlerTakes s (requestFor 0x10 tag i []) rest → (s.station i).lcc.lineState ≠ .offline →
    (¬((s.station i).lcc.lineState = .payingOut ∨ (s.station i).lcc.lineState = .rewinding) →
      exec (.halt (n + 1)) s = .next (s.answeredWith rest (replyFor 0x10 tag 1))) ∧
    ((s.station i).lcc.lineState = .payingOut ∨ (s.station i).lcc.lineState = .rewinding →
      ∃ t, exec (.halt (n + 1)) s = .next t ∧ StationServed i s t rest (replyFor 0x10 tag 0) ∧
        ReportEntry.station i ∈ t.link.reports ∧
        StationState.SameButDrive { s.station i with
          lcc := ((s.station i).lcc.between .lineOut .request).slack
          mu := { (s.station i).mu with correction := none } } (t.station i) ∧
        ((s.station i).lcc.need.isSome → s.dsa.waits i = true → t.dsa.waits i = false) ∧
        ((s.station i).lcc.need.isSome → s.dsa.waits i = false → (s.station i).dhu.phase = .running →
          (s.station i).dhu.stopRequest = .none →
          (t.station i).dhu = { (s.station i).dhu with
            phase := .stopping, stopRequest := .normal, stall := none, pendingMotion := none
            timer := if (s.station i).dhu.demand = 0 then .running .stop 0 s.settings.stopTimeout else .absent } ∧
          t.dsa = s.dsa.withdrawing i) ∧
        ((s.station i).lcc.need.isSome → s.dsa.waits i = false → (s.station i).dhu.phase = .brakeWait →
          (s.station i).dhu.stopRequest = .none → (s.station i).filters.brakeOpen.level = true →
          (t.station i).dhu = (s.station i).dhu.setsBrake .normal s.settings.brakeSetTimeout ∧
          t.dsa = s.dsa.withdrawing i) ∧
        ((s.station i).lcc.need.isSome → s.dsa.waits i = false → s.dsa.holds i = true →
          (s.station i).dhu.phase ∈ [DrivePhase.driveWait, .held] ∨
            ((s.station i).dhu.phase = .brakeWait ∧ (s.station i).filters.brakeOpen.level = false) →
          (s.station i).dhu.stopRequest = .none →
          (t.station i).dhu = (s.station i).dhu.atRest ∧ SlotFreed i s t) ∧
        ((s.station i).lcc.need.isSome → s.dsa.waits i = false → (s.station i).dhu.phase ≠ .idle →
          (s.station i).dhu.stopRequest ≠ .none ∨ (s.station i).dhu.phase ∈ [DrivePhase.stopping, .setting] →
          (t.station i).dhu = { (s.station i).dhu with
            pendingMotion := none
            stopRequest := if (s.station i).dhu.stopRequest = .none then .normal else (s.station i).dhu.stopRequest } ∧
          t.dsa = s.dsa.withdrawing i))

/-- RELEASE at an in-service station (R23): WRONG_STATE and NOT_ARMED, and otherwise, the arm consumed, a head-open pulse
in STOWED and LINE_OUT, REWINDING or LINE_OUT from SEATED by the rewind flag, and RELEASING from the other states, which
asks the LPU for a release sequence; a latch already OPEN confirms a first pulse energized at once, into LINE_OUT or into
REWINDING with all that its entry brings. An omitted rewind byte sets the flag. The model's own: at the entry of RELEASING
a lost stream is detected before an at-once confirmation, a rewind that arrives at once detects none (log 9), and
SENSOR_LOST is also a further fault of the FAULT it brings, where that is tensioned with the latch CLOSED (R52, R4;
log 10). -/
def Obligations.ReleaseByTheRules : Prop :=
  ∀ (s : State) (i : Station) (tag : Byte) (fields : List Byte) (rewind : Bool) (n : Nat) (rest : List (List Byte)),
    (fields = [] ∧ rewind = true ∨ fields = [if rewind then 1 else 0]) →
    HandlerTakes s (requestFor 0x0D tag i fields) rest → (s.station i).lcc.lineState ≠ .offline →
    (¬(s.station i).takesRelease → exec (.release (n + 1)) s = .next (s.answeredWith rest (replyFor 0x0D tag 1))) ∧
    ((s.station i).takesRelease → s.settings.releaseThreshold ≤ (s.station i).mu.tension →
      (s.station i).lcc.armExpiry = none →
      exec (.release (n + 1)) s = .next (s.answeredWith rest (replyFor 0x0D tag 5))) ∧
    ((s.station i).takesRelease →
      ((s.station i).mu.tension < s.settings.releaseThreshold ∨ (s.station i).lcc.armExpiry ≠ none) →
      ∃ t, exec (.release (n + 1)) s = .next t ∧ StationServed i s t rest (replyFor 0x0D tag 0) ∧
        (t.station i).lcc.armExpiry = none ∧
        ((s.station i).lcc.armExpiry ≠ none → ReportEntry.station i ∈ t.link.reports) ∧
        ((s.station i).lcc.lineState = .stowed ∨ (s.station i).lcc.lineState = .lineOut →
          StationState.SameButDrive { s.station i with
            lcc := { (s.station i).lcc with armExpiry := none }
            lpu := { (s.station i).lpu.asked .headOpen .release 0 s.settings.releaseDelay s.settings.releaseWidth 0 with
              confirmOpen := false, confirmTimer := none } } (t.station i)) ∧
        ((s.station i).lcc.lineState = .seated → rewind = true →
          ({ s.station i with lcc := { (s.station i).lcc with armExpiry := none } } : StationState).Rewound
            s.settings s.berthTime .request t i) ∧
        ((s.station i).lcc.lineState = .seated → rewind = false →
          StationState.SameButDrive { s.station i with
            lcc := ((s.station i).lcc.between .lineOut .request).slack
            mu := { (s.station i).mu with correction := none } } (t.station i)) ∧
        ((s.station i).lcc.lineState ∈ [LineState.locking, .takingUp, .holding, .adjusting, .fault] →
          ((s.station i).mu.lost = false →
            ¬((s.station i).latch = .opened ∧ (s.station i).lpu.pulse = none ∧ s.settings.releaseDelay = 0) →
            StationState.SameButDrive { s.station i with
              lcc := { ((s.station i).lcc.between .releasing .request).slack with rewindFlag := some rewind }
              mu := { (s.station i).mu with correction := none }
              lpu := (s.station i).lpu.asked .release .release s.settings.retries s.settings.releaseDelay
                s.settings.releaseWidth s.settings.releaseConfirmTimeout } (t.station i)) ∧
          ((s.station i).mu.lost = true →
            (t.station i).lcc.lineState = .fault ∧ (t.station i).lcc.lastReason = .fault ∧
            (t.station i).lcc.fault = some ((s.station i).recordLost .sensorLost .releasing s.berthTime)) ∧
          ((s.station i).mu.lost = false → (s.station i).latch = .opened → (s.station i).lpu.pulse = none →
            s.settings.releaseDelay = 0 →
            (rewind = false → (t.station i).lcc = ((s.station i).lcc.between .lineOut .releaseConfirmed).slack) ∧
            (rewind = true → ({ s.station i with lpu := (t.station i).lpu } : StationState).Rewound
              s.settings s.berthTime .releaseConfirmed t i))))

/-- ARM_RELEASE at an in-service station (R33, R128, R130): WRONG_STATE outside its five states, and in them the expiry
becomes the time base plus the arm window modulo 2^32, a new arm making the STATION report pending. An arm whose expiry
the time base has reached ends, its STATION report pending. Nothing else changes. -/
def Obligations.ArmBeginsAndExpires : Prop :=
  ∀ (s : State) (i : Station) (tag : Byte) (n : Nat) (rest : List (List Byte)),
    (HandlerTakes s (requestFor 0x0E tag i []) rest → (s.station i).lcc.lineState ≠ .offline →
    ((s.station i).lcc.lineState ∉ [LineState.takingUp, .holding, .adjusting, .locking, .fault] →
      exec (.armRelease (n + 1)) s = .next (s.answeredWith rest (replyFor 0x0E tag 1))) ∧
    ((s.station i).lcc.lineState ∈ [LineState.takingUp, .holding, .adjusting, .locking, .fault] →
      ∃ t, exec (.armRelease (n + 1)) s = .next t ∧
        t = { s with
          stations := t.stations
          link := { s.link.answered rest (replyFor 0x0E tag 0) with
            reports := if (s.station i).lcc.armExpiry = none then pendReport (.station i) s.link.reports
              else s.link.reports } } ∧
        (∀ j : Station, j ≠ i → t.station j = s.station j) ∧
        t.station i = { s.station i with
          lcc := { (s.station i).lcc with
            armExpiry := some (BitVec.ofNat 32 (s.timeBase.toNat + s.settings.armWindow)) } })) ∧
    ((s.station i).lcc.armExpiry = some s.timeBase →
      exec (.armExpiry i) s = .next ((s.modLcc i fun l => { l with armExpiry := none }).reportStation i))

/-- SELECT_PROFILE at an in-service station (R33, R62, R63): a number outside 0..7 is OUT_OF_RANGE; a number in range is
stored as the requested profile, the effective profile follows by the ceiling, a changed one makes the STATION report
pending, and nothing else changes in any line state. The model's own: a request that leaves the effective profile as it
was makes no report (log 27). -/
def Obligations.SelectProfileByTheRules : Prop :=
  ∀ (s : State) (i : Station) (tag number : Byte) (c : StationConfig) (n : Nat) (rest : List (List Byte)),
    HandlerTakes s (requestFor 0x11 tag i [number]) rest → (s.station i).lcc.lineState ≠ .offline →
    (s.station i).config = some c →
    (7 < number.toNat → exec (.selectProfile (n + 1)) s = .next (s.answeredWith rest (replyFor 0x11 tag 3))) ∧
    ∀ k : ProfileNo, k.val = number.toNat → ∃ t, exec (.selectProfile (n + 1)) s = .next t ∧
      t = { s with
        stations := t.stations
        link := { s.link.answered rest (replyFor 0x11 tag 0) with
          reports := if (s.station i).lcc.effective = some (min k s.ceilingNow) then s.link.reports
            else pendReport (.station i) s.link.reports } } ∧
      (∀ j : Station, j ≠ i → t.station j = s.station j) ∧
      t.station i = { s.station i with
        config := some { c with requested := k }
        lcc := { (s.station i).lcc with effective := some (min k s.ceilingNow) } }

/-- CLEAR_FAULT at an in-service station (R32): WRONG_STATE with nothing to clear, STILL_PRESENT while a present condition
holds (a lost stream by its flag or its age: log 13), and otherwise the record and OVERLOAD_HELD are cleared. Outside
FAULT nothing more changes; from FAULT the station goes to STOWED, HOLDING or LINE_OUT by its filtered sensors, with lock
mode ON_REQUEST. -/
def Obligations.ClearFaultByTheRules : Prop :=
  ∀ (s : State) (i : Station) (tag : Byte) (n : Nat) (rest : List (List Byte)),
    HandlerTakes s (requestFor 0x12 tag i []) rest → (s.station i).lcc.lineState ≠ .offline →
    ((s.station i).lcc.lineState ≠ .fault → (s.station i).lcc.fault = none → (s.station i).lcc.overloadHeld = false →
      exec (.clearFault (n + 1)) s = .next (s.answeredWith rest (replyFor 0x12 tag 1))) ∧
    ((s.station i).lcc.lineState = .fault ∨ (s.station i).lcc.fault ≠ none ∨ (s.station i).lcc.overloadHeld = true →
      (s.conditionPresent i → exec (.clearFault (n + 1)) s = .next (s.answeredWith rest (replyFor 0x12 tag 6))) ∧
      (¬s.conditionPresent i → ∃ t, exec (.clearFault (n + 1)) s = .next t ∧
        StationServed i s t rest (replyFor 0x12 tag 0) ∧
        ((s.station i).lcc.overloadHeld = true → ReportEntry.station i ∈ t.link.reports) ∧
        ((s.station i).lcc.lineState ≠ .fault →
          t.station i = { s.station i with lcc := { (s.station i).lcc with fault := none, overloadHeld := false } } ∧
          t.dsa = s.dsa) ∧
        ((s.station i).lcc.lineState = .fault → ReportEntry.station i ∈ t.link.reports ∧
          ((s.station i).filters.stowed.level = true →
            StationState.SameButDrive { s.station i with
              lcc := { ((s.station i).lcc.between .stowed .faultCleared).slack with
                fault := none, lockMode := .onRequest }
              mu := { (s.station i).mu with count := 0, referenced := true, correction := none } } (t.station i)) ∧
          ((s.station i).filters.stowed.level = false → (s.station i).latch = .closed →
            (s.station i).filters.headSeated.level = true →
            StationState.SameButDrive { s.station i with
              lcc := { (s.station i).lcc.between .holding .faultCleared with
                fault := none, overloadHeld := false, lockMode := .onRequest }
              mu := { (s.station i).mu with correction := none } } (t.station i)) ∧
          ((s.station i).filters.stowed.level = false →
            ¬((s.station i).latch = .closed ∧ (s.station i).filters.headSeated.level = true) →
            StationState.SameButDrive { s.station i with
              lcc := { ((s.station i).lcc.between .lineOut .faultCleared).slack with
                fault := none, lockMode := .onRequest }
              mu := { (s.station i).mu with correction := none } } (t.station i)))))

/-- Adoption (R9): an accepted CONFIGURE_STATION with in-service set brings an OFFLINE station into STOWED, HOLDING or
LINE_OUT by its filtered sensors with reason ADOPTED, its count, its context and its configuration set as R9 says. The
model's own: a window end that still waits to be taken is dropped at the adoption (windowDue, log 11). -/
def Obligations.AdoptionByTheSensors : Prop :=
  ∀ (s : State) (i : Station) (tag : Byte) (c : CarriedConfig) (r k : Bool) (n : Nat) (rest : List (List Byte)),
    c.encodable r k → HandlerTakes s (requestFor 0x07 tag i (c.encode r k)) rest →
    (s.station i).lcc.lineState = .offline → c.inService = true → c.valid →
    (s.berth.locked = true → c.keptByLock (s.station i).config) →
    ∀ p : ProfileNo, p.val = c.requested →
    ((s.station i).filters.stowed.level = true → ∃ t, exec (.configureStation (n + 1)) s = .next t ∧
      StationServed i s t rest (replyFor 0x07 tag 0) ∧ ReportEntry.station i ∈ t.link.reports ∧
      ((s.station i).adopted s c p .stowed 0 true).SameButDrive (t.station i)) ∧
    ((s.station i).filters.stowed.level = false → ∀ e, c.estimate = some e →
      ∃ t, exec (.configureStation (n + 1)) s = .next t ∧
      StationServed i s t rest (replyFor 0x07 tag 0) ∧ ReportEntry.station i ∈ t.link.reports ∧
      ((s.station i).adopted s c p
        (if (s.station i).latch = .closed ∧ (s.station i).filters.headSeated.level = true then .holding else .lineOut)
        e false).SameButDrive (t.station i))

/-- CONFIGURE_STATION is refused at a station by the first of R156's, R155's, R166's and R9's tests that refuses, in that
order, and then changes nothing. Accepted elsewhere than at an adoption: an idle STOWED station with in-service clear
enters OFFLINE with its MU at the values of R36 and its record discarded (R10, R141); every other one stores the
configuration and recomputes the effective profile, and nothing else changes at the station (R8, R34, R154, R156). The
model's own: a configuration that leaves the effective profile as it was makes no report (log 27), what a window end that
still waits leaves of itself, windowDue and zeroThroughout (log 11, log 12), and that a detection still handed to the LCC
is discarded with the service (log 29). -/
def Obligations.ConfigureStationByTheRules : Prop :=
  ∀ (s : State) (i : Station) (tag : Byte) (c : CarriedConfig) (r k : Bool) (n : Nat) (rest : List (List Byte)),
    c.encodable r k → HandlerTakes s (requestFor 0x07 tag i (c.encode r k)) rest →
    (¬(s.station i).takesConfig c →
      exec (.configureStation (n + 1)) s = .next (s.answeredWith rest (replyFor 0x07 tag 1))) ∧
    ((s.station i).takesConfig c → ¬c.valid →
      exec (.configureStation (n + 1)) s = .next (s.answeredWith rest (replyFor 0x07 tag 3))) ∧
    ((s.station i).takesConfig c → c.valid → s.berth.locked = true → ¬c.keptByLock (s.station i).config →
      exec (.configureStation (n + 1)) s = .next (s.answeredWith rest (replyFor 0x07 tag 4))) ∧
    ((s.station i).takesConfig c → c.valid → (s.berth.locked = true → c.keptByLock (s.station i).config) →
      ((s.station i).lcc.lineState = .offline → c.inService = true → (s.station i).filters.stowed.level = false →
        c.estimate = none →
        exec (.configureStation (n + 1)) s = .next (s.answeredWith rest (replyFor 0x07 tag 7))) ∧
      ∀ p : ProfileNo, p.val = c.requested →
      ((s.station i).lcc.lineState = .stowed → c.inService = false → (s.station i).lcc.need = none →
        ∃ t, exec (.configureStation (n + 1)) s = .next t ∧
        StationServed i s t rest (replyFor 0x07 tag 0) ∧ ReportEntry.station i ∈ t.link.reports ∧ t.dsa = s.dsa ∧
        (∀ m : CounterNo, (t.counters.get m).memory.get i = none) ∧
        t.station i = { s.station i with
          lcc := { (s.station i).lcc.between .offline .request with
            armExpiry := none, dose := 0, overloadHeld := false, fault := none, effective := some (min p s.ceilingNow) }
          config := some (c.stores p)
          mu := { (s.station i).mu with
            count := 0, referenced := false, accumulator := 0, speed := 0, windowDue := false, age := 0, lost := false,
            tension := 0, saturated := false, correction := none }
          dhu := { (s.station i).dhu with
            zeroThroughout := if (s.station i).mu.windowDue then decide ((s.station i).dhu.demand = 0)
              else (s.station i).dhu.zeroThroughout }
          lpu := { (s.station i).lpu with conflictTimer := .absent }
          handed := [] }) ∧
      ((s.station i).lcc.lineState ≠ .stowed ∨ c.inService = true →
        ¬((s.station i).lcc.lineState = .offline ∧ c.inService = true) →
        ∃ t, exec (.configureStation (n + 1)) s = .next t ∧
        StationServed i s t rest (replyFor 0x07 tag 0) ∧ t.dsa = s.dsa ∧
        (∀ j : Station, j ≠ i → t.station j = s.station j) ∧
        t.station i = { s.station i with
          lcc := { (s.station i).lcc with effective := some (min p s.ceilingNow) }, config := some (c.stores p) } ∧
        t.link.reports = if (s.station i).lcc.effective ≠ some (min p s.ceilingNow) ∧
            (s.station i).lcc.lineState ≠ .offline then pendReport (.station i) s.link.reports else s.link.reports))

/-- A station request may be worked in one step of the handler or in two, and bytes on LINK_RX may be taken in one run or in
two: nothing is lost or done twice between (R169, R173; the pieces are the model's operands, log 6 and log 8). -/
def Obligations.WorkTakenInPieces : Prop :=
  ∀ (s : State) (a b : List Byte) (m n : Nat),
    (∃ t, exec (.frameReceived a) s = .next t ∧ exec (.frameReceived (a ++ b)) s = exec (.frameReceived b) t) ∧
    ∀ f ∈ [Instr.readStations, Instr.configureStation, Instr.deploy, Instr.lock, Instr.release, Instr.armRelease,
        Instr.rewind, Instr.halt, Instr.selectProfile, Instr.clearFault],
      ∃ t, exec (f m) s = .next t ∧ exec (f (m + n)) s = exec (f n) t

/-! ### The Measurement Unit and regulation -/

/-- A good record at an in-service station, in one run of bytes or completed by this run: its tension and saturated flag are
stored, an OVER_RANGE record counting as 10000, the sample age restarts and a present sample-lost condition ends; nothing
else of its measurement, its configuration or its filters changes, and no other station but by its drive (R47, R48). -/
def Obligations.GoodRecordStored : Prop :=
  ∀ (s : State) (i : Station) (c : StationConfig) (bytes : List Byte) (status high low : Byte),
    (s.station i).lcc.lineState ≠ .offline → (s.station i).config = some c →
    (s.station i).mu.sampleHeld.length < 4 →
    (s.station i).mu.sampleHeld ++ bytes = [status, high, low, status ^^^ high ^^^ low] →
    status.toNat ≤ 1 →
    ∃ t, exec (.sampleRecordReceived i bytes) s = .next t ∧ KeptBeside i s t ∧ LinkKept s t ∧
      (t.station i).mu = { (s.station i).mu with
        tension := c.tensionOfRecord status high low
        saturated := c.recordSaturates status high low
        age := 0, ageTimeout := s.settings.sampleTimeout, lost := false, sampleHeld := (t.station i).mu.sampleHeld
        correction := (t.station i).mu.correction, releaseMeasure := (t.station i).mu.releaseMeasure } ∧
      (t.station i).config = (s.station i).config ∧ (t.station i).filters = (s.station i).filters ∧
      (c.recordSaturates status high low ≠ (s.station i).mu.saturated ∨ (s.station i).sampleLostAlarm = true →
        ReportEntry.station i ∈ t.link.reports)

/-- A record the MU does not take changes nothing but the bytes it holds: a CONVERTER_FAULT, another status byte, a wrong
check byte, and every record at an OFFLINE station (R36, R49). Bytes behind the fourth before the next gap are discarded,
in the same run or in a later one, and a gap discards the bytes held, of a record cut short or of a whole one (R46). The
model's own: the command carries a run of bytes, they are framed at an OFFLINE station too, and a record stays held until
the gap (log 7). -/
def Obligations.OtherRecordsDiscarded : Prop :=
  ∀ (s : State) (i : Station) (bytes more : List Byte) (status high low check : Byte),
    ((s.station i).mu.sampleHeld.length < 4 → (s.station i).mu.sampleHeld ++ bytes = [status, high, low, check] →
      2 ≤ status.toNat ∨ check ≠ status ^^^ high ^^^ low ∨ (s.station i).lcc.lineState = .offline →
      exec (.sampleRecordReceived i bytes) s =
        .next (s.modMu i fun m => { m with sampleHeld := [status, high, low, check] })) ∧
    ((s.station i).mu.sampleHeld.length + bytes.length = 4 →
      exec (.sampleRecordReceived i (bytes ++ more)) s = exec (.sampleRecordReceived i bytes) s) ∧
    ((s.station i).mu.sampleHeld.length = 4 → exec (.sampleRecordReceived i more) s = .next s) ∧
    exec (.sampleRecordGap i) s = .next (s.modMu i fun m => { m with sampleHeld := [] })

/-- A good record at an in-service station is one sample event at every Duty Counter (R50, R196, R197, R198, R200): in every
line state an enabled TENSION_SAMPLE counter whose range holds the station counts it by its threshold, invert and edge
flags, stores the condition as its edge memory, reports a wrap, and takes nothing of what the LCC does at the sample. A
counter that does not test it stands, but for one of another kind in a state whose LCC may bring about an occurrence. -/
def Obligations.SampleCounted : Prop :=
  ∀ (s : State) (i : Station) (c : StationConfig) (status high low : Byte) (n : CounterNo),
    (s.station i).lcc.lineState ≠ .offline →
    (s.station i).config = some c → (s.station i).mu.sampleHeld = [] → status.toNat ≤ 1 →
    ∃ t, exec (.sampleRecordReceived i [status, high, low, status ^^^ high ^^^ low]) s = .next t ∧
      ((s.counters.get n).tests i → t.counters.get n = { s.counters.get n with
        value := (s.counters.get n).value +
          (if (s.counters.get n).counts i (c.tensionOfRecord status high low) then 1 else 0)
        memory := (s.counters.get n).memory.set i.val
          (some ((s.counters.get n).holdsFor (c.tensionOfRecord status high low))) i.isLt }) ∧
      (¬(s.counters.get n).tests i →
        (s.station i).lcc.lineState ∈ [LineState.stowed, .payingOut, .seated, .locking, .releasing, .lineOut] ∨
          (s.counters.get n).enabled = false ∨ (s.counters.get n).kind = .tensionSample →
        t.counters.get n = s.counters.get n) ∧
      ((s.counters.get n).tests i → (s.counters.get n).counts i (c.tensionOfRecord status high low) = true →
        (s.counters.get n).value = BitVec.allOnes 32 → ReportEntry.counter n ∈ t.link.reports)

/-- The overload dose at a good sample of a tensioned station, whatever its latch reads (R4, R31, R73, R74, R75): it grows by
the excess or leaks; at the limit in use it is 0 again, and the line is released, where auto-release is permitted and the
latch is not OPEN, or OVERLOAD_HELD latched. A station that the limit test of a re-tension takes on to a FAULT with its
latch not CLOSED is tensioned no more and holds neither (R4, R6). -/
def Obligations.DoseAtSample : Prop :=
  ∀ (s : State) (i : Station) (c : StationConfig) (e : ProfileNo) (status high low : Byte),
    (s.station i).lcc.lineState ∈ [LineState.takingUp, .holding, .adjusting] ∨
      ((s.station i).lcc.lineState = .fault ∧ (s.station i).latch = .closed) →
    (s.station i).config = some c → (s.station i).lcc.effective = some e → (s.station i).mu.sampleHeld = [] →
    status.toNat ≤ 1 →
    ∃ t, exec (.sampleRecordReceived i [status, high, low, status ^^^ high ^^^ low]) s = .next t ∧
      (s.doseGrown i e (c.tensionOfRecord status high low) < s.doseLimitFor i e →
        (¬((t.station i).lcc.lineState = .fault ∧ (s.station i).latch ≠ .closed) →
          (t.station i).lcc.dose = s.doseGrown i e (c.tensionOfRecord status high low) ∧
          (t.station i).lcc.overloadHeld = (s.station i).lcc.overloadHeld) ∧
        ((t.station i).lcc.lineState = .fault → (s.station i).latch ≠ .closed →
          (t.station i).lcc.dose = 0 ∧ (t.station i).lcc.overloadHeld = false)) ∧
      (s.doseLimitFor i e ≤ s.doseGrown i e (c.tensionOfRecord status high low) → (t.station i).lcc.dose = 0 ∧
        (c.autoRelease = true → (s.station i).latch ≠ .opened →
          (t.station i).lcc = { ((s.station i).lcc.between .releasing .overloadRelease).slack with
            rewindFlag := some true } ∧
          (t.station i).lpu = (s.station i).lpu.asked .release .release s.settings.retries s.settings.releaseDelay
            s.settings.releaseWidth s.settings.releaseConfirmTimeout ∧
          ReportEntry.station i ∈ t.link.reports) ∧
        (c.autoRelease = false ∨ (s.station i).latch = .opened →
          (t.station i).lcc.overloadHeld =
            decide (¬((t.station i).lcc.lineState = .fault ∧ (s.station i).latch ≠ .closed)) ∧
          ((s.station i).lcc.overloadHeld = false → ReportEntry.station i ∈ t.link.reports)))

/-- The decisions of a sample in HOLDING, by the tension and the current profile, as in Table 3-4 (R59, R67, R68, R69).
The sample raises no overload event, or one that only latches OVERLOAD_HELD and leaves the station in its state (R66,
R75). A re-tension decided with the count at the limit in its direction goes on to FAULT with DRUM_LIMIT, from ADJUSTING
(R6, R21). -/
def Obligations.HoldingDecisions : Prop :=
  ∀ (s : State) (i : Station) (c : StationConfig) (e : ProfileNo) (status high low : Byte) (x : Nat),
    (s.station i).lcc.lineState = .holding → (s.station i).config = some c → (s.station i).lcc.effective = some e →
    (s.station i).mu.sampleHeld = [] → status.toNat ≤ 1 → x = c.tensionOfRecord status high low →
    s.staysLocked i c e x →
    ∃ t, exec (.sampleRecordReceived i [status, high, low, status ^^^ high ^^^ low]) s = .next t ∧
      ((s.profile e).high < x →
        (s.station i).Adjusted .bandHigh .outward 0 e (s.profile e) (s.lccDosed i e x) x s.berthTime (t.station i)) ∧
      (x < (s.profile e).low → ¬(s.profile e).high < x →
        (s.station i).Adjusted .bandLow .inward 1 e (s.profile e) (s.lccDosed i e x) x s.berthTime (t.station i)) ∧
      ((s.profile e).low ≤ x → x ≤ (s.profile e).high →
        ((s.station i).lcc.current = some e →
          (t.station i).lcc = s.lccDosed i e x) ∧
        ((s.station i).lcc.current ≠ some e →
          ((s.profile e).windowLow ≤ x → x ≤ (s.profile e).windowHigh →
            (t.station i).lcc = { s.lccDosed i e x with current := some e } ∧
            ReportEntry.station i ∈ t.link.reports) ∧
          ((s.profile e).windowHigh < x →
            (s.station i).Adjusted .profileChange .outward 1 e (s.profile e) (s.lccDosed i e x) x s.berthTime
              (t.station i)) ∧
          (x < (s.profile e).windowLow → ¬(s.profile e).windowHigh < x →
            (s.station i).Adjusted .profileChange .inward 1 e (s.profile e) (s.lccDosed i e x) x s.berthTime
              (t.station i))))

/-- The tests of a sample in ADJUSTING that raises no overload event, or one that only latches OVERLOAD_HELD (R66, R70, R71,
R72, R75): completion into HOLDING with reason
SETTLED, the run continued toward the effective profile at its adjust speed, or a reversal with reason PROFILE_CHANGE,
which with the count at the limit in its new direction goes on to FAULT with DRUM_LIMIT (R6, R21). -/
def Obligations.AdjustingTests : Prop :=
  ∀ (s : State) (i : Station) (c : StationConfig) (e : ProfileNo) (dir : Dir) (need : Need)
      (status high low : Byte) (x : Nat),
    (s.station i).lcc.lineState = .adjusting → (s.station i).lcc.adjustDir = some dir →
    (s.station i).lcc.need = some need → (s.station i).config = some c → (s.station i).lcc.effective = some e →
    (s.station i).mu.sampleHeld = [] → status.toNat ≤ 1 → x = c.tensionOfRecord status high low →
    s.staysLocked i c e x →
    ∃ t, exec (.sampleRecordReceived i [status, high, low, status ^^^ high ^^^ low]) s = .next t ∧
      ((dir = .outward ∧ (s.profile e).windowHigh < x) ∨ (dir = .inward ∧ x < (s.profile e).windowLow) →
        (t.station i).lcc = { s.lccDosed i e x with
          aimProfile := some e
          need := some { need with speed := (s.profile e).adjustSpeed } } ∧
        t.dsa = s.dsa) ∧
      ((dir = .outward ∧ x ≤ (s.profile e).windowHigh) ∨ (dir = .inward ∧ (s.profile e).windowLow ≤ x) →
        ((s.station i).lcc.aimProfile = some e ∨
            ((s.profile e).windowLow ≤ x ∧ x ≤ (s.profile e).windowHigh) →
          (t.station i).lcc = { (s.lccDosed i e x).between .holding .settled with current := some e } ∧
          ReportEntry.station i ∈ t.link.reports) ∧
        ((s.station i).lcc.aimProfile ≠ some e → dir = .outward → x < (s.profile e).windowLow →
          (s.station i).Adjusted .profileChange .inward 1 e (s.profile e) (s.lccDosed i e x) x s.berthTime
            (t.station i)) ∧
        ((s.station i).lcc.aimProfile ≠ some e → dir = .inward → (s.profile e).windowHigh < x →
          (s.station i).Adjusted .profileChange .outward (if (s.profile e).high < x then 0 else 1) e (s.profile e)
            (s.lccDosed i e x) x s.berthTime (t.station i)))

/-- Take-up completion at a sample that raises no overload event, or one that only latches OVERLOAD_HELD (R19, R66,
R75), and the snag test of REWINDING (R27, R162). -/
def Obligations.TakeupAndSnagTests : Prop :=
  ∀ (s : State) (i : Station) (c : StationConfig) (e : ProfileNo) (status high low : Byte) (x : Nat),
    (s.station i).config = some c → (s.station i).lcc.effective = some e → (s.station i).mu.sampleHeld = [] →
    status.toNat ≤ 1 → x = c.tensionOfRecord status high low →
    ∃ t, exec (.sampleRecordReceived i [status, high, low, status ^^^ high ^^^ low]) s = .next t ∧
      ((s.station i).lcc.lineState = .takingUp → s.staysLocked i c e x →
        ((s.profile e).windowLow ≤ x →
          (t.station i).lcc = { (s.lccDosed i e x).between .holding .takeupDone with current := some e } ∧
          ReportEntry.station i ∈ t.link.reports) ∧
        (x < (s.profile e).windowLow →
          (t.station i).lcc = s.lccDosed i e x)) ∧
      ((s.station i).lcc.lineState = .rewinding →
        (s.settings.rewindTensionLimit < x → (t.station i).lcc.lineState = .fault ∧
          (t.station i).lcc.lastReason = .fault ∧
          (t.station i).lcc.fault = some (StationState.recordOf
            { s.station i with mu := { (s.station i).mu with tension := x } } .lineSnag .rewinding s.berthTime)) ∧
        (x ≤ s.settings.rewindTensionLimit → (t.station i).lcc = (s.station i).lcc))

/-- A sample timeout that is due begins the sample-lost condition (R51, R52): a station where a lost stream is a fault
enters FAULT with SENSOR_LOST, or takes a further fault if it is in FAULT; at every other in-service station the context
stands and the STATION report is pending. The model's own: SENSOR_LOST is also a further fault of the FAULT it brings,
where that is tensioned with the latch CLOSED (R52, R4; log 10), and an age that had reached its timeout when another
detection took the station to FAULT is a further fault there (R137; log 29). -/
def Obligations.SampleTimeoutActs : Prop :=
  ∀ (s : State) (i : Station), (s.station i).lcc.lineState ≠ .offline → (s.station i).mu.lost = false →
    (s.station i).mu.ageTimeout ≤ (s.station i).mu.age →
    ∃ t, exec (.sampleTimeout i) s = .next t ∧ StationMoved i s t ∧ (t.station i).mu.lost = true ∧
      (t.station i).mu.tension = (s.station i).mu.tension ∧ (t.station i).mu.count = (s.station i).mu.count ∧
      ((s.station i).lcc.lineState ∈
          [LineState.takingUp, .holding, .adjusting, .locking, .releasing, .rewinding] →
        (t.station i).lcc =
          (s.station i).lccLost .sensorLost (s.station i).lcc.lineState s.berthTime) ∧
      ((s.station i).lcc.lineState = .fault → (s.station i).latch = .closed ∨ .sensorLost ∈ (s.station i).handed →
        (t.station i).lcc = { (s.station i).lcc with
          fault := (s.station i).lcc.fault.map fun r => { r with further := r.further ||| (1 <<< 8) } }) ∧
      ((s.station i).lcc.lineState ∈ [LineState.stowed, .payingOut, .seated, .lineOut] ∨
          ((s.station i).lcc.lineState = .fault ∧ (s.station i).latch ≠ .closed ∧ .sensorLost ∉ (s.station i).handed) →
        (t.station i).lcc = (s.station i).lcc ∧ t.dsa = s.dsa)

/-- A change of the encoder levels (R11, R36, R37, R38): the quarter position follows the levels; at an in-service station a
step from Q3 to Q0 is an outward cycle and one from Q0 to Q3 an inward cycle, counted in the window accumulator and,
within the clamp and outside STOWED, in the drum count. Any other change makes no cycle. -/
def Obligations.EncoderEdgeCounts : Prop :=
  ∀ (s : State) (i : Station) (a b : Bool),
    ∃ t, exec (.encoderEdge i a b) s = .next t ∧ KeptBeside i s t ∧ LinkKept s t ∧
      (t.station i).mu.quarter = (if a then (if b then .q2 else .q1) else (if b then .q3 else .q0)) ∧
      ((s.station i).lcc.lineState ≠ .offline → (s.station i).mu.quarter = .q3 → a = false → b = false →
        (t.station i).mu.accumulator = (s.station i).mu.accumulator + 1 ∧
        (t.station i).mu.count =
          (if (s.station i).lcc.lineState = .stowed ∨ (s.station i).cmax ≤ (s.station i).mu.count then
            (s.station i).mu.count else (s.station i).mu.count + 1) ∧
        (t.station i).mu.referenced =
          (if (s.station i).lcc.lineState = .stowed then false else (s.station i).mu.referenced) ∧
        ((s.station i).lcc.lineState = .stowed → (s.station i).mu.referenced = true →
          ReportEntry.station i ∈ t.link.reports)) ∧
      ((s.station i).lcc.lineState ≠ .offline → (s.station i).mu.quarter = .q0 → a = false → b = true →
        (t.station i).mu.accumulator = (s.station i).mu.accumulator - 1 ∧
        (t.station i).mu.count = (s.station i).mu.count - 1 ∧
        (t.station i).mu.referenced = (s.station i).mu.referenced) ∧
      ((s.station i).lcc.lineState = .offline ∨
          ¬((s.station i).mu.quarter = .q3 ∧ a = false ∧ b = false ∨
            (s.station i).mu.quarter = .q0 ∧ a = false ∧ b = true) →
        t = s.modMu i fun m => { m with quarter := (t.station i).mu.quarter })

/-- What a cycle brings about at the limits (R6, R13, R19, R21, R27): the limit of the drum, in ADJUSTING in either direction
and in PAYING_OUT and TAKING_UP before any other condition, the payout target, the take-up limit, the beginning of creep
and the creep limit. (The limit test at an entry stands with the entries: DeployByTheRules, LockByTheRules,
LatchPositionMoves, HoldingDecisions, AdjustingTests.) -/
def Obligations.CountReachesLimits : Prop :=
  ∀ (s : State) (i : Station) (target start creep limit : Nat) (need : Need) (c : StationConfig),
    (s.station i).config = some c → (s.station i).mu.lost = false →
    ((s.station i).mu.quarter = .q3 → (s.station i).mu.count < c.cmax →
      ∃ t, exec (.encoderEdge i false false) s = .next t ∧
      ((s.station i).lcc.lineState = .payingOut →
        ((s.station i).mu.count + 1 = c.cmax →
          (t.station i).lcc = StationState.lccInFault
            { s.station i with mu := { (s.station i).mu with count := (s.station i).mu.count + 1 } }
            .drumLimit .payingOut s.berthTime) ∧
        ((s.station i).mu.count + 1 < c.cmax → (s.station i).lcc.payoutTarget = some target →
          target ≤ lengthOf c.countsPerRev c.layers ((s.station i).mu.count + 1) →
          (t.station i).lcc = ((s.station i).lcc.between .lineOut .targetReached).slack) ∧
        ((s.station i).mu.count + 1 < c.cmax → (s.station i).lcc.payoutTarget = some target →
          lengthOf c.countsPerRev c.layers ((s.station i).mu.count + 1) < target →
          (t.station i).lcc = (s.station i).lcc)) ∧
      ((s.station i).lcc.lineState = .adjusting → (s.station i).lcc.adjustDir = some .outward →
        ((s.station i).mu.count + 1 = c.cmax →
          (t.station i).lcc = StationState.lccInFault
            { s.station i with mu := { (s.station i).mu with count := (s.station i).mu.count + 1 } }
            .drumLimit .adjusting s.berthTime) ∧
        ((s.station i).mu.count + 1 < c.cmax → (t.station i).lcc = (s.station i).lcc))) ∧
    ((s.station i).mu.quarter = .q0 → (s.station i).lcc.lineState = .adjusting →
      (s.station i).lcc.adjustDir = some .inward → 1 ≤ (s.station i).mu.count →
      ∃ t, exec (.encoderEdge i false true) s = .next t ∧
        ((s.station i).mu.count = 1 → (t.station i).lcc = StationState.lccInFault
          { s.station i with mu := { (s.station i).mu with count := 0 } } .drumLimit .adjusting s.berthTime) ∧
        (2 ≤ (s.station i).mu.count → (t.station i).lcc = (s.station i).lcc)) ∧
    ((s.station i).mu.quarter = .q0 → (s.station i).lcc.lineState = .takingUp →
      (s.station i).lcc.takeupStart = some start → 1 ≤ (s.station i).mu.count →
      ∃ t, exec (.encoderEdge i false true) s = .next t ∧
        ((s.station i).mu.count = 1 → (t.station i).lcc.lineState = .fault ∧
          (t.station i).lcc.fault = some (StationState.recordOf
            { s.station i with mu := { (s.station i).mu with count := 0 } } .drumLimit .takingUp s.berthTime)) ∧
        (2 ≤ (s.station i).mu.count →
          lengthOf c.countsPerRev c.layers ((s.station i).mu.count - 1) + c.takeupLimit <
            lengthOf c.countsPerRev c.layers start →
          (t.station i).lcc.lineState = .fault ∧
          (t.station i).lcc.fault = some (StationState.recordOf
            { s.station i with mu := { (s.station i).mu with count := (s.station i).mu.count - 1 } }
            .takeupLimit .takingUp s.berthTime))) ∧
    ((s.station i).mu.quarter = .q0 → (s.station i).lcc.lineState = .rewinding → (s.station i).lcc.need = some need →
      ∃ t, exec (.encoderEdge i false true) s = .next t ∧
        ((s.station i).mu.count = 1 → (s.station i).lcc.creepCount = none →
          (t.station i).lcc = { (s.station i).lcc with
            creepCount := some 0, creepLimit := some s.settings.creepLimit
            need := some { need with speed := s.settings.creepSpeed } } ∧ t.dsa = s.dsa) ∧
        ((s.station i).mu.count = 0 → (s.station i).lcc.creepCount = some creep →
          (s.station i).lcc.creepLimit = some limit →
          (creep + 1 ≤ limit → (t.station i).lcc = { (s.station i).lcc with creepCount := some (creep + 1) }) ∧
          (limit < creep + 1 → (t.station i).lcc.lineState = .fault ∧
            (t.station i).lcc.fault = some ((s.station i).recordOf .stowNotFound .rewinding s.berthTime))))

/-- A window end at an in-service station (R54, R104, R105, R107): the speed is the accumulator clamped and the
accumulator starts again. In RUNNING the demand moves toward the target by at most the slew step and a moving drum
restarts the stall timer; in STOPPING the demand falls, or a drum at rest for a whole window goes to SETTING, where a
brake already set completes the stop at once, the slot going on by R88; in other phases the drive stands. That a window
end waits at each station until it is taken (windowDue), and the flag zeroThroughout for a demand 0 throughout a window,
set at each window end by the demand it leaves, are the model's (log 11, log 12). -/
def Obligations.WindowEndActs : Prop :=
  ∀ (s : State) (i : Station) (target : Target) (v : Int), (s.station i).lcc.lineState ≠ .offline →
    (s.station i).mu.windowDue = true →
    v = max (-32767) (min 32767 (s.station i).mu.accumulator) →
    ∃ t, exec (.speedWindowEnd i) s = .next t ∧ KeptBeside i s t ∧ LinkKept s t ∧
      (t.station i).lcc = (s.station i).lcc ∧ (t.station i).mu.speed = v ∧ (t.station i).mu.accumulator = 0 ∧
      (t.station i).mu.windowDue = false ∧ (t.station i).mu.count = (s.station i).mu.count ∧
      (((s.station i).dhu.phase = .idle → s.dsa.holds i = false) →
        (t.station i).dhu.zeroThroughout = decide ((t.station i).dhu.demand = 0)) ∧
      ((s.station i).dhu.phase = .running → (s.station i).dhu.target = some target →
        (t.station i).dhu = { (s.station i).dhu with
          demand := if (s.station i).dhu.demand < target.speed then
              min target.speed ((s.station i).dhu.demand + s.settings.slewStep)
            else max target.speed ((s.station i).dhu.demand - s.settings.slewStep)
          stall := if v = 0 then (s.station i).dhu.stall else some { elapsed := 0, limit := s.settings.stallTime }
          zeroThroughout := (t.station i).dhu.zeroThroughout } ∧ t.dsa = s.dsa) ∧
      ((s.station i).dhu.phase = .stopping → (s.station i).dhu.demand ≠ 0 →
        (t.station i).dhu = { (s.station i).dhu with
          demand := (s.station i).dhu.demand - s.settings.slewStep
          timer := if (s.station i).dhu.demand ≤ s.settings.slewStep then .running .stop 0 s.settings.stopTimeout
            else (s.station i).dhu.timer
          zeroThroughout := (t.station i).dhu.zeroThroughout } ∧ t.dsa = s.dsa) ∧
      ((s.station i).dhu.phase = .stopping → (s.station i).dhu.demand = 0 →
        v ≠ 0 ∨ (s.station i).dhu.zeroThroughout = false →
        (t.station i).dhu = { (s.station i).dhu with zeroThroughout := (t.station i).dhu.zeroThroughout } ∧
        t.dsa = s.dsa) ∧
      ((s.station i).dhu.phase = .stopping → (s.station i).dhu.demand = 0 → v = 0 →
        (s.station i).dhu.zeroThroughout = true → (s.station i).filters.brakeOpen.level = true →
        (t.station i).dhu = { (s.station i).dhu with
          phase := .setting, stall := none, timer := .running .brakeSet 0 s.settings.brakeSetTimeout
          zeroThroughout := (t.station i).dhu.zeroThroughout } ∧ t.dsa = s.dsa) ∧
      ((s.station i).dhu.phase = .stopping → (s.station i).dhu.demand = 0 → v = 0 →
        (s.station i).dhu.zeroThroughout = true → (s.station i).filters.brakeOpen.level = false →
        (s.station i).dhu.stopRequest ≠ .none → s.dsa.holds i = true →
        ((s.station i).lcc.need = none → (t.station i).dhu = (s.station i).dhu.atRest ∧ t.dsa.holds i = false ∧
          SlotFreed i s t) ∧
        (∀ need, (s.station i).lcc.need = some need → SlotRejoined (s.station i).dhu need i s t)) ∧
      ((s.station i).dhu.phase ∈ [DrivePhase.driveWait, .brakeWait, .setting, .held] ∨
          ((s.station i).dhu.phase = .idle ∧ s.dsa.holds i = false) →
        (t.station i).dhu = { (s.station i).dhu with zeroThroughout := (t.station i).dhu.zeroThroughout } ∧
        t.dsa = s.dsa)

/-! ### The drive and its slots -/

/-- Each timeout of the drive, and of a latch conflict, that is due is a detection (R102, R103, R105, R107, R108, R111,
R131): the station enters FAULT with its kind, or takes it as a further fault if it is in FAULT, its STATION report
pending. The entry, by one of these, by exhausted attempts or by a lost stream, asks the drive for a hard stop (R94,
R108, R110): from DRIVE_WAIT, BRAKE_WAIT, RUNNING, STOPPING or HELD the demand and the brake are cut, its holder hard,
in SETTING while the brake is open, or ended at once with it set, which frees the slot; a SETTING under way goes on with
its timer, and one whose brake-set timer ends goes to IDLE. Two detections due together leave FAULT with both kinds, with
no record before them the first taken the first kind (R137); that the second one outlasts the discarding of its timer by
the first one's hard stop is the model's way (handed, log 29). -/
def Obligations.TimeoutsDetectFaults : Prop :=
  ∀ (s : State) (i : Station) (elapsed limit : Nat), limit ≤ elapsed → (s.station i).lcc.lineState ≠ .offline →
    (∀ d ∈ (timedDetections i).take 6,
      (s.station i).mu.lost = false → (s.station i).timesOut d.2 elapsed limit →
      ∃ t, exec d.1 s = .next t ∧ StationMoved i s t ∧
        ((s.station i).lcc.lineState ≠ .fault →
          (t.station i).lcc = (s.station i).lccInFault d.2 (s.station i).lcc.lineState s.berthTime) ∧
        ((s.station i).lcc.lineState = .fault →
          (t.station i).lcc = { (s.station i).lcc with
            fault := (s.station i).lcc.fault.map fun r => { r with further := r.further ||| (1 <<< d.2.code) } }) ∧
        (d.2 = .latchSensor → (t.station i).lpu.conflictTimer = .expired)) ∧
    (∀ d ∈ timedDetections i, d.2 ≠ .brakeNotSet →
      (s.station i).timesOut d.2 elapsed limit → (s.station i).lcc.lineState ≠ .fault → s.dsa.waits i = false →
      (s.station i).dhu.stopRequest ≠ .fault →
      ∃ t, exec d.1 s = .next t ∧
        ((s.station i).dhu.phase ∈ [DrivePhase.driveWait, .brakeWait, .running, .stopping, .held] →
          ((s.station i).filters.brakeOpen.level = true →
            (t.station i).dhu = (s.station i).dhu.setsBrake .fault s.settings.brakeSetTimeout ∧
            t.dsa = s.dsa.stopping i .hard) ∧
          ((s.station i).filters.brakeOpen.level = false → s.dsa.holds i = true →
            (t.station i).dhu = (s.station i).dhu.atRest ∧ SlotFreed i s t)) ∧
        ((s.station i).dhu.phase = .setting → (s.station i).dhu.timer ≠ .expired →
          (t.station i).dhu = { (s.station i).dhu with stopRequest := .fault, pendingMotion := none } ∧
          t.dsa = s.dsa.stopping i .hard)) ∧
    ((s.station i).timesOut .brakeNotSet elapsed limit → s.dsa.waits i = false → s.dsa.holds i = true →
      (s.station i).lcc.lineState ≠ .fault ∨ (s.station i).lcc.need = none →
      ∃ t, exec (.brakeSetTimeout i) s = .next t ∧ (t.station i).dhu = (s.station i).dhu.atRest ∧ SlotFreed i s t ∧
        t.driveEnable i = false ∧ t.brakeRelease i = false ∧ t.demandOut i = 0) ∧
    (∀ d ∈ timedDetections i, ∀ e ∈ timedDetections i, ∀ elapsed' limit' : Nat, limit' ≤ elapsed' → d.2 ≠ e.2 →
      (s.station i).timesOut d.2 elapsed limit → (s.station i).timesOut e.2 elapsed' limit' →
      (s.station i).lcc.lineState ≠ .fault → (s.station i).handed = [] →
      ∃ t u record, exec d.1 s = .next t ∧ exec e.1 t = .next u ∧ (u.station i).lcc.lineState = .fault ∧
        (u.station i).lcc.fault = some record ∧ record.further.getLsbD e.2.code = true ∧
        ((s.station i).lcc.fault = none → record.first = d.2) ∧
        ((s.station i).lcc.fault ≠ none → record.further.getLsbD d.2.code = true))

/-- A slice that runs out (R90): with no waiting entry of its class or a more urgent one the holder's timer restarts at the
slice time in force; with one the holder yields: SLOT_YIELD is counted and its DHU makes a normal stop from whatever phase
it is in (R93, Table 5-4). A stop that completes at once, in DRIVE_WAIT, in HELD, or in BRAKE_WAIT with the brake set, frees
the slot in the same step, and the yielder rejoins (R88). -/
def Obligations.SliceExpiryActs : Prop :=
  ∀ (s : State) (i : Station) (h : Holder), s.dsa.holders.find? (fun k => decide (k.station = i)) = some h →
    h.slice = .running 0 →
    ((∀ e ∈ s.dsa.waiting, h.cls < e.cls) →
      exec (.sliceExpiry i) s = .next { s with dsa := { s.dsa with
        holders := s.dsa.holders.map fun k =>
          if k.station = i then { k with slice := .running s.settings.sliceTime } else k } }) ∧
    ((∃ e ∈ s.dsa.waiting, e.cls ≤ h.cls) → (s.station i).dhu.stopRequest = .none → (s.station i).dhu.phase ≠ .idle →
      ∃ t, exec (.sliceExpiry i) s = .next t ∧
        (¬(s.station i).stopsAtOnce →
          t = { s with
            stations := t.stations
            dsa := { s.dsa with holders := s.dsa.holders.map fun k =>
              if k.station = i then { k with stopKind := .yielding, slice := .absent } else k }
            counters := (s.occurrence .slotYield i).counters
            link := (s.occurrence .slotYield i).link } ∧
          (∀ j : Station, j ≠ i → t.station j = s.station j) ∧
          t.station i = (s.station i).stopAsked s.settings) ∧
        ((s.station i).stopsAtOnce → DriveOnly s t ∧
          ((s.station i).lcc.need = none → SlotFreed i s t ∧ (t.station i).dhu = (s.station i).dhu.atRest) ∧
          (∀ need, (s.station i).lcc.need = some need →
            SlotRejoined (s.station i).dhu need i (s.occurrence .slotYield i) t)))

/-- A station entering REWINDING with its drive IDLE joins the waiting list at the tail of class 2 (R84, R85, R87,
R101). With a slot free and nobody waiting it is granted at once, its drive in HELD under zone hold and in DRIVE_WAIT
otherwise; with every slot taken its entry stands behind classes 0 to 2 and before class 3. -/
def Obligations.NeedWaitsOrIsGranted : Prop :=
  ∀ (s : State) (i : Station) (tag : Byte) (n : Nat) (rest : List (List Byte)),
    HandlerTakes s (requestFor 0x0F tag i []) rest →
    ((s.station i).lcc.lineState = .seated ∨ (s.station i).lcc.lineState = .lineOut) →
    (s.station i).lcc.need = none → (s.station i).mu.lost = false → (s.station i).filters.stowed.level = false →
    (s.station i).mu.count ≠ 0 → (s.station i).dhu.phase = .idle →
    ∃ t, exec (.rewind (n + 1)) s = .next t ∧
      (s.dsa.waiting = [] → s.dsa.holders.length < s.dsa.slots →
        (s.zoneHold = true →
          (t.station i).dhu = { (s.station i).dhu with
            phase := .held, target := some { dir := .inward, speed := s.settings.rewindSpeed }
            demandDir := .inward, demand := 0, stopRequest := .none }) ∧
        (s.zoneHold = false → (s.station i).filters.driveReady.level = false →
          (t.station i).dhu = { (s.station i).dhu with
            phase := .driveWait, target := some { dir := .inward, speed := s.settings.rewindSpeed }
            demandDir := .inward, demand := 0, stopRequest := .none
            timer := .running .driveReady 0 s.settings.driveReadyTimeout }) ∧
        (s.zoneHold = true ∨ (s.station i).filters.driveReady.level = false →
          t.dsa = { s.dsa with
            grantSeq := s.dsa.grantSeq + 1
            holders := s.dsa.holders ++
              [{ station := i, cls := 2, grant := s.dsa.grantSeq + 1, slice := .absent, stopKind := .none }]
            yields := s.dsa.yields.map fun p => if p.forStation = i then { p with lapsed := true } else p } ∧
          t.counters = (s.occurrence .slotGrant i).counters)) ∧
      (s.dsa.slots ≤ s.dsa.holders.length → (∀ e ∈ s.dsa.waiting, e.cls ≠ 0) →
        s.dsa.waiting.Pairwise (fun a b => a.cls ≤ b.cls) →
        t.dsa = { s.dsa with waiting :=
          s.dsa.waiting.filter (fun e => decide (e.cls ≤ 2)) ++
            { station := i, cls := 2 } :: s.dsa.waiting.filter (fun e => decide (2 < e.cls)) } ∧
        (t.station i).dhu = (s.station i).dhu)

/-- The preemption test after a grant decision (R91): with a class-0 entry heading the list, no slot free and no yield in
progress for it, the candidate with the highest class number, and among equals the most recently granted, begins to
yield. So it does when a BAND_HIGH sample in HOLDING makes a class-0 need join while every slot is taken (R67, R85). The
yielder makes a normal stop from whatever phase it is in (R93, Table 5-4); one in HELD, DRIVE_WAIT, or BRAKE_WAIT with the
brake set, completes it at once, the class-0 entry takes its slot, and the yielder rejoins (R88, R95). -/
def Obligations.PreemptionChoosesYielder : Prop :=
  ∀ (s : State) (e : WaitEntry) (rest : List WaitEntry) (h : Holder) (i : Station) (c : StationConfig) (p : ProfileNo)
      (status high low : Byte),
    s.dsa.holders.length = s.dsa.slots → h ∈ s.dsa.holders → 2 ≤ h.cls → h.stopKind = .none →
    (∀ k ∈ s.dsa.holders, 2 ≤ k.cls → k.stopKind = .none → k = h ∨ k.cls < h.cls ∨ (k.cls = h.cls ∧ k.grant < h.grant)) →
    (s.station h.station).dhu.phase ≠ .idle → (s.station h.station).dhu.stopRequest = .none →
    (s.dsa.waiting = e :: rest → e.cls = 0 → (∀ q ∈ s.dsa.yields, q.forStation = e.station → q.lapsed = true) →
      (¬(s.station h.station).stopsAtOnce →
        (arbitrate s).dsa = { s.dsa with
          yields := s.dsa.yields ++ [{ yielder := h.station, forStation := e.station, lapsed := false }]
          holders := s.dsa.holders.map fun k =>
            if k.station = h.station then { k with stopKind := .yielding, slice := .absent } else k } ∧
        (arbitrate s).station h.station = (s.station h.station).stopAsked s.settings ∧
        (arbitrate s).counters = (s.occurrence .slotYield h.station).counters) ∧
      ((s.station h.station).stopsAtOnce → ∀ need, (s.station h.station).lcc.need = some need →
        SlotRejoined (s.station h.station).dhu need h.station (s.occurrence .slotYield h.station) (arbitrate s))) ∧
    ((s.station i).lcc.lineState = .holding → (s.station i).lcc.need = none → (s.station i).dhu.phase = .idle →
      (s.station i).config = some c → (s.station i).lcc.effective = some p → (s.station i).mu.sampleHeld = [] →
      (s.station i).mu.count ≠ (s.station i).cmax → status.toNat ≤ 1 →
      (s.profile p).high < c.tensionOfRecord status high low →
      s.doseGrown i p (c.tensionOfRecord status high low) < s.doseLimitFor i p →
      (∀ k ∈ s.dsa.waiting, k.cls ≠ 0) → (∀ q ∈ s.dsa.yields, q.forStation = i → q.lapsed = true) →
      ∃ t, exec (.sampleRecordReceived i [status, high, low, status ^^^ high ^^^ low]) s = .next t ∧
        (t.station h.station).lcc = (s.station h.station).lcc ∧
        (¬(s.station h.station).stopsAtOnce →
          t.dsa = { s.dsa with
            waiting := { station := i, cls := 0 } :: s.dsa.waiting
            yields := s.dsa.yields ++ [{ yielder := h.station, forStation := i, lapsed := false }]
            holders := s.dsa.holders.map fun k =>
              if k.station = h.station then { k with stopKind := .yielding, slice := .absent } else k } ∧
          t.station h.station = (s.station h.station).stopAsked s.settings) ∧
        ((s.station h.station).stopsAtOnce → ∀ (need : Need) (asked : State),
          (s.station h.station).lcc.need = some need →
          asked = State.modLcc { s with dsa := { s.dsa with waiting := { station := i, cls := 0 } :: s.dsa.waiting } } i
            (fun l => { l with need := some { cls := 0, dir := .outward, speed := (s.profile p).adjustSpeed } }) →
          SlotRejoined (s.station h.station).dhu need h.station (asked.occurrence .slotYield h.station) t))

/-! ### The discrete inputs -/

/-- A raw edge away from the filtered level starts a pending level of age 0 with the filter width as it stands, and one back
to it discards the pending level (R133, R134). A pending level that has held for its width becomes the filtered level of
its input, and no other filter moves. A filtered rise or fall of ZONE_HOLD makes ZONE pending; after a rise every slice is
paused and no drum is on its way to run or runs, and after a fall none rests in HELD (R89, R112, R113, R184). A rise by which
no stop completes leaves each drum in SETTING with a fresh brake-set timer or in HELD, every holder with its slot and its
remaining slice, and the rest of the arbiter as it was (R95); a stop that it completes frees the slot, and a station that
still presents a need rejoins (R88, R108). A fall begins the handover of each drum in HELD again, and every slice counts
on from its remaining time. -/
def Obligations.FiltersFollowTheInputs : Prop :=
  ∀ (s : State) (i : Station) (which : Sensor) (level : Bool) (f : Filter) (p : PendingLevel),
    (exec (.rawInputEdge (.sensor i which) level) s = .next (s.modFilters i fun g => g.set which
      ((g.get which).takesEdge level s.settings.filterWidth)) ∧
    exec (.rawInputEdge .zoneHold level) s =
      .next { s with zoneFilter := s.zoneFilter.takesEdge level s.settings.filterWidth }) ∧
    (f.held = some p → p.width ≤ p.age →
      ((s.station i).filters.get which = f →
        ∃ t, exec (.filterWidthElapsed (.sensor i which)) s = .next t ∧
          BerthKept s t ∧ LinkKept s t ∧
          (t.station i).filters = (s.station i).filters.set which { level := !f.level, held := none } ∧
          ∀ j : Station, j ≠ i → (s.station j).SameButDrive (t.station j)) ∧
      (s.zoneFilter = f →
        ∃ t, exec (.filterWidthElapsed .zoneHold) s = .next t ∧
          BerthKept { s with zoneFilter := { level := !f.level, held := none } } t ∧ LinkKept s t ∧
          ReportEntry.zone ∈ t.link.reports ∧
          (∀ j : Station, (s.station j).SameButDrive (t.station j)) ∧
          (f.level = false → (∀ j : Station, (t.station j).dhu.phase.isActive = false) ∧
            (∀ h ∈ t.dsa.holders, h.slice.isRunning = false) ∧
            (s.slotsMatchPhases →
              ((∀ j : Station, ¬(s.station j).endsByZone) →
                t.dsa = s.underZone.dsa ∧ ∀ j : Station, t.station j = (s.station j).zoneHeld s.settings) ∧
              ((s.station i).endsByZone → (∀ j : Station, j ≠ i → ¬(s.station j).endsByZone) →
                (∀ e ∈ s.dsa.waiting, (s.station e.station).dhu.phase = .idle) →
                ((s.station i).lcc.need = none → (t.station i).dhu = (s.station i).dhu.atRest ∧
                  SlotFreed i s.underZone t) ∧
                (∀ need, (s.station i).lcc.need = some need →
                  SlotRejoined (s.station i).dhu need i s.underZone t)))) ∧
          (f.level = true → (∀ j : Station, (t.station j).dhu.phase ≠ .held) ∧
            (∀ h ∈ t.dsa.holders, h.slice.isPaused = false) ∧
            (∀ j : Station, t.station j = (s.station j).zoneResumed s.settings) ∧
            t.dsa = { s.dsa with holders := s.dsa.holders.map fun h => { h with
              slice := if h.slice = .absent ∧ h.stopKind = .none ∧ (s.station h.station).dhu.phase = .held ∧
                  (s.station h.station).filters.driveReady.level = true ∧
                  (s.station h.station).filters.brakeOpen.level = true then .running s.settings.sliceTime
                else h.slice.afterZone } })))

/-- HEAD_SEATED and the sensor STOWED (R13, R16, R18, R22, R26, R28): a seated head takes PAYING_OUT and LINE_OUT to SEATED,
and on to LOCKING with lock mode AUTO; a head that falls takes SEATED to LINE_OUT and a held line to FAULT with HEAD_LOST;
the stowed sensor ends a rewind. -/
def Obligations.HeadAndStowedSensors : Prop :=
  ∀ (s : State) (i : Station) (p : PendingLevel), p.width ≤ p.age → (s.station i).mu.lost = false →
    ((s.station i).filters.headSeated = { level := false, held := some p } →
      (s.station i).lcc.lineState = .payingOut ∨ (s.station i).lcc.lineState = .lineOut →
      ∃ t, exec (.filterWidthElapsed (.sensor i .headSeated)) s = .next t ∧ ReportEntry.station i ∈ t.link.reports ∧
        ((s.station i).lcc.lockMode = .onRequest → (t.station i).lcc =
          { (s.station i).lcc.between .seated .seated with armExpiry := none, dose := 0, overloadHeld := false }) ∧
        ((s.station i).lcc.lockMode = .auto → (s.station i).latch ≠ .closed →
          (t.station i).lcc =
            { (s.station i).lcc.between .locking .seated with armExpiry := none, dose := 0, overloadHeld := false } ∧
          (t.station i).lpu = (s.station i).lpu.asked .lock .lock s.settings.retries s.settings.lockDelay
            s.settings.lockWidth s.settings.lockConfirmTimeout)) ∧
    ((s.station i).filters.headSeated = { level := true, held := some p } →
      ∃ t, exec (.filterWidthElapsed (.sensor i .headSeated)) s = .next t ∧
        ((s.station i).lcc.lineState = .seated →
          (t.station i).lcc = ((s.station i).lcc.between .lineOut .seatLost).slack) ∧
        ((s.station i).lcc.lineState ∈ [LineState.locking, .takingUp, .holding, .adjusting] →
          (t.station i).lcc =
            (s.station i).lccInFault .headLost (s.station i).lcc.lineState s.berthTime) ∧
        ((s.station i).lcc.lineState = .fault → (s.station i).latch = .closed →
          (t.station i).lcc = { (s.station i).lcc with
            fault := (s.station i).lcc.fault.map fun r => { r with further := r.further ||| (1 <<< 9) } }) ∧
        ((s.station i).lcc.lineState ∈ [LineState.offline, .stowed, .payingOut, .releasing, .rewinding, .lineOut] →
          (t.station i).lcc = (s.station i).lcc)) ∧
    ((s.station i).filters.stowed = { level := false, held := some p } →
      ∃ t, exec (.filterWidthElapsed (.sensor i .stowed)) s = .next t ∧
        ((s.station i).lcc.lineState = .rewinding →
          (t.station i).lcc = ((s.station i).lcc.between .stowed .stowed).slack ∧
          (t.station i).mu.count = 0 ∧ (t.station i).mu.referenced = true ∧
          (t.station i).mu.correction = some (match (s.station i).lcc.creepCount with
            | none => ((s.station i).mu.count : Int)
            | some c => -(c : Int)) ∧
          ReportEntry.station i ∈ t.link.reports) ∧
        ((s.station i).lcc.lineState ≠ .rewinding → (t.station i).lcc = (s.station i).lcc ∧
          (t.station i).mu = (s.station i).mu))

/-- A latch sensor that moves the latch position of an in-service station (R4, R18, R22, R24, R122): the target of the
sequence with confirmation open confirms it, into TAKING_UP (at count 0 on to FAULT with DRUM_LIMIT: R6, R19), LINE_OUT or
REWINDING with all that its entry brings (R26), a latch that becomes OPEN in a state that holds the ferry is HEAD_LOST, and a
latch that leaves CLOSED in FAULT ends the dose and OVERLOAD_HELD. The conflict timer starts when the position becomes
CONFLICT, which confirms nothing, and is discarded when the position leaves it (R131). -/
def Obligations.LatchPositionMoves : Prop :=
  ∀ (s : State) (i : Station) (p : PendingLevel), p.width ≤ p.age →
    (∀ pair ∈ [(Sensor.latchClosed, Sensor.latchOpen), (.latchOpen, .latchClosed)],
      (s.station i).lcc.lineState ≠ .offline → ((s.station i).filters.get pair.2).level = true →
      ((s.station i).filters.get pair.1 = { level := false, held := some p } →
        ∃ t, exec (.filterWidthElapsed (.sensor i pair.1)) s = .next t ∧
          KeptBeside i s t ∧ LinkKept s t ∧
          (t.station i).lpu = { (s.station i).lpu with conflictTimer := .running 0 s.settings.lockConfirmTimeout } ∧
          (t.station i).dhu = (s.station i).dhu ∧
          ((s.station i).lcc.lineState ≠ .fault → (t.station i).lcc = (s.station i).lcc ∧ t.link = s.link)) ∧
      ((s.station i).filters.get pair.1 = { level := true, held := some p } →
        ∃ t, exec (.filterWidthElapsed (.sensor i pair.1)) s = .next t ∧
          (t.station i).lpu.conflictTimer = .absent)) ∧
    ((s.station i).mu.lost = false →
    ((s.station i).filters.latchClosed = { level := false, held := some p } →
      (s.station i).filters.latchOpen.level = false → (s.station i).lcc.lineState = .locking →
      (s.station i).lpu.sequence = .lock → (s.station i).lpu.confirmOpen = true →
      ∃ t, exec (.filterWidthElapsed (.sensor i .latchClosed)) s = .next t ∧
        ((s.station i).mu.count ≠ 0 → (t.station i).lcc = { (s.station i).lcc.between .takingUp .lockConfirmed with
          takeupStart := some (s.station i).mu.count
          need := some { cls := 1, dir := .inward, speed := s.settings.takeupSpeed } }) ∧
        ((s.station i).mu.count = 0 → (t.station i).lcc = StationState.lccInFault
          { s.station i with filters := (t.station i).filters } .drumLimit .takingUp s.berthTime) ∧
        (t.station i).lpu.sequence = .none ∧ (t.station i).lpu.confirmTimer = none ∧
        (t.station i).lpu.confirmOpen = false ∧ (t.station i).lpu.queued = none ∧
        ReportEntry.station i ∈ t.link.reports) ∧
    ((s.station i).filters.latchOpen = { level := false, held := some p } →
      (s.station i).filters.latchClosed.level = false →
      ∃ t, exec (.filterWidthElapsed (.sensor i .latchOpen)) s = .next t ∧
        ((s.station i).lcc.lineState = .releasing → (s.station i).lpu.sequence = .release →
          (s.station i).lpu.confirmOpen = true → (s.station i).lcc.rewindFlag ≠ some true →
          (t.station i).lcc = ((s.station i).lcc.between .lineOut .releaseConfirmed).slack ∧
          (t.station i).lpu.sequence = .none) ∧
        ((s.station i).lcc.lineState = .releasing → (s.station i).lpu.sequence = .release →
          (s.station i).lpu.confirmOpen = true → (s.station i).lcc.rewindFlag = some true →
          ({ s.station i with lpu := (t.station i).lpu, filters := (t.station i).filters } : StationState).Rewound
            s.settings s.berthTime .releaseConfirmed t i) ∧
        ((s.station i).lcc.lineState ∈ [LineState.takingUp, .holding, .adjusting] →
          (s.station i).lpu.confirmOpen = false →
          (t.station i).lcc = StationState.lccInFault { s.station i with filters := (t.station i).filters }
            .headLost (s.station i).lcc.lineState s.berthTime)) ∧
    ((s.station i).filters.latchClosed = { level := true, held := some p } →
      (s.station i).filters.latchOpen.level = false → (s.station i).lcc.lineState = .fault →
      (s.station i).lpu.confirmOpen = false →
      ∃ t, exec (.filterWidthElapsed (.sensor i .latchClosed)) s = .next t ∧
        (t.station i).lcc = { (s.station i).lcc with dose := 0, overloadHeld := false } ∧
        ((s.station i).lcc.overloadHeld = true → ReportEntry.station i ∈ t.link.reports)))

/-- BRAKE_OPEN and DRIVE_READY at the drive (R55, R102, R103, R104, R107, R108, R109): the handover goes on as its phase
waits, a drive that is no longer ready is DRIVE_NOT_READY, and a brake that has fallen ends SETTING: in HELD under zone
hold, with the handover resumed when ZONE_HOLD has fallen (R113), or with the stop completed. A completion frees the slot;
a station that still presents a need, a yielder or one with pending motion, rejoins at the tail of its class (R88, R114)
and is granted again at once if nobody waits, while an entry that stands ahead of it is granted first. -/
def Obligations.BrakeAndDriveSensors : Prop :=
  ∀ (s : State) (i : Station) (p : PendingLevel) (m : Nat), p.width ≤ p.age →
    ((s.station i).filters.driveReady = { level := false, held := some p } →
      (s.station i).dhu.phase = .driveWait → (s.station i).filters.brakeOpen.level = false →
      ∃ t, exec (.filterWidthElapsed (.sensor i .driveReady)) s = .next t ∧
        (t.station i).dhu = { (s.station i).dhu with
          phase := .brakeWait, timer := .running .brakeLift 0 s.settings.brakeLiftTimeout } ∧
        (t.station i).mu.releaseMeasure = some 0 ∧ t.dsa = s.dsa) ∧
    ((s.station i).filters.brakeOpen = { level := false, held := some p } → (s.station i).dhu.phase = .brakeWait →
      s.zoneHold = false → (s.station i).mu.releaseMeasure = some m →
      ∃ t, exec (.filterWidthElapsed (.sensor i .brakeOpen)) s = .next t ∧
        (t.station i).dhu = { (s.station i).dhu with
          phase := .running, timer := .absent, stall := some { elapsed := 0, limit := s.settings.stallTime } } ∧
        (t.station i).mu.releaseTime = max 1 (min 65535 m) ∧ (t.station i).mu.releaseMeasure = none ∧
        (t.station i).lcc = (s.station i).lcc ∧
        t.dsa = { s.dsa with holders := s.dsa.holders.map fun h =>
          if h.station = i ∧ h.slice = .absent ∧ h.stopKind = .none then
            { h with slice := .running s.settings.sliceTime }
          else h }) ∧
    ((s.station i).filters.driveReady = { level := true, held := some p } → (s.station i).mu.lost = false →
      (s.station i).lcc.lineState ≠ .offline → (s.station i).lcc.lineState ≠ .fault →
      (s.station i).dhu.phase ∈ [DrivePhase.brakeWait, .running, .stopping] →
      ∃ t, exec (.filterWidthElapsed (.sensor i .driveReady)) s = .next t ∧
        (t.station i).lcc =
          (s.station i).lccInFault .driveNotReady (s.station i).lcc.lineState s.berthTime) ∧
    ((s.station i).filters.brakeOpen = { level := true, held := some p } → (s.station i).dhu.phase = .setting →
      ∃ t, exec (.filterWidthElapsed (.sensor i .brakeOpen)) s = .next t ∧
        ((s.station i).dhu.stopRequest = .none → s.zoneHold = true →
          (t.station i).dhu = { (s.station i).dhu with phase := .held, timer := .absent } ∧ t.dsa = s.dsa) ∧
        ((s.station i).dhu.stopRequest = .none → s.zoneHold = false →
          ((s.station i).filters.driveReady.level = true →
            (t.station i).dhu = { (s.station i).dhu with
              phase := .brakeWait, timer := .running .brakeLift 0 s.settings.brakeLiftTimeout } ∧
            (t.station i).mu.releaseMeasure = some 0) ∧
          ((s.station i).filters.driveReady.level = false →
            (t.station i).dhu = { (s.station i).dhu with
              phase := .driveWait, timer := .running .driveReady 0 s.settings.driveReadyTimeout }) ∧
          t.dsa = s.dsa) ∧
        ((s.station i).dhu.stopRequest ≠ .none → (s.station i).lcc.need = none →
          (t.station i).dhu.phase = .idle ∧ t.dsa.holds i = false) ∧
        (∀ need, (s.station i).dhu.stopRequest ≠ .none → (s.station i).lcc.need = some need → s.dsa.holds i = true →
          SlotRejoined (s.station i).dhu need i
            (s.modFilters i fun f => { f with brakeOpen := { level := false, held := none } }) t))

/-! ### The latch, the arm and time -/

/-- The end of a pulse's delay and of its width (R119, R120, R121, R122, R126): the coil is energized for the pulse's width
and, for a pulse of a lock or release sequence, confirmation opens with a fresh confirm timer and LATCH_PULSE is counted;
at the end of the width the coil is off and a queued pulse begins with its own delay, energized at once if that is 0. A
latch that already reads the target at an energizing confirms the sequence at that moment; that LATCH_PULSE is counted,
and its wrap reported, before what the confirmation brings about is the model's order (log 5). -/
def Obligations.PulseDelayAndWidthEnd : Prop :=
  ∀ (s : State) (i : Station) (p : Pulse) (next : PulseKind), p.remaining = 0 →
    (s.station i).lpu.pulse = some p →
    (p.phase = .delay →
      ((p.ofSequence = true ∨ (s.station i).lpu.confirmOpen = true → ¬(s.station i).atTarget) →
        exec (.pulseDelayEnd i) s = .next
          ((s.modLpu i fun l => l.energizes p s.settings).occurrence .latchPulse i)) ∧
      (p.ofSequence = true → (s.station i).atTarget → s.sequenceWanted i →
        ∃ t, exec (.pulseDelayEnd i) s = .next t ∧ SequenceConfirmed i s t ∧ PulseCounted i s t ∧
          (t.station i).lpu.pulse =
            some { p with phase := .energized, remaining := p.width, ofSequence := false })) ∧
    (p.phase = .energized →
      ((s.station i).lpu.queued = none → ((s.station i).lpu.confirmOpen = true → ¬(s.station i).atTarget) →
        exec (.pulseWidthEnd i) s = .next (s.modLpu i fun l => { l with
          pulse := none
          sequence := if l.sequence = .headOpen ∧ p.ofSequence = true then .none else l.sequence })) ∧
      ((s.station i).lpu.queued = some next → ¬((s.station i).lpu.sequence = .headOpen ∧ p.ofSequence = true) →
        (0 < s.settings.delayOf next → ((s.station i).lpu.confirmOpen = true → ¬(s.station i).atTarget) →
          exec (.pulseWidthEnd i) s = .next (s.modLpu i fun l => { l with
            pulse := some { kind := next, phase := .delay, remaining := s.settings.delayOf next,
                            width := s.settings.widthOf next, ofSequence := true }
            queued := none, attempts := l.attempts + 1 })) ∧
        (s.settings.delayOf next = 0 → ¬(s.station i).atTarget →
          exec (.pulseWidthEnd i) s = .next ((s.modLpu i fun l =>
            Lpu.energizes { l with queued := none, attempts := l.attempts + 1 }
              { kind := next, phase := .delay, remaining := 0, width := s.settings.widthOf next, ofSequence := true }
              s.settings).occurrence .latchPulse i)) ∧
        (s.settings.delayOf next = 0 → (s.station i).atTarget → s.sequenceWanted i →
          ∃ t, exec (.pulseWidthEnd i) s = .next t ∧ SequenceConfirmed i s t ∧ PulseCounted i s t ∧
            (t.station i).lpu.pulse = some { kind := next, phase := .energized, remaining := s.settings.widthOf next,
                                             width := s.settings.widthOf next, ofSequence := false })))

/-- A confirm timeout with confirmation open (R18, R24, R123): with attempts left the next pulse begins, or is queued
behind one still energized; with none left the sequence ends and the station enters FAULT with LATCH_NOT_CLOSED or
LATCH_NOT_OPEN. That the confirm timer is absent while a retry is queued is the model's choice (log 16). -/
def Obligations.ConfirmTimeoutActs : Prop :=
  ∀ (s : State) (i : Station) (elapsed limit : Nat) (p : Pulse), limit ≤ elapsed →
    (s.station i).lpu.confirmTimer = some { elapsed := elapsed, limit := limit } →
    (s.station i).lpu.confirmOpen = true →
    ((s.station i).lpu.sequence = .lock ∧ (s.station i).lcc.lineState = .locking ∧ (s.station i).latch ≠ .closed ∨
      (s.station i).lpu.sequence = .release ∧ (s.station i).lcc.lineState = .releasing ∧
        (s.station i).latch ≠ .opened) →
    ((s.station i).lpu.attempts ≤ (s.station i).lpu.retries →
      ((s.station i).lpu.pulse = some p →
        exec (.confirmTimeout i) s = .next (s.modLpu i fun l => { l with
          confirmTimer := none
          queued := some (if l.sequence = .lock then .lock else .release) })) ∧
      ((s.station i).lpu.pulse = none → ∃ t, exec (.confirmTimeout i) s = .next t ∧
        (t.station i).lcc = (s.station i).lcc ∧
        (t.station i).lpu.attempts = (s.station i).lpu.attempts + 1 ∧
        (t.station i).lpu.sequence = (s.station i).lpu.sequence ∧ (t.station i).lpu.confirmOpen = true ∧
        (t.station i).lpu.pulse =
          (let kind : PulseKind := if (s.station i).lpu.sequence = .lock then .lock else .release
          if s.settings.delayOf kind = 0 then
            some { kind := kind, phase := .energized, remaining := s.settings.widthOf kind,
                   width := s.settings.widthOf kind, ofSequence := true }
          else
            some { kind := kind, phase := .delay, remaining := s.settings.delayOf kind,
                   width := s.settings.widthOf kind, ofSequence := true }))) ∧
    ((s.station i).lpu.retries < (s.station i).lpu.attempts → (s.station i).mu.lost = false →
      ∃ t, exec (.confirmTimeout i) s = .next t ∧ StationMoved i s t ∧
        (t.station i).lcc = (s.station i).lccInFault
          (if (s.station i).lpu.sequence = .lock then .latchNotClosed else .latchNotOpen)
          (s.station i).lcc.lineState s.berthTime ∧
        (t.station i).lpu.sequence = .none ∧ (t.station i).lpu.confirmOpen = false ∧
        (t.station i).lpu.confirmTimer = none ∧ (t.station i).lpu.queued = none ∧
        (t.station i).lpu.pulse = (s.station i).lpu.pulse.map fun q => { q with ofSequence := false })

/-- One millisecond (R51, R55, R89, R98, R105, R119, R121, R128, R133, R139, R187, R199): the time base and, each thousandth
tick, the berth time rise; every timer, pending level and sample age of a station counts up to its limit and a pulse's
remaining time down; running slices and the Link Watch count down; and a WAIT_TIME counter gains one for each waiting
station of its range, a wrap making its COUNTER report pending (R200). Nothing else changes. The model's own: timers stand
at their limits (log 2), the end of a 100 ms window (R54) is marked due at each in-service station (windowDue, log 11), and
at an OFFLINE one it refreshes zeroThroughout (log 12). -/
def Obligations.TickCounts : Prop :=
  ∀ (s : State) (n : CounterNo), ∃ t, exec .timeBaseTick s = .next t ∧
    t.timeBase = s.timeBase + 1 ∧
    t.berthTime = (if s.berthMs = 999 then s.berthTime + 1 else s.berthTime) ∧
    t.berthMs = (if s.berthMs = 999 then 0 else s.berthMs + 1) ∧
    t.windowMs = (if s.windowMs = 99 then 0 else s.windowMs + 1) ∧
    (∀ i : Station, (t.station i).lcc = (s.station i).lcc ∧ (t.station i).config = (s.station i).config ∧
      (t.station i).handed = (s.station i).handed ∧ (t.station i).mu = { (s.station i).mu with
        age := if (s.station i).lcc.lineState = .offline then (s.station i).mu.age
          else min 65535 ((s.station i).mu.age + 1)
        windowDue := (s.station i).mu.windowDue ||
          decide (s.windowMs = 99 ∧ (s.station i).lcc.lineState ≠ .offline)
        releaseMeasure := (s.station i).mu.releaseMeasure.map fun k => min 65535 (k + 1) } ∧
      (t.station i).dhu = { (s.station i).dhu with
        timer := match (s.station i).dhu.timer with
          | .running kind elapsed limit => .running kind (min limit (elapsed + 1)) limit
          | other => other
        stall := (s.station i).dhu.stall.map fun k => { k with elapsed := min k.limit (k.elapsed + 1) }
        zeroThroughout := if s.windowMs = 99 ∧ (s.station i).lcc.lineState = .offline then
            decide ((s.station i).dhu.demand = 0)
          else (s.station i).dhu.zeroThroughout } ∧
      (t.station i).lpu = { (s.station i).lpu with
        pulse := (s.station i).lpu.pulse.map fun p => { p with remaining := p.remaining - 1 }
        confirmTimer := (s.station i).lpu.confirmTimer.map fun k => { k with elapsed := min k.limit (k.elapsed + 1) }
        conflictTimer := match (s.station i).lpu.conflictTimer with
          | .running elapsed limit => .running (min limit (elapsed + 1)) limit
          | other => other } ∧
      ∀ which : Sensor, (t.station i).filters.get which = { (s.station i).filters.get which with
        held := ((s.station i).filters.get which).held.map fun p => { p with age := min p.width (p.age + 1) } }) ∧
    t.zoneFilter = { s.zoneFilter with
      held := s.zoneFilter.held.map fun p => { p with age := min p.width (p.age + 1) } } ∧
    t.dsa = { s.dsa with holders := s.dsa.holders.map fun h => { h with slice := match h.slice with
      | .running remaining => .running (remaining - 1)
      | other => other } } ∧
    t.watch = (if s.settings.watchMode = .off ∨ s.watch.hold = true then s.watch
      else { s.watch with remaining := s.watch.remaining - 1 }) ∧
    t.counters.get n = { s.counters.get n with
      value := (s.counters.get n).value + BitVec.ofNat 32 (s.waitsCounted n) } ∧
    (s.wrapsWaiting n → ReportEntry.counter n ∈ t.link.reports) ∧
    s.link.reports <+: t.link.reports ∧
    (∀ r ∈ t.link.reports, r ∈ s.link.reports ∨ ∃ k, r = .counter k ∧ s.wrapsWaiting k) ∧
    t = { s with
      timeBase := t.timeBase, berthTime := t.berthTime, berthMs := t.berthMs, windowMs := t.windowMs,
      stations := t.stations, zoneFilter := t.zoneFilter, dsa := t.dsa, watch := t.watch, counters := t.counters,
      link := { s.link with reports := t.link.reports } }

/-! ### Invariants of every step -/

/-- Every step keeps the tension within 0..10000, the dose within 0..65535, and the drum count within 0..Cmax and 0 in
STOWED and OFFLINE, at every station (R38, R47, R74). -/
def Obligations.StepKeepsMeasures : Prop :=
  ∀ (s t : State), s.measuresBounded → s.countsBounded → step s = .next t → t.measuresBounded ∧ t.countsBounded

/-- Every step keeps each effective profile the lesser of the requested profile and the ceiling entry (R62). -/
def Obligations.StepKeepsEffectiveProfiles : Prop :=
  ∀ (s t : State), s.profilesEffective → step s = .next t → t.profilesEffective

/-- Every step keeps the outputs of every drive safe (R100): a nonzero demand only in RUNNING and STOPPING, and BRAKE_RELEASE
energized only at a station that holds a slot, in BRAKE_WAIT, RUNNING or STOPPING, with ZONE_HOLD deasserted. -/
def Obligations.StepKeepsDriveOutputsSafe : Prop :=
  ∀ (s t : State), s.demandsSafe → s.slotsMatchPhases → s.zoneObeyed → step s = .next t →
    t.demandsSafe ∧ t.slotsMatchPhases ∧ t.zoneObeyed ∧
    ∀ i : Station, (t.demandOut i ≠ 0 → (t.station i).dhu.phase ∈ [DrivePhase.running, .stopping]) ∧
      (t.brakeRelease i = true → t.dsa.holds i = true ∧ t.zoneFilter.level = false ∧
        (t.station i).dhu.phase ∈ [DrivePhase.brakeWait, .running, .stopping])

/-- Every step keeps the holders within K, no slot idle while an entry waits, and the waiting list in the order of its
classes (R84, R87). -/
def Obligations.StepKeepsArbiterOrder : Prop :=
  ∀ (s t : State), s.slotsBounded → s.noSlotIdle → s.waitingOrdered → step s = .next t →
    t.slotsBounded ∧ t.noSlotIdle ∧ t.waitingOrdered

/-- Every step keeps a motion need at exactly the stations in a motion state (R3). -/
def Obligations.StepKeepsNeeds : Prop :=
  ∀ (s t : State), s.needsMatch → step s = .next t → t.needsMatch

/-- While the commissioning lock is set, no step raises a closed value above its value when the lock was set (R165): the
values taken then stand, unmoved, for as long as the lock stays set (R163), and only a reset clears it (R164). -/
def Obligations.StepKeepsLockedValues : Prop :=
  ∀ (s t : State), s.lockKept → step s = .next t →
    t.lockKept ∧
    (s.berth.locked = true → t.berth.locked = true →
      t.profiles.snapshot = s.profiles.snapshot ∧ t.berth.thresholdSnapshot = s.berth.thresholdSnapshot) ∧
    (s.berth.locked = true → (∀ c ∈ s.pending.head?, resetsPart c = false) → t.berth.locked = true)

/-- Every step keeps the inbound queue within four frames, one entry for each report in the Report Queue, and the station
request under way under the code of its kind with its next station in a valid range (R170, R172, R173, R182). -/
def Obligations.StepKeepsQueues : Prop :=
  ∀ (s t : State), step s = .next t →
    (s.inboundBounded → t.inboundBounded) ∧
    (distinctKeys s.link.reports → distinctKeys t.link.reports) ∧
    (s.requestFits → t.requestFits)

/-- A fault record that stands before and after a step that resets nothing keeps its first kind and its circumstances,
and its further set only grows; only a CLEAR_FAULT, a CONFIGURE_STATION or a reset ends it (R30, R139, R140, R141). The
request under way is of the kind of its code, an invariant that StepKeepsQueues states. -/
def Obligations.FaultRecordsContinue : Prop :=
  ∀ (s t : State) (c : Instr) (i : Station) (old : FaultRecord), s.requestFits → exec c s = .next t →
    (s.station i).lcc.fault = some old → resetsPart c = false → clearsRecords c = false →
    ∃ new, (t.station i).lcc.fault = some new ∧ old.continues new

/-- A station leaves OFFLINE only by a CONFIGURE_STATION (R8, R9). The request under way is of the kind of its code, an
invariant that StepKeepsQueues states. -/
def Obligations.OfflineLeftByConfigureStation : Prop :=
  ∀ (s t : State) (c : Instr) (i : Station), s.requestFits → exec c s = .next t → (s.station i).lcc.lineState = .offline →
    (t.station i).lcc.lineState ≠ .offline → ∃ turns, c = .configureStation turns
end

