-- ==== Sys2Proof/Laws/State.lean ====
section
/-!
SUPPORT. What each named update of the state does to each part of it: one lemma per part and update. No later proof
unfolds a record update of the state.
-/
namespace Sys2Proof.Machine

/-! ### One station -/

theorem vector_get_set {α : Type} {n : Nat} (v : Vector α n) (i j : Fin n) (x : α) :
    (v.set i.val x i.isLt).get j = if j = i then x else v.get j := by
  have h : (v.set i.val x i.isLt).get j = (v.set i.val x i.isLt)[j.val] := rfl
  rw [h, Vector.getElem_set]
  by_cases e : j = i
  · simp [e]
  · have hv : i.val ≠ j.val := fun k => e (Fin.ext k.symm)
    rw [if_neg hv, if_neg e]; rfl

@[simp] theorem State.station_setStation_same (s : State) (i : Station) (t : StationState) :
    (s.setStation i t).station i = t := by
  simp [State.station, State.setStation, vector_get_set]

theorem State.station_setStation_ne (s : State) {i j : Station} (t : StationState) (h : j ≠ i) :
    (s.setStation i t).station j = s.station j := by
  simp [State.station, State.setStation, vector_get_set, h]

theorem State.station_setStation (s : State) (i j : Station) (t : StationState) :
    (s.setStation i t).station j = if j = i then t else s.station j := by
  by_cases h : j = i
  · subst h; simp
  · simp [State.station_setStation_ne s t h, h]

/-- Two states with the same stations and the same other parts are the same. -/
theorem State.stations_ext {s t : State} (h : ∀ i, s.station i = t.station i) : s.stations = t.stations := by
  apply Vector.ext
  intro k hk
  exact h ⟨k, hk⟩

@[simp] theorem State.setStation_zoneFilter (s : State) (i : Station) (t : StationState) :
    (s.setStation i t).zoneFilter = s.zoneFilter := rfl

@[simp] theorem State.setStation_dsa (s : State) (i : Station) (t : StationState) :
    (s.setStation i t).dsa = s.dsa := rfl

@[simp] theorem State.setStation_profiles (s : State) (i : Station) (t : StationState) :
    (s.setStation i t).profiles = s.profiles := rfl

@[simp] theorem State.setStation_berth (s : State) (i : Station) (t : StationState) :
    (s.setStation i t).berth = s.berth := rfl

@[simp] theorem State.setStation_routing (s : State) (i : Station) (t : StationState) :
    (s.setStation i t).routing = s.routing := rfl

@[simp] theorem State.setStation_link (s : State) (i : Station) (t : StationState) :
    (s.setStation i t).link = s.link := rfl

@[simp] theorem State.setStation_watch (s : State) (i : Station) (t : StationState) :
    (s.setStation i t).watch = s.watch := rfl

@[simp] theorem State.setStation_counters (s : State) (i : Station) (t : StationState) :
    (s.setStation i t).counters = s.counters := rfl

@[simp] theorem State.setStation_timeBase (s : State) (i : Station) (t : StationState) :
    (s.setStation i t).timeBase = s.timeBase := rfl

@[simp] theorem State.setStation_berthTime (s : State) (i : Station) (t : StationState) :
    (s.setStation i t).berthTime = s.berthTime := rfl

@[simp] theorem State.setStation_berthMs (s : State) (i : Station) (t : StationState) :
    (s.setStation i t).berthMs = s.berthMs := rfl

@[simp] theorem State.setStation_windowMs (s : State) (i : Station) (t : StationState) :
    (s.setStation i t).windowMs = s.windowMs := rfl

@[simp] theorem State.setStation_pending (s : State) (i : Station) (t : StationState) :
    (s.setStation i t).pending = s.pending := rfl

/-! ### `modLcc` -/

@[simp] theorem State.station_modLcc_same (s : State) (i : Station) (f : Lcc → Lcc) :
    (s.modLcc i f).station i = { s.station i with lcc := f (s.station i).lcc } :=
  State.station_setStation_same s i _

theorem State.station_modLcc_ne (s : State) {i j : Station} (f : Lcc → Lcc) (h : j ≠ i) :
    (s.modLcc i f).station j = s.station j :=
  State.station_setStation_ne s _ h

theorem State.station_modLcc (s : State) (i j : Station) (f : Lcc → Lcc) :
    (s.modLcc i f).station j = if j = i then { s.station i with lcc := f (s.station i).lcc } else s.station j :=
  State.station_setStation s i j _

@[simp] theorem State.modLcc_config (s : State) (i j : Station) (f : Lcc → Lcc) :
    ((s.modLcc i f).station j).config = (s.station j).config := by
  rw [State.station_modLcc]; split <;> simp_all

@[simp] theorem State.modLcc_mu (s : State) (i j : Station) (f : Lcc → Lcc) :
    ((s.modLcc i f).station j).mu = (s.station j).mu := by
  rw [State.station_modLcc]; split <;> simp_all

@[simp] theorem State.modLcc_dhu (s : State) (i j : Station) (f : Lcc → Lcc) :
    ((s.modLcc i f).station j).dhu = (s.station j).dhu := by
  rw [State.station_modLcc]; split <;> simp_all

@[simp] theorem State.modLcc_lpu (s : State) (i j : Station) (f : Lcc → Lcc) :
    ((s.modLcc i f).station j).lpu = (s.station j).lpu := by
  rw [State.station_modLcc]; split <;> simp_all

@[simp] theorem State.modLcc_filters (s : State) (i j : Station) (f : Lcc → Lcc) :
    ((s.modLcc i f).station j).filters = (s.station j).filters := by
  rw [State.station_modLcc]; split <;> simp_all

@[simp] theorem State.modLcc_handed (s : State) (i j : Station) (f : Lcc → Lcc) :
    ((s.modLcc i f).station j).handed = (s.station j).handed := by
  rw [State.station_modLcc]; split <;> simp_all

@[simp] theorem State.modLcc_zoneFilter (s : State) (i : Station) (f : Lcc → Lcc) : (s.modLcc i f).zoneFilter = s.zoneFilter := rfl

@[simp] theorem State.modLcc_dsa (s : State) (i : Station) (f : Lcc → Lcc) : (s.modLcc i f).dsa = s.dsa := rfl

@[simp] theorem State.modLcc_profiles (s : State) (i : Station) (f : Lcc → Lcc) : (s.modLcc i f).profiles = s.profiles := rfl

@[simp] theorem State.modLcc_berth (s : State) (i : Station) (f : Lcc → Lcc) : (s.modLcc i f).berth = s.berth := rfl

@[simp] theorem State.modLcc_routing (s : State) (i : Station) (f : Lcc → Lcc) : (s.modLcc i f).routing = s.routing := rfl

@[simp] theorem State.modLcc_link (s : State) (i : Station) (f : Lcc → Lcc) : (s.modLcc i f).link = s.link := rfl

@[simp] theorem State.modLcc_watch (s : State) (i : Station) (f : Lcc → Lcc) : (s.modLcc i f).watch = s.watch := rfl

@[simp] theorem State.modLcc_counters (s : State) (i : Station) (f : Lcc → Lcc) : (s.modLcc i f).counters = s.counters := rfl

@[simp] theorem State.modLcc_timeBase (s : State) (i : Station) (f : Lcc → Lcc) : (s.modLcc i f).timeBase = s.timeBase := rfl

@[simp] theorem State.modLcc_berthTime (s : State) (i : Station) (f : Lcc → Lcc) : (s.modLcc i f).berthTime = s.berthTime := rfl

@[simp] theorem State.modLcc_berthMs (s : State) (i : Station) (f : Lcc → Lcc) : (s.modLcc i f).berthMs = s.berthMs := rfl

@[simp] theorem State.modLcc_windowMs (s : State) (i : Station) (f : Lcc → Lcc) : (s.modLcc i f).windowMs = s.windowMs := rfl

@[simp] theorem State.modLcc_pending (s : State) (i : Station) (f : Lcc → Lcc) : (s.modLcc i f).pending = s.pending := rfl

/-! ### `modMu` -/

@[simp] theorem State.station_modMu_same (s : State) (i : Station) (f : Mu → Mu) :
    (s.modMu i f).station i = { s.station i with mu := f (s.station i).mu } :=
  State.station_setStation_same s i _

theorem State.station_modMu_ne (s : State) {i j : Station} (f : Mu → Mu) (h : j ≠ i) :
    (s.modMu i f).station j = s.station j :=
  State.station_setStation_ne s _ h

theorem State.station_modMu (s : State) (i j : Station) (f : Mu → Mu) :
    (s.modMu i f).station j = if j = i then { s.station i with mu := f (s.station i).mu } else s.station j :=
  State.station_setStation s i j _

@[simp] theorem State.modMu_lcc (s : State) (i j : Station) (f : Mu → Mu) :
    ((s.modMu i f).station j).lcc = (s.station j).lcc := by
  rw [State.station_modMu]; split <;> simp_all

@[simp] theorem State.modMu_config (s : State) (i j : Station) (f : Mu → Mu) :
    ((s.modMu i f).station j).config = (s.station j).config := by
  rw [State.station_modMu]; split <;> simp_all

@[simp] theorem State.modMu_dhu (s : State) (i j : Station) (f : Mu → Mu) :
    ((s.modMu i f).station j).dhu = (s.station j).dhu := by
  rw [State.station_modMu]; split <;> simp_all

@[simp] theorem State.modMu_lpu (s : State) (i j : Station) (f : Mu → Mu) :
    ((s.modMu i f).station j).lpu = (s.station j).lpu := by
  rw [State.station_modMu]; split <;> simp_all

@[simp] theorem State.modMu_filters (s : State) (i j : Station) (f : Mu → Mu) :
    ((s.modMu i f).station j).filters = (s.station j).filters := by
  rw [State.station_modMu]; split <;> simp_all

@[simp] theorem State.modMu_handed (s : State) (i j : Station) (f : Mu → Mu) :
    ((s.modMu i f).station j).handed = (s.station j).handed := by
  rw [State.station_modMu]; split <;> simp_all

@[simp] theorem State.modMu_zoneFilter (s : State) (i : Station) (f : Mu → Mu) : (s.modMu i f).zoneFilter = s.zoneFilter := rfl

@[simp] theorem State.modMu_dsa (s : State) (i : Station) (f : Mu → Mu) : (s.modMu i f).dsa = s.dsa := rfl

@[simp] theorem State.modMu_profiles (s : State) (i : Station) (f : Mu → Mu) : (s.modMu i f).profiles = s.profiles := rfl

@[simp] theorem State.modMu_berth (s : State) (i : Station) (f : Mu → Mu) : (s.modMu i f).berth = s.berth := rfl

@[simp] theorem State.modMu_routing (s : State) (i : Station) (f : Mu → Mu) : (s.modMu i f).routing = s.routing := rfl

@[simp] theorem State.modMu_link (s : State) (i : Station) (f : Mu → Mu) : (s.modMu i f).link = s.link := rfl

@[simp] theorem State.modMu_watch (s : State) (i : Station) (f : Mu → Mu) : (s.modMu i f).watch = s.watch := rfl

@[simp] theorem State.modMu_counters (s : State) (i : Station) (f : Mu → Mu) : (s.modMu i f).counters = s.counters := rfl

@[simp] theorem State.modMu_timeBase (s : State) (i : Station) (f : Mu → Mu) : (s.modMu i f).timeBase = s.timeBase := rfl

@[simp] theorem State.modMu_berthTime (s : State) (i : Station) (f : Mu → Mu) : (s.modMu i f).berthTime = s.berthTime := rfl

@[simp] theorem State.modMu_berthMs (s : State) (i : Station) (f : Mu → Mu) : (s.modMu i f).berthMs = s.berthMs := rfl

@[simp] theorem State.modMu_windowMs (s : State) (i : Station) (f : Mu → Mu) : (s.modMu i f).windowMs = s.windowMs := rfl

@[simp] theorem State.modMu_pending (s : State) (i : Station) (f : Mu → Mu) : (s.modMu i f).pending = s.pending := rfl

/-! ### `modDhu` -/

@[simp] theorem State.station_modDhu_same (s : State) (i : Station) (f : Dhu → Dhu) :
    (s.modDhu i f).station i = { s.station i with dhu := f (s.station i).dhu } :=
  State.station_setStation_same s i _

theorem State.station_modDhu_ne (s : State) {i j : Station} (f : Dhu → Dhu) (h : j ≠ i) :
    (s.modDhu i f).station j = s.station j :=
  State.station_setStation_ne s _ h

theorem State.station_modDhu (s : State) (i j : Station) (f : Dhu → Dhu) :
    (s.modDhu i f).station j = if j = i then { s.station i with dhu := f (s.station i).dhu } else s.station j :=
  State.station_setStation s i j _

@[simp] theorem State.modDhu_lcc (s : State) (i j : Station) (f : Dhu → Dhu) :
    ((s.modDhu i f).station j).lcc = (s.station j).lcc := by
  rw [State.station_modDhu]; split <;> simp_all

@[simp] theorem State.modDhu_config (s : State) (i j : Station) (f : Dhu → Dhu) :
    ((s.modDhu i f).station j).config = (s.station j).config := by
  rw [State.station_modDhu]; split <;> simp_all

@[simp] theorem State.modDhu_mu (s : State) (i j : Station) (f : Dhu → Dhu) :
    ((s.modDhu i f).station j).mu = (s.station j).mu := by
  rw [State.station_modDhu]; split <;> simp_all

@[simp] theorem State.modDhu_lpu (s : State) (i j : Station) (f : Dhu → Dhu) :
    ((s.modDhu i f).station j).lpu = (s.station j).lpu := by
  rw [State.station_modDhu]; split <;> simp_all

@[simp] theorem State.modDhu_filters (s : State) (i j : Station) (f : Dhu → Dhu) :
    ((s.modDhu i f).station j).filters = (s.station j).filters := by
  rw [State.station_modDhu]; split <;> simp_all

@[simp] theorem State.modDhu_handed (s : State) (i j : Station) (f : Dhu → Dhu) :
    ((s.modDhu i f).station j).handed = (s.station j).handed := by
  rw [State.station_modDhu]; split <;> simp_all

@[simp] theorem State.modDhu_zoneFilter (s : State) (i : Station) (f : Dhu → Dhu) : (s.modDhu i f).zoneFilter = s.zoneFilter := rfl

@[simp] theorem State.modDhu_dsa (s : State) (i : Station) (f : Dhu → Dhu) : (s.modDhu i f).dsa = s.dsa := rfl

@[simp] theorem State.modDhu_profiles (s : State) (i : Station) (f : Dhu → Dhu) : (s.modDhu i f).profiles = s.profiles := rfl

@[simp] theorem State.modDhu_berth (s : State) (i : Station) (f : Dhu → Dhu) : (s.modDhu i f).berth = s.berth := rfl

@[simp] theorem State.modDhu_routing (s : State) (i : Station) (f : Dhu → Dhu) : (s.modDhu i f).routing = s.routing := rfl

@[simp] theorem State.modDhu_link (s : State) (i : Station) (f : Dhu → Dhu) : (s.modDhu i f).link = s.link := rfl

@[simp] theorem State.modDhu_watch (s : State) (i : Station) (f : Dhu → Dhu) : (s.modDhu i f).watch = s.watch := rfl

@[simp] theorem State.modDhu_counters (s : State) (i : Station) (f : Dhu → Dhu) : (s.modDhu i f).counters = s.counters := rfl

@[simp] theorem State.modDhu_timeBase (s : State) (i : Station) (f : Dhu → Dhu) : (s.modDhu i f).timeBase = s.timeBase := rfl

@[simp] theorem State.modDhu_berthTime (s : State) (i : Station) (f : Dhu → Dhu) : (s.modDhu i f).berthTime = s.berthTime := rfl

@[simp] theorem State.modDhu_berthMs (s : State) (i : Station) (f : Dhu → Dhu) : (s.modDhu i f).berthMs = s.berthMs := rfl

@[simp] theorem State.modDhu_windowMs (s : State) (i : Station) (f : Dhu → Dhu) : (s.modDhu i f).windowMs = s.windowMs := rfl

@[simp] theorem State.modDhu_pending (s : State) (i : Station) (f : Dhu → Dhu) : (s.modDhu i f).pending = s.pending := rfl

/-! ### `Dhu.passWindow` -/

@[simp] theorem Dhu.passWindow_phase (d : Dhu) : d.passWindow.phase = d.phase := rfl

@[simp] theorem Dhu.passWindow_demandDir (d : Dhu) : d.passWindow.demandDir = d.demandDir := rfl

@[simp] theorem Dhu.passWindow_demand (d : Dhu) : d.passWindow.demand = d.demand := rfl

@[simp] theorem Dhu.passWindow_target (d : Dhu) : d.passWindow.target = d.target := rfl

@[simp] theorem Dhu.passWindow_stopRequest (d : Dhu) : d.passWindow.stopRequest = d.stopRequest := rfl

@[simp] theorem Dhu.passWindow_timer (d : Dhu) : d.passWindow.timer = d.timer := rfl

@[simp] theorem Dhu.passWindow_stall (d : Dhu) : d.passWindow.stall = d.stall := rfl

@[simp] theorem Dhu.passWindow_pendingMotion (d : Dhu) : d.passWindow.pendingMotion = d.pendingMotion := rfl

@[simp] theorem Dhu.passWindow_zeroThroughout (d : Dhu) : d.passWindow.zeroThroughout = decide (d.demand = 0) := rfl

/-! ### `modLpu` -/

@[simp] theorem State.station_modLpu_same (s : State) (i : Station) (f : Lpu → Lpu) :
    (s.modLpu i f).station i = { s.station i with lpu := f (s.station i).lpu } :=
  State.station_setStation_same s i _

theorem State.station_modLpu_ne (s : State) {i j : Station} (f : Lpu → Lpu) (h : j ≠ i) :
    (s.modLpu i f).station j = s.station j :=
  State.station_setStation_ne s _ h

theorem State.station_modLpu (s : State) (i j : Station) (f : Lpu → Lpu) :
    (s.modLpu i f).station j = if j = i then { s.station i with lpu := f (s.station i).lpu } else s.station j :=
  State.station_setStation s i j _

@[simp] theorem State.modLpu_lcc (s : State) (i j : Station) (f : Lpu → Lpu) :
    ((s.modLpu i f).station j).lcc = (s.station j).lcc := by
  rw [State.station_modLpu]; split <;> simp_all

@[simp] theorem State.modLpu_config (s : State) (i j : Station) (f : Lpu → Lpu) :
    ((s.modLpu i f).station j).config = (s.station j).config := by
  rw [State.station_modLpu]; split <;> simp_all

@[simp] theorem State.modLpu_mu (s : State) (i j : Station) (f : Lpu → Lpu) :
    ((s.modLpu i f).station j).mu = (s.station j).mu := by
  rw [State.station_modLpu]; split <;> simp_all

@[simp] theorem State.modLpu_dhu (s : State) (i j : Station) (f : Lpu → Lpu) :
    ((s.modLpu i f).station j).dhu = (s.station j).dhu := by
  rw [State.station_modLpu]; split <;> simp_all

@[simp] theorem State.modLpu_filters (s : State) (i j : Station) (f : Lpu → Lpu) :
    ((s.modLpu i f).station j).filters = (s.station j).filters := by
  rw [State.station_modLpu]; split <;> simp_all

@[simp] theorem State.modLpu_handed (s : State) (i j : Station) (f : Lpu → Lpu) :
    ((s.modLpu i f).station j).handed = (s.station j).handed := by
  rw [State.station_modLpu]; split <;> simp_all

@[simp] theorem State.modLpu_zoneFilter (s : State) (i : Station) (f : Lpu → Lpu) : (s.modLpu i f).zoneFilter = s.zoneFilter := rfl

@[simp] theorem State.modLpu_dsa (s : State) (i : Station) (f : Lpu → Lpu) : (s.modLpu i f).dsa = s.dsa := rfl

@[simp] theorem State.modLpu_profiles (s : State) (i : Station) (f : Lpu → Lpu) : (s.modLpu i f).profiles = s.profiles := rfl

@[simp] theorem State.modLpu_berth (s : State) (i : Station) (f : Lpu → Lpu) : (s.modLpu i f).berth = s.berth := rfl

@[simp] theorem State.modLpu_routing (s : State) (i : Station) (f : Lpu → Lpu) : (s.modLpu i f).routing = s.routing := rfl

@[simp] theorem State.modLpu_link (s : State) (i : Station) (f : Lpu → Lpu) : (s.modLpu i f).link = s.link := rfl

@[simp] theorem State.modLpu_watch (s : State) (i : Station) (f : Lpu → Lpu) : (s.modLpu i f).watch = s.watch := rfl

@[simp] theorem State.modLpu_counters (s : State) (i : Station) (f : Lpu → Lpu) : (s.modLpu i f).counters = s.counters := rfl

@[simp] theorem State.modLpu_timeBase (s : State) (i : Station) (f : Lpu → Lpu) : (s.modLpu i f).timeBase = s.timeBase := rfl

@[simp] theorem State.modLpu_berthTime (s : State) (i : Station) (f : Lpu → Lpu) : (s.modLpu i f).berthTime = s.berthTime := rfl

@[simp] theorem State.modLpu_berthMs (s : State) (i : Station) (f : Lpu → Lpu) : (s.modLpu i f).berthMs = s.berthMs := rfl

@[simp] theorem State.modLpu_windowMs (s : State) (i : Station) (f : Lpu → Lpu) : (s.modLpu i f).windowMs = s.windowMs := rfl

@[simp] theorem State.modLpu_pending (s : State) (i : Station) (f : Lpu → Lpu) : (s.modLpu i f).pending = s.pending := rfl

/-! ### `modFilters` -/

@[simp] theorem State.station_modFilters_same (s : State) (i : Station) (f : Filters → Filters) :
    (s.modFilters i f).station i = { s.station i with filters := f (s.station i).filters } :=
  State.station_setStation_same s i _

theorem State.station_modFilters_ne (s : State) {i j : Station} (f : Filters → Filters) (h : j ≠ i) :
    (s.modFilters i f).station j = s.station j :=
  State.station_setStation_ne s _ h

theorem State.station_modFilters (s : State) (i j : Station) (f : Filters → Filters) :
    (s.modFilters i f).station j = if j = i then { s.station i with filters := f (s.station i).filters } else s.station j :=
  State.station_setStation s i j _

@[simp] theorem State.modFilters_lcc (s : State) (i j : Station) (f : Filters → Filters) :
    ((s.modFilters i f).station j).lcc = (s.station j).lcc := by
  rw [State.station_modFilters]; split <;> simp_all

@[simp] theorem State.modFilters_config (s : State) (i j : Station) (f : Filters → Filters) :
    ((s.modFilters i f).station j).config = (s.station j).config := by
  rw [State.station_modFilters]; split <;> simp_all

@[simp] theorem State.modFilters_mu (s : State) (i j : Station) (f : Filters → Filters) :
    ((s.modFilters i f).station j).mu = (s.station j).mu := by
  rw [State.station_modFilters]; split <;> simp_all

@[simp] theorem State.modFilters_dhu (s : State) (i j : Station) (f : Filters → Filters) :
    ((s.modFilters i f).station j).dhu = (s.station j).dhu := by
  rw [State.station_modFilters]; split <;> simp_all

@[simp] theorem State.modFilters_lpu (s : State) (i j : Station) (f : Filters → Filters) :
    ((s.modFilters i f).station j).lpu = (s.station j).lpu := by
  rw [State.station_modFilters]; split <;> simp_all

@[simp] theorem State.modFilters_handed (s : State) (i j : Station) (f : Filters → Filters) :
    ((s.modFilters i f).station j).handed = (s.station j).handed := by
  rw [State.station_modFilters]; split <;> simp_all

@[simp] theorem State.modFilters_zoneFilter (s : State) (i : Station) (f : Filters → Filters) : (s.modFilters i f).zoneFilter = s.zoneFilter := rfl

@[simp] theorem State.modFilters_dsa (s : State) (i : Station) (f : Filters → Filters) : (s.modFilters i f).dsa = s.dsa := rfl

@[simp] theorem State.modFilters_profiles (s : State) (i : Station) (f : Filters → Filters) : (s.modFilters i f).profiles = s.profiles := rfl

@[simp] theorem State.modFilters_berth (s : State) (i : Station) (f : Filters → Filters) : (s.modFilters i f).berth = s.berth := rfl

@[simp] theorem State.modFilters_routing (s : State) (i : Station) (f : Filters → Filters) : (s.modFilters i f).routing = s.routing := rfl

@[simp] theorem State.modFilters_link (s : State) (i : Station) (f : Filters → Filters) : (s.modFilters i f).link = s.link := rfl

@[simp] theorem State.modFilters_watch (s : State) (i : Station) (f : Filters → Filters) : (s.modFilters i f).watch = s.watch := rfl

@[simp] theorem State.modFilters_counters (s : State) (i : Station) (f : Filters → Filters) : (s.modFilters i f).counters = s.counters := rfl

@[simp] theorem State.modFilters_timeBase (s : State) (i : Station) (f : Filters → Filters) : (s.modFilters i f).timeBase = s.timeBase := rfl

@[simp] theorem State.modFilters_berthTime (s : State) (i : Station) (f : Filters → Filters) : (s.modFilters i f).berthTime = s.berthTime := rfl

@[simp] theorem State.modFilters_berthMs (s : State) (i : Station) (f : Filters → Filters) : (s.modFilters i f).berthMs = s.berthMs := rfl

@[simp] theorem State.modFilters_windowMs (s : State) (i : Station) (f : Filters → Filters) : (s.modFilters i f).windowMs = s.windowMs := rfl

@[simp] theorem State.modFilters_pending (s : State) (i : Station) (f : Filters → Filters) : (s.modFilters i f).pending = s.pending := rfl

/-! ### `modHanded` -/

@[simp] theorem State.station_modHanded_same (s : State) (i : Station) (f : List FaultKind → List FaultKind) :
    (s.modHanded i f).station i = { s.station i with handed := f (s.station i).handed } :=
  State.station_setStation_same s i _

theorem State.station_modHanded_ne (s : State) {i j : Station} (f : List FaultKind → List FaultKind) (h : j ≠ i) :
    (s.modHanded i f).station j = s.station j :=
  State.station_setStation_ne s _ h

theorem State.station_modHanded (s : State) (i j : Station) (f : List FaultKind → List FaultKind) :
    (s.modHanded i f).station j =
      if j = i then { s.station i with handed := f (s.station i).handed } else s.station j :=
  State.station_setStation s i j _

@[simp] theorem State.modHanded_lcc (s : State) (i j : Station) (f : List FaultKind → List FaultKind) :
    ((s.modHanded i f).station j).lcc = (s.station j).lcc := by
  rw [State.station_modHanded]; split <;> simp_all

@[simp] theorem State.modHanded_config (s : State) (i j : Station) (f : List FaultKind → List FaultKind) :
    ((s.modHanded i f).station j).config = (s.station j).config := by
  rw [State.station_modHanded]; split <;> simp_all

@[simp] theorem State.modHanded_mu (s : State) (i j : Station) (f : List FaultKind → List FaultKind) :
    ((s.modHanded i f).station j).mu = (s.station j).mu := by
  rw [State.station_modHanded]; split <;> simp_all

@[simp] theorem State.modHanded_dhu (s : State) (i j : Station) (f : List FaultKind → List FaultKind) :
    ((s.modHanded i f).station j).dhu = (s.station j).dhu := by
  rw [State.station_modHanded]; split <;> simp_all

@[simp] theorem State.modHanded_lpu (s : State) (i j : Station) (f : List FaultKind → List FaultKind) :
    ((s.modHanded i f).station j).lpu = (s.station j).lpu := by
  rw [State.station_modHanded]; split <;> simp_all

@[simp] theorem State.modHanded_filters (s : State) (i j : Station) (f : List FaultKind → List FaultKind) :
    ((s.modHanded i f).station j).filters = (s.station j).filters := by
  rw [State.station_modHanded]; split <;> simp_all

@[simp] theorem State.modHanded_zoneFilter (s : State) (i : Station) (f : List FaultKind → List FaultKind) :
    (s.modHanded i f).zoneFilter = s.zoneFilter := rfl

@[simp] theorem State.modHanded_dsa (s : State) (i : Station) (f : List FaultKind → List FaultKind) :
    (s.modHanded i f).dsa = s.dsa := rfl

@[simp] theorem State.modHanded_profiles (s : State) (i : Station) (f : List FaultKind → List FaultKind) :
    (s.modHanded i f).profiles = s.profiles := rfl

@[simp] theorem State.modHanded_berth (s : State) (i : Station) (f : List FaultKind → List FaultKind) :
    (s.modHanded i f).berth = s.berth := rfl

@[simp] theorem State.modHanded_routing (s : State) (i : Station) (f : List FaultKind → List FaultKind) :
    (s.modHanded i f).routing = s.routing := rfl

@[simp] theorem State.modHanded_link (s : State) (i : Station) (f : List FaultKind → List FaultKind) :
    (s.modHanded i f).link = s.link := rfl

@[simp] theorem State.modHanded_watch (s : State) (i : Station) (f : List FaultKind → List FaultKind) :
    (s.modHanded i f).watch = s.watch := rfl

@[simp] theorem State.modHanded_counters (s : State) (i : Station) (f : List FaultKind → List FaultKind) :
    (s.modHanded i f).counters = s.counters := rfl

@[simp] theorem State.modHanded_timeBase (s : State) (i : Station) (f : List FaultKind → List FaultKind) :
    (s.modHanded i f).timeBase = s.timeBase := rfl

@[simp] theorem State.modHanded_berthTime (s : State) (i : Station) (f : List FaultKind → List FaultKind) :
    (s.modHanded i f).berthTime = s.berthTime := rfl

@[simp] theorem State.modHanded_berthMs (s : State) (i : Station) (f : List FaultKind → List FaultKind) :
    (s.modHanded i f).berthMs = s.berthMs := rfl

@[simp] theorem State.modHanded_windowMs (s : State) (i : Station) (f : List FaultKind → List FaultKind) :
    (s.modHanded i f).windowMs = s.windowMs := rfl

@[simp] theorem State.modHanded_pending (s : State) (i : Station) (f : List FaultKind → List FaultKind) :
    (s.modHanded i f).pending = s.pending := rfl

/-! ### `setConfig` -/

@[simp] theorem State.station_setConfig_same (s : State) (i : Station) (c : Option StationConfig) :
    (s.setConfig i c).station i = { s.station i with config := c } :=
  State.station_setStation_same s i _

theorem State.station_setConfig_ne (s : State) {i j : Station} (c : Option StationConfig) (h : j ≠ i) :
    (s.setConfig i c).station j = s.station j :=
  State.station_setStation_ne s _ h

theorem State.station_setConfig (s : State) (i j : Station) (c : Option StationConfig) :
    (s.setConfig i c).station j = if j = i then { s.station i with config := c } else s.station j :=
  State.station_setStation s i j _

@[simp] theorem State.setConfig_lcc (s : State) (i j : Station) (c : Option StationConfig) :
    ((s.setConfig i c).station j).lcc = (s.station j).lcc := by
  rw [State.station_setConfig]; split <;> simp_all

@[simp] theorem State.setConfig_mu (s : State) (i j : Station) (c : Option StationConfig) :
    ((s.setConfig i c).station j).mu = (s.station j).mu := by
  rw [State.station_setConfig]; split <;> simp_all

@[simp] theorem State.setConfig_dhu (s : State) (i j : Station) (c : Option StationConfig) :
    ((s.setConfig i c).station j).dhu = (s.station j).dhu := by
  rw [State.station_setConfig]; split <;> simp_all

@[simp] theorem State.setConfig_lpu (s : State) (i j : Station) (c : Option StationConfig) :
    ((s.setConfig i c).station j).lpu = (s.station j).lpu := by
  rw [State.station_setConfig]; split <;> simp_all

@[simp] theorem State.setConfig_filters (s : State) (i j : Station) (c : Option StationConfig) :
    ((s.setConfig i c).station j).filters = (s.station j).filters := by
  rw [State.station_setConfig]; split <;> simp_all

@[simp] theorem State.setConfig_handed (s : State) (i j : Station) (c : Option StationConfig) :
    ((s.setConfig i c).station j).handed = (s.station j).handed := by
  rw [State.station_setConfig]; split <;> simp_all

@[simp] theorem State.setConfig_zoneFilter (s : State) (i : Station) (c : Option StationConfig) :
    (s.setConfig i c).zoneFilter = s.zoneFilter := rfl

@[simp] theorem State.setConfig_dsa (s : State) (i : Station) (c : Option StationConfig) :
    (s.setConfig i c).dsa = s.dsa := rfl

@[simp] theorem State.setConfig_profiles (s : State) (i : Station) (c : Option StationConfig) :
    (s.setConfig i c).profiles = s.profiles := rfl

@[simp] theorem State.setConfig_berth (s : State) (i : Station) (c : Option StationConfig) :
    (s.setConfig i c).berth = s.berth := rfl

@[simp] theorem State.setConfig_routing (s : State) (i : Station) (c : Option StationConfig) :
    (s.setConfig i c).routing = s.routing := rfl

@[simp] theorem State.setConfig_link (s : State) (i : Station) (c : Option StationConfig) :
    (s.setConfig i c).link = s.link := rfl

@[simp] theorem State.setConfig_watch (s : State) (i : Station) (c : Option StationConfig) :
    (s.setConfig i c).watch = s.watch := rfl

@[simp] theorem State.setConfig_counters (s : State) (i : Station) (c : Option StationConfig) :
    (s.setConfig i c).counters = s.counters := rfl

@[simp] theorem State.setConfig_timeBase (s : State) (i : Station) (c : Option StationConfig) :
    (s.setConfig i c).timeBase = s.timeBase := rfl

@[simp] theorem State.setConfig_berthTime (s : State) (i : Station) (c : Option StationConfig) :
    (s.setConfig i c).berthTime = s.berthTime := rfl

@[simp] theorem State.setConfig_berthMs (s : State) (i : Station) (c : Option StationConfig) :
    (s.setConfig i c).berthMs = s.berthMs := rfl

@[simp] theorem State.setConfig_windowMs (s : State) (i : Station) (c : Option StationConfig) :
    (s.setConfig i c).windowMs = s.windowMs := rfl

@[simp] theorem State.setConfig_pending (s : State) (i : Station) (c : Option StationConfig) :
    (s.setConfig i c).pending = s.pending := rfl

/-! ### `modDsa` -/

@[simp] theorem State.modDsa_station (s : State) (i : Station) (f : Dsa → Dsa) : (s.modDsa f).station i = s.station i := rfl

@[simp] theorem State.modDsa_stations (s : State) (f : Dsa → Dsa) : (s.modDsa f).stations = s.stations := rfl

@[simp] theorem State.modDsa_zoneFilter (s : State) (f : Dsa → Dsa) : (s.modDsa f).zoneFilter = s.zoneFilter := rfl

@[simp] theorem State.modDsa_dsa (s : State) (f : Dsa → Dsa) : (s.modDsa f).dsa = f s.dsa := rfl

@[simp] theorem State.modDsa_profiles (s : State) (f : Dsa → Dsa) : (s.modDsa f).profiles = s.profiles := rfl

@[simp] theorem State.modDsa_berth (s : State) (f : Dsa → Dsa) : (s.modDsa f).berth = s.berth := rfl

@[simp] theorem State.modDsa_routing (s : State) (f : Dsa → Dsa) : (s.modDsa f).routing = s.routing := rfl

@[simp] theorem State.modDsa_link (s : State) (f : Dsa → Dsa) : (s.modDsa f).link = s.link := rfl

@[simp] theorem State.modDsa_watch (s : State) (f : Dsa → Dsa) : (s.modDsa f).watch = s.watch := rfl

@[simp] theorem State.modDsa_counters (s : State) (f : Dsa → Dsa) : (s.modDsa f).counters = s.counters := rfl

@[simp] theorem State.modDsa_timeBase (s : State) (f : Dsa → Dsa) : (s.modDsa f).timeBase = s.timeBase := rfl

@[simp] theorem State.modDsa_berthTime (s : State) (f : Dsa → Dsa) : (s.modDsa f).berthTime = s.berthTime := rfl

@[simp] theorem State.modDsa_berthMs (s : State) (f : Dsa → Dsa) : (s.modDsa f).berthMs = s.berthMs := rfl

@[simp] theorem State.modDsa_windowMs (s : State) (f : Dsa → Dsa) : (s.modDsa f).windowMs = s.windowMs := rfl

@[simp] theorem State.modDsa_pending (s : State) (f : Dsa → Dsa) : (s.modDsa f).pending = s.pending := rfl

/-! ### `modLink` -/

@[simp] theorem State.modLink_station (s : State) (i : Station) (f : Link → Link) : (s.modLink f).station i = s.station i := rfl

@[simp] theorem State.modLink_stations (s : State) (f : Link → Link) : (s.modLink f).stations = s.stations := rfl

@[simp] theorem State.modLink_zoneFilter (s : State) (f : Link → Link) : (s.modLink f).zoneFilter = s.zoneFilter := rfl

@[simp] theorem State.modLink_dsa (s : State) (f : Link → Link) : (s.modLink f).dsa = s.dsa := rfl

@[simp] theorem State.modLink_profiles (s : State) (f : Link → Link) : (s.modLink f).profiles = s.profiles := rfl

@[simp] theorem State.modLink_berth (s : State) (f : Link → Link) : (s.modLink f).berth = s.berth := rfl

@[simp] theorem State.modLink_routing (s : State) (f : Link → Link) : (s.modLink f).routing = s.routing := rfl

@[simp] theorem State.modLink_link (s : State) (f : Link → Link) : (s.modLink f).link = f s.link := rfl

@[simp] theorem State.modLink_watch (s : State) (f : Link → Link) : (s.modLink f).watch = s.watch := rfl

@[simp] theorem State.modLink_counters (s : State) (f : Link → Link) : (s.modLink f).counters = s.counters := rfl

@[simp] theorem State.modLink_timeBase (s : State) (f : Link → Link) : (s.modLink f).timeBase = s.timeBase := rfl

@[simp] theorem State.modLink_berthTime (s : State) (f : Link → Link) : (s.modLink f).berthTime = s.berthTime := rfl

@[simp] theorem State.modLink_berthMs (s : State) (f : Link → Link) : (s.modLink f).berthMs = s.berthMs := rfl

@[simp] theorem State.modLink_windowMs (s : State) (f : Link → Link) : (s.modLink f).windowMs = s.windowMs := rfl

@[simp] theorem State.modLink_pending (s : State) (f : Link → Link) : (s.modLink f).pending = s.pending := rfl

/-! ### `modWatch` -/

@[simp] theorem State.modWatch_station (s : State) (i : Station) (f : LinkWatch → LinkWatch) : (s.modWatch f).station i = s.station i := rfl

@[simp] theorem State.modWatch_stations (s : State) (f : LinkWatch → LinkWatch) : (s.modWatch f).stations = s.stations := rfl

@[simp] theorem State.modWatch_zoneFilter (s : State) (f : LinkWatch → LinkWatch) : (s.modWatch f).zoneFilter = s.zoneFilter := rfl

@[simp] theorem State.modWatch_dsa (s : State) (f : LinkWatch → LinkWatch) : (s.modWatch f).dsa = s.dsa := rfl

@[simp] theorem State.modWatch_profiles (s : State) (f : LinkWatch → LinkWatch) : (s.modWatch f).profiles = s.profiles := rfl

@[simp] theorem State.modWatch_berth (s : State) (f : LinkWatch → LinkWatch) : (s.modWatch f).berth = s.berth := rfl

@[simp] theorem State.modWatch_routing (s : State) (f : LinkWatch → LinkWatch) : (s.modWatch f).routing = s.routing := rfl

@[simp] theorem State.modWatch_link (s : State) (f : LinkWatch → LinkWatch) : (s.modWatch f).link = s.link := rfl

@[simp] theorem State.modWatch_watch (s : State) (f : LinkWatch → LinkWatch) : (s.modWatch f).watch = f s.watch := rfl

@[simp] theorem State.modWatch_counters (s : State) (f : LinkWatch → LinkWatch) : (s.modWatch f).counters = s.counters := rfl

@[simp] theorem State.modWatch_timeBase (s : State) (f : LinkWatch → LinkWatch) : (s.modWatch f).timeBase = s.timeBase := rfl

@[simp] theorem State.modWatch_berthTime (s : State) (f : LinkWatch → LinkWatch) : (s.modWatch f).berthTime = s.berthTime := rfl

@[simp] theorem State.modWatch_berthMs (s : State) (f : LinkWatch → LinkWatch) : (s.modWatch f).berthMs = s.berthMs := rfl

@[simp] theorem State.modWatch_windowMs (s : State) (f : LinkWatch → LinkWatch) : (s.modWatch f).windowMs = s.windowMs := rfl

@[simp] theorem State.modWatch_pending (s : State) (f : LinkWatch → LinkWatch) : (s.modWatch f).pending = s.pending := rfl

/-! ### `modCounter` -/

@[simp] theorem State.modCounter_station (s : State) (n : CounterNo) (i : Station) (f : Counter → Counter) :
    (s.modCounter n f).station i = s.station i := rfl

@[simp] theorem State.modCounter_stations (s : State) (n : CounterNo) (f : Counter → Counter) :
    (s.modCounter n f).stations = s.stations := rfl

@[simp] theorem State.modCounter_zoneFilter (s : State) (n : CounterNo) (f : Counter → Counter) :
    (s.modCounter n f).zoneFilter = s.zoneFilter := rfl

@[simp] theorem State.modCounter_dsa (s : State) (n : CounterNo) (f : Counter → Counter) :
    (s.modCounter n f).dsa = s.dsa := rfl

@[simp] theorem State.modCounter_profiles (s : State) (n : CounterNo) (f : Counter → Counter) :
    (s.modCounter n f).profiles = s.profiles := rfl

@[simp] theorem State.modCounter_berth (s : State) (n : CounterNo) (f : Counter → Counter) :
    (s.modCounter n f).berth = s.berth := rfl

@[simp] theorem State.modCounter_routing (s : State) (n : CounterNo) (f : Counter → Counter) :
    (s.modCounter n f).routing = s.routing := rfl

@[simp] theorem State.modCounter_link (s : State) (n : CounterNo) (f : Counter → Counter) :
    (s.modCounter n f).link = s.link := rfl

@[simp] theorem State.modCounter_watch (s : State) (n : CounterNo) (f : Counter → Counter) :
    (s.modCounter n f).watch = s.watch := rfl

@[simp] theorem State.modCounter_timeBase (s : State) (n : CounterNo) (f : Counter → Counter) :
    (s.modCounter n f).timeBase = s.timeBase := rfl

@[simp] theorem State.modCounter_berthTime (s : State) (n : CounterNo) (f : Counter → Counter) :
    (s.modCounter n f).berthTime = s.berthTime := rfl

@[simp] theorem State.modCounter_berthMs (s : State) (n : CounterNo) (f : Counter → Counter) :
    (s.modCounter n f).berthMs = s.berthMs := rfl

@[simp] theorem State.modCounter_windowMs (s : State) (n : CounterNo) (f : Counter → Counter) :
    (s.modCounter n f).windowMs = s.windowMs := rfl

@[simp] theorem State.modCounter_pending (s : State) (n : CounterNo) (f : Counter → Counter) :
    (s.modCounter n f).pending = s.pending := rfl

theorem State.modCounter_counter (s : State) (n m : CounterNo) (f : Counter → Counter) :
    (s.modCounter n f).counters.get m = if m = n then f (s.counters.get n) else s.counters.get m := by
  simp [State.modCounter, vector_get_set]

@[simp] theorem State.modCounter_counter_same (s : State) (n : CounterNo) (f : Counter → Counter) :
    (s.modCounter n f).counters.get n = f (s.counters.get n) := by
  simp [State.modCounter_counter]

/-! ### `makePending` -/

@[simp] theorem State.makePending_station (s : State) (e : ReportEntry) (i : Station) :
    (s.makePending e).station i = s.station i := rfl

@[simp] theorem State.makePending_stations (s : State) (e : ReportEntry) : (s.makePending e).stations = s.stations := rfl

@[simp] theorem State.makePending_zoneFilter (s : State) (e : ReportEntry) : (s.makePending e).zoneFilter = s.zoneFilter := rfl

@[simp] theorem State.makePending_dsa (s : State) (e : ReportEntry) : (s.makePending e).dsa = s.dsa := rfl

@[simp] theorem State.makePending_profiles (s : State) (e : ReportEntry) : (s.makePending e).profiles = s.profiles := rfl

@[simp] theorem State.makePending_berth (s : State) (e : ReportEntry) : (s.makePending e).berth = s.berth := rfl

@[simp] theorem State.makePending_routing (s : State) (e : ReportEntry) : (s.makePending e).routing = s.routing := rfl

@[simp] theorem State.makePending_watch (s : State) (e : ReportEntry) : (s.makePending e).watch = s.watch := rfl

@[simp] theorem State.makePending_counters (s : State) (e : ReportEntry) : (s.makePending e).counters = s.counters := rfl

@[simp] theorem State.makePending_timeBase (s : State) (e : ReportEntry) : (s.makePending e).timeBase = s.timeBase := rfl

@[simp] theorem State.makePending_berthTime (s : State) (e : ReportEntry) : (s.makePending e).berthTime = s.berthTime := rfl

@[simp] theorem State.makePending_berthMs (s : State) (e : ReportEntry) : (s.makePending e).berthMs = s.berthMs := rfl

@[simp] theorem State.makePending_windowMs (s : State) (e : ReportEntry) : (s.makePending e).windowMs = s.windowMs := rfl

@[simp] theorem State.makePending_pending (s : State) (e : ReportEntry) : (s.makePending e).pending = s.pending := rfl

@[simp] theorem State.makePending_link (s : State) (e : ReportEntry) :
    (s.makePending e).link = { s.link with reports := pendReport e s.link.reports } := rfl

@[simp] theorem State.reportStation_station (s : State) (i j : Station) :
    (s.reportStation i).station j = s.station j := rfl

@[simp] theorem State.reportStation_stations (s : State) (i : Station) : (s.reportStation i).stations = s.stations := rfl

@[simp] theorem State.reportStation_zoneFilter (s : State) (i : Station) : (s.reportStation i).zoneFilter = s.zoneFilter := rfl

@[simp] theorem State.reportStation_dsa (s : State) (i : Station) : (s.reportStation i).dsa = s.dsa := rfl

@[simp] theorem State.reportStation_profiles (s : State) (i : Station) : (s.reportStation i).profiles = s.profiles := rfl

@[simp] theorem State.reportStation_berth (s : State) (i : Station) : (s.reportStation i).berth = s.berth := rfl

@[simp] theorem State.reportStation_routing (s : State) (i : Station) : (s.reportStation i).routing = s.routing := rfl

@[simp] theorem State.reportStation_watch (s : State) (i : Station) : (s.reportStation i).watch = s.watch := rfl

@[simp] theorem State.reportStation_counters (s : State) (i : Station) : (s.reportStation i).counters = s.counters := rfl

@[simp] theorem State.reportStation_timeBase (s : State) (i : Station) : (s.reportStation i).timeBase = s.timeBase := rfl

@[simp] theorem State.reportStation_berthTime (s : State) (i : Station) : (s.reportStation i).berthTime = s.berthTime := rfl

@[simp] theorem State.reportStation_berthMs (s : State) (i : Station) : (s.reportStation i).berthMs = s.berthMs := rfl

@[simp] theorem State.reportStation_windowMs (s : State) (i : Station) : (s.reportStation i).windowMs = s.windowMs := rfl

@[simp] theorem State.reportStation_pending (s : State) (i : Station) : (s.reportStation i).pending = s.pending := rfl

@[simp] theorem State.reportStation_link (s : State) (i : Station) :
    (s.reportStation i).link = { s.link with reports := pendReport (.station i) s.link.reports } := rfl

end Sys2Proof.Machine
end

