-- ==== Sys2Proof/Laws/Reports.lean ====
section
/-!
SUPPORT. The Report Queue and the Duty Counters: making a report pending keeps the keys apart and adds at most one entry,
and an occurrence touches nothing but counter values, edge memories and reports.
-/
namespace Sys2Proof.Machine

/-! ### The Report Queue -/

theorem ReportEntry.sameKey_comm (a b : ReportEntry) : a.sameKey b = b.sameKey a := by
  cases a <;> cases b <;> simp [ReportEntry.sameKey, eq_comm]

theorem ReportEntry.sameKey_trans {a b c : ReportEntry} (h : a.sameKey b = true) : a.sameKey c = b.sameKey c := by
  cases a <;> cases b <;> cases c <;> simp_all [ReportEntry.sameKey]

/-- What stands in the queue after a report is made pending is the report or stood there before. -/
theorem mem_pendReport {e x : ReportEntry} {l : List ReportEntry} (h : x ∈ pendReport e l) : x = e ∨ x ∈ l := by
  induction l with
  | nil => simpa [pendReport] using h
  | cons y l ih =>
    by_cases k : y.sameKey e = true
    · simp only [pendReport, if_pos k, List.mem_cons] at h ⊢
      tauto
    · simp only [pendReport, k, Bool.false_eq_true, if_false, List.mem_cons] at h ⊢
      rcases h with h | h
      · exact Or.inr (Or.inl h)
      · rcases ih h with h | h <;> tauto

/-- The report is in the queue after it is made pending (R182). -/
theorem pendReport_mem (e : ReportEntry) (l : List ReportEntry) : e ∈ pendReport e l := by
  induction l with
  | nil => simp [pendReport]
  | cons y l ih => by_cases k : y.sameKey e = true <;> simp [pendReport, k, ih]

/-- A STATION report keeps every pending entry in its place (R182). -/
theorem prefix_pendReport_station (i : Station) : ∀ l : List ReportEntry, l <+: pendReport (.station i) l
  | [] => List.nil_prefix
  | x :: rest => by
    unfold pendReport
    split
    · next h =>
      cases x <;> simp_all [ReportEntry.sameKey]
    · exact List.cons_prefix_cons.mpr ⟨rfl, prefix_pendReport_station i rest⟩

/-- Making a report pending keeps the keys of the queue distinct (R182). -/
theorem distinctKeys_pendReport {e : ReportEntry} {l : List ReportEntry} (h : distinctKeys l) :
    distinctKeys (pendReport e l) := by
  induction l with
  | nil => simp [pendReport, distinctKeys]
  | cons y l ih =>
    have h' := List.pairwise_cons.mp h
    by_cases k : y.sameKey e = true
    · simp only [pendReport, if_pos k]
      exact List.pairwise_cons.mpr ⟨fun x hx => by rw [← ReportEntry.sameKey_trans k]; exact h'.1 x hx, h'.2⟩
    · simp only [pendReport, k, Bool.false_eq_true, if_false]
      refine List.pairwise_cons.mpr ⟨fun x hx => ?_, ih h'.2⟩
      rcases mem_pendReport hx with rfl | hx
      · simpa using k
      · exact h'.1 x hx

/-! ### Occurrences -/

/-- Two states differ at most in counter values, edge memories and the Report Queue. -/
structure CountsOnly (s t : State) : Prop where
  eq : t = { s with counters := t.counters, link := { s.link with reports := t.link.reports } }
  counters : ∀ n : CounterNo, t.counters.get n =
    { s.counters.get n with value := (t.counters.get n).value, memory := (t.counters.get n).memory }
  keys : distinctKeys s.link.reports → distinctKeys t.link.reports

theorem CountsOnly.refl (s : State) : CountsOnly s s := ⟨rfl, fun _ => rfl, id⟩

theorem CountsOnly.trans {s t u : State} (h : CountsOnly s t) (k : CountsOnly t u) : CountsOnly s u := by
  refine ⟨?_, fun n => ?_, fun d => k.keys (h.keys d)⟩
  · have e := k.eq
    rw [h.eq] at e
    exact e
  · have e := k.counters n
    rw [h.counters n] at e
    exact e

theorem CountsOnly.station {s t : State} (h : CountsOnly s t) (i : Station) : t.station i = s.station i := by
  rw [h.eq]; rfl

theorem CountsOnly.makePending (s : State) (e : ReportEntry) : CountsOnly s (s.makePending e) :=
  ⟨rfl, fun _ => rfl, distinctKeys_pendReport⟩

/-- An update of one counter that keeps its configuration. -/
theorem CountsOnly.modCounter (s : State) (n : CounterNo) (f : Counter → Counter)
    (hf : ∀ c : Counter, f c = { c with value := (f c).value, memory := (f c).memory }) :
    CountsOnly s (s.modCounter n f) := by
  refine ⟨rfl, fun m => ?_, id⟩
  rw [State.modCounter_counter]
  by_cases h : m = n
  · subst h; rw [if_pos rfl]; exact hf _
  · rw [if_neg h]

theorem CountsOnly.bump (s : State) (n : CounterNo) : CountsOnly s (s.bump n) := by
  have h := CountsOnly.modCounter s n (fun c => { c with value := c.value + 1 }) fun _ => rfl
  dsimp only [State.bump]
  split
  · exact h.trans (CountsOnly.makePending _ _)
  · exact h

theorem CountsOnly.offer (s : State) (n : CounterNo) (kind : CounterKind) (i : Station) :
    CountsOnly s (s.offer n kind i) := by
  unfold State.offer
  split
  · exact CountsOnly.bump s n
  · exact CountsOnly.refl s

theorem CountsOnly.offerSample (s : State) (n : CounterNo) (i : Station) (tension : Nat) :
    CountsOnly s (s.offerSample n i tension) := by
  dsimp only [State.offerSample]
  split
  · refine CountsOnly.trans ?_ (CountsOnly.modCounter _ n _ fun _ => rfl)
    split
    · exact CountsOnly.bump s n
    · exact CountsOnly.refl s
  · exact CountsOnly.refl s

/-- Work through the counters keeps what each step keeps. -/
theorem CountsOnly.foldl {α : Type} (f : State → α → State) (h : ∀ s a, CountsOnly s (f s a)) (l : List α) :
    ∀ s : State, CountsOnly s (l.foldl f s) := by
  induction l with
  | nil => exact CountsOnly.refl
  | cons a l ih => exact fun s => (h s a).trans (ih _)

/-- An occurrence touches counters and reports only (R196, R204). -/
theorem CountsOnly.occurrence (s : State) (kind : CounterKind) (i : Station) : CountsOnly s (s.occurrence kind i) :=
  CountsOnly.foldl _ (fun s n => CountsOnly.offer s n kind i) _ s

/-- A sample offered to the counters touches counters and reports only (R196). -/
theorem CountsOnly.sampleOccurrence (s : State) (i : Station) (tension : Nat) :
    CountsOnly s (s.sampleOccurrence i tension) :=
  CountsOnly.foldl _ (fun s n => CountsOnly.offerSample s n i tension) _ s

/-- Forgetting a station's edge memories touches counters only (R198). -/
theorem CountsOnly.forgetEdges (s : State) (i : Station) : CountsOnly s (s.forgetEdges i) :=
  CountsOnly.foldl _ (fun s n => CountsOnly.modCounter s n _ fun _ => rfl) _ s

/-- Counter work at WAIT_TIME touches counters and reports only (R199). -/
theorem CountsOnly.countWaiting (s : State) : CountsOnly s (countWaiting s) :=
  CountsOnly.foldl _ (fun s _ => CountsOnly.occurrence s _ _) _ s

theorem CountsOnly.berth {s t : State} (h : CountsOnly s t) : BerthKept s t := by
  have e := h.eq
  constructor <;> first | exact h.counters | (rw [e])

theorem CountsOnly.link {s t : State} (h : CountsOnly s t) : LinkKept s t := by
  have e := congrArg State.link h.eq
  exact e

theorem CountsOnly.dsa {s t : State} (h : CountsOnly s t) : t.dsa = s.dsa := by rw [h.eq]

end Sys2Proof.Machine
end

