-- ==== Sys2Proof/Laws/Drive.lean ====
section
/-!
SUPPORT. The Drive Handover Units and the Drive Slot Arbiter touch the drives, the slots, the counters and the reports
only: one frame lemma for each of their operations, and what presenting and withdrawing a need does to its own station;
and what a grant, a resumed handover and a normal stop make of a DHU.
-/
namespace Sys2Proof.Machine

/-! ### The frame as a relation -/

theorem StationState.SameButDrive.refl (a : StationState) : a.SameButDrive a := ⟨rfl, rfl, rfl, rfl, rfl, rfl⟩

theorem StationState.SameButDrive.trans {a b c : StationState} (h : a.SameButDrive b) (k : b.SameButDrive c) :
    a.SameButDrive c := by
  refine ⟨k.lcc.trans h.lcc, k.config.trans h.config, k.lpu.trans h.lpu, k.filters.trans h.filters, k.handed.trans h.handed, ?_⟩
  have e := k.mu
  rw [h.mu] at e
  exact e

theorem BerthKept.refl (s : State) : BerthKept s s := by
  constructor <;> first | rfl | (intro n; rfl)

theorem BerthKept.trans {s t u : State} (h : BerthKept s t) (k : BerthKept t u) : BerthKept s u where
  zoneFilter := k.zoneFilter.trans h.zoneFilter
  slots := k.slots.trans h.slots
  profiles := k.profiles.trans h.profiles
  berth := k.berth.trans h.berth
  routing := k.routing.trans h.routing
  watch := k.watch.trans h.watch
  counters n := by
    have e := k.counters n
    rw [h.counters n] at e
    exact e
  timeBase := k.timeBase.trans h.timeBase
  berthTime := k.berthTime.trans h.berthTime
  berthMs := k.berthMs.trans h.berthMs
  windowMs := k.windowMs.trans h.windowMs
  pending := k.pending.trans h.pending

theorem LinkKept.refl (s : State) : LinkKept s s := rfl

theorem LinkKept.trans {s t u : State} (h : LinkKept s t) (k : LinkKept t u) : LinkKept s u := by
  unfold LinkKept at *
  rw [h] at k
  exact k

theorem DriveOnly.refl (s : State) : DriveOnly s s :=
  ⟨fun _ => StationState.SameButDrive.refl _, BerthKept.refl s, LinkKept.refl s⟩

theorem DriveOnly.trans {s t u : State} (h : DriveOnly s t) (k : DriveOnly t u) : DriveOnly s u :=
  ⟨fun j => (h.stations j).trans (k.stations j), h.berth.trans k.berth, h.link.trans k.link⟩

theorem CountsOnly.driveOnly {s t : State} (h : CountsOnly s t) : DriveOnly s t :=
  ⟨fun j => by rw [h.station j]; exact StationState.SameButDrive.refl _, h.berth, h.link⟩

/-- An update of one station that keeps all but its drive. -/
theorem DriveOnly.setStation (s : State) (i : Station) (t : StationState) (h : (s.station i).SameButDrive t) :
    DriveOnly s (s.setStation i t) := by
  refine ⟨fun j => ?_, ?_, rfl⟩
  · rw [State.station_setStation]
    split
    · next e => rw [e]; exact h
    · exact StationState.SameButDrive.refl _
  · constructor <;> first | rfl | (intro n; rfl)

theorem DriveOnly.modDhu (s : State) (i : Station) (f : Dhu → Dhu) : DriveOnly s (s.modDhu i f) :=
  DriveOnly.setStation s i _ ⟨rfl, rfl, rfl, rfl, rfl, rfl⟩

/-- An update of one station's release measurement alone. -/
theorem DriveOnly.modMeasure (s : State) (i : Station) (x : Option Nat) :
    DriveOnly s (s.modMu i fun m => { m with releaseMeasure := x }) :=
  DriveOnly.setStation s i _ ⟨rfl, rfl, rfl, rfl, rfl, rfl⟩

/-- An update of the DSA that keeps K. -/
theorem DriveOnly.modDsa (s : State) (f : Dsa → Dsa) (h : (f s.dsa).slots = s.dsa.slots) : DriveOnly s (s.modDsa f) := by
  refine ⟨fun _ => StationState.SameButDrive.refl _, ?_, rfl⟩
  constructor <;> first | exact h | rfl | (intro n; rfl)

theorem DriveOnly.modHolder (s : State) (i : Station) (f : Holder → Holder) : DriveOnly s (s.modHolder i f) :=
  DriveOnly.modDsa s _ rfl

theorem DriveOnly.occurrence (s : State) (kind : CounterKind) (i : Station) : DriveOnly s (s.occurrence kind i) :=
  (CountsOnly.occurrence s kind i).driveOnly

/-- The frame through a choice. -/
theorem DriveOnly.ite {s t u : State} {p : Prop} [Decidable p] (h : DriveOnly s t) (k : DriveOnly s u) :
    DriveOnly s (if p then t else u) := by
  split
  · exact h
  · exact k

/-! ### The Drive Handover Unit -/

theorem DriveOnly.enterRunning (s : State) (i : Station) : DriveOnly s (enterRunning s i) :=
  (DriveOnly.modDhu s i _).trans (DriveOnly.modHolder _ i _)

theorem DriveOnly.enterBrakeWait (s : State) (i : Station) : DriveOnly s (enterBrakeWait s i) := by
  have h := (DriveOnly.modDhu s i fun d =>
    { d with phase := .brakeWait, timer := .running .brakeLift 0 s.settings.brakeLiftTimeout }).trans
      (DriveOnly.modMeasure _ i (some 0))
  exact (h.trans (DriveOnly.enterRunning _ i)).ite h

theorem DriveOnly.enterDriveWait (s : State) (i : Station) : DriveOnly s (enterDriveWait s i) := by
  have h := DriveOnly.modDhu s i fun d =>
    { d with phase := .driveWait, timer := .running .driveReady 0 s.settings.driveReadyTimeout }
  exact (h.trans (DriveOnly.enterBrakeWait _ i)).ite h

theorem DriveOnly.beginGrant (s : State) (i : Station) (need : Need) : DriveOnly s (beginGrant s i need) :=
  ((DriveOnly.modDhu s i _).trans (DriveOnly.modDhu _ i _)).ite
    ((DriveOnly.modDhu s i _).trans (DriveOnly.enterDriveWait _ i))

theorem DriveOnly.resumeHandover (s : State) (i : Station) : DriveOnly s (resumeHandover s i) :=
  (DriveOnly.enterBrakeWait s i).ite (DriveOnly.enterDriveWait s i)

theorem DriveOnly.becomeIdle (s : State) (i : Station) : DriveOnly s (becomeIdle s i) :=
  (DriveOnly.modDhu s i _).trans (DriveOnly.modMeasure _ i none)

theorem DriveOnly.endSetting (s : State) (i : Station) : DriveOnly s (endSetting s i) := by
  unfold Machine.endSetting
  split
  · exact (DriveOnly.modDhu s i _).ite (DriveOnly.resumeHandover s i)
  · exact DriveOnly.becomeIdle s i

theorem DriveOnly.enterSetting (s : State) (i : Station) : DriveOnly s (enterSetting s i) := by
  have h := (DriveOnly.modDhu s i fun d =>
    { d with phase := .setting, demand := 0, stall := none,
             timer := .running .brakeSet 0 s.settings.brakeSetTimeout }).trans (DriveOnly.modMeasure _ i none)
  exact h.ite (h.trans (DriveOnly.endSetting _ i))

theorem DriveOnly.enterStopping (s : State) (i : Station) : DriveOnly s (enterStopping s i) := DriveOnly.modDhu s i _

theorem DriveOnly.normalStop (s : State) (i : Station) : DriveOnly s (normalStop s i) := by
  have h := DriveOnly.modDhu s i fun d => { d with stopRequest := .normal }
  dsimp only [Machine.normalStop]
  refine (DriveOnly.refl s).ite ?_
  split
  · exact DriveOnly.refl s
  · exact h.trans (DriveOnly.becomeIdle _ i)
  · exact h.trans (DriveOnly.enterSetting _ i)
  · exact h.trans (DriveOnly.enterStopping _ i)
  · exact h
  · exact h
  · exact h.trans (DriveOnly.becomeIdle _ i)

theorem DriveOnly.hardStop (s : State) (i : Station) : DriveOnly s (hardStop s i) := by
  have h := DriveOnly.modDhu s i fun d => { d with stopRequest := .fault, pendingMotion := none }
  have e := h.trans (DriveOnly.enterSetting _ i)
  dsimp only [Machine.hardStop]
  refine (DriveOnly.modDhu s i _).ite ?_
  split <;> first | exact e | exact DriveOnly.refl s | skip
  exact (h.trans (DriveOnly.becomeIdle _ i)).ite h

theorem DriveOnly.zoneStop (s : State) (i : Station) : DriveOnly s (zoneStop s i) := by
  unfold Machine.zoneStop
  split <;> first | exact DriveOnly.enterSetting s i | exact DriveOnly.refl s

theorem DriveOnly.zoneResume (s : State) (i : Station) : DriveOnly s (zoneResume s i) :=
  (DriveOnly.resumeHandover s i).ite (DriveOnly.refl s)

theorem DriveOnly.windowStopping (s : State) (i : Station) : DriveOnly s (windowStopping s i) :=
  (DriveOnly.enterSetting s i).ite ((DriveOnly.modDhu s i _).ite (DriveOnly.refl s))

theorem DriveOnly.windowRunning (s : State) (i : Station) : DriveOnly s (windowRunning s i) := by
  dsimp only [Machine.windowRunning]
  exact DriveOnly.modDhu s i _

theorem DriveOnly.dhuWindowEnd (s : State) (i : Station) : DriveOnly s (dhuWindowEnd s i) := by
  unfold Machine.dhuWindowEnd
  refine DriveOnly.trans ?_ (DriveOnly.modDhu _ i _)
  split <;> first | exact DriveOnly.refl s | exact DriveOnly.windowStopping s i | exact DriveOnly.windowRunning s i

/-! ### The Drive Slot Arbiter -/

theorem DriveOnly.joinList (s : State) (i : Station) (cls : Nat) : DriveOnly s (joinList s i cls) :=
  DriveOnly.modDsa s _ rfl

theorem DriveOnly.leaveList (s : State) (i : Station) : DriveOnly s (leaveList s i) := DriveOnly.modDsa s _ rfl

theorem DriveOnly.grantHead (s : State) : DriveOnly s (grantHead s) := by
  unfold Machine.grantHead
  split
  · exact DriveOnly.refl s
  · split
    · exact DriveOnly.modDsa s _ rfl
    · exact ((DriveOnly.modDsa s _ rfl).trans (DriveOnly.beginGrant _ _ _)).trans (DriveOnly.occurrence _ _ _)

theorem DriveOnly.grantRule (n : Nat) : ∀ s : State, DriveOnly s (grantRule n s) := by
  induction n with
  | zero => exact DriveOnly.refl
  | succ n ih => exact fun s => ((DriveOnly.grantHead s).trans (ih _)).ite (DriveOnly.refl s)

theorem DriveOnly.grantAll (s : State) : DriveOnly s (grantAll s) := DriveOnly.grantRule _ s

theorem DriveOnly.freeSlot (s : State) (i : Station) : DriveOnly s (freeSlot s i) := DriveOnly.modDsa s _ rfl

theorem DriveOnly.rejoin (s : State) (i : Station) : DriveOnly s (rejoin s i) := by
  unfold Machine.rejoin
  split
  · exact DriveOnly.joinList s i _
  · exact DriveOnly.refl s

theorem DriveOnly.beginYield (s : State) (i : Station) : DriveOnly s (beginYield s i) :=
  ((DriveOnly.modHolder s i _).trans (DriveOnly.occurrence _ _ _)).trans (DriveOnly.normalStop _ i)

theorem DriveOnly.preempt (n : Nat) : ∀ s : State, DriveOnly s (preempt n s) := by
  induction n with
  | zero => exact DriveOnly.refl
  | succ n ih =>
    intro s
    dsimp only [Machine.preempt]
    split
    · exact DriveOnly.refl s
    · next yielder forStation _ =>
      have h := (DriveOnly.modDsa s (fun d =>
        { d with yields := d.yields ++ [{ yielder := yielder, forStation := forStation, lapsed := false }] }) rfl).trans
          (DriveOnly.beginYield _ yielder)
      exact (h.trans (((DriveOnly.freeSlot _ yielder).trans (DriveOnly.rejoin _ yielder)).trans
        ((DriveOnly.grantAll _).trans (ih _)))).ite h

theorem DriveOnly.arbitrate (s : State) : DriveOnly s (arbitrate s) :=
  (DriveOnly.grantAll s).trans (DriveOnly.preempt 13 _)

theorem DriveOnly.settleStop (s : State) (i : Station) : DriveOnly s (settleStop s i) :=
  (((DriveOnly.freeSlot s i).trans (DriveOnly.rejoin _ i)).trans (DriveOnly.arbitrate _)).ite (DriveOnly.refl s)

theorem DriveOnly.expireSlice (s : State) (h : Holder) : DriveOnly s (expireSlice s h) :=
  ((DriveOnly.beginYield s h.station).trans (DriveOnly.settleStop _ _)).ite (DriveOnly.modHolder s h.station _)

/-! ### Motion needs: the own station's LCC takes or loses its need, all else is the arbiter's work -/

/-- Presenting a need: the LCC holds it, and the rest is drive work (R3, R85). -/
theorem presentNeed_frame (s : State) (i : Station) (need : Need) :
    DriveOnly (s.modLcc i fun l => { l with need := some need }) (presentNeed s i need) :=
  ((DriveOnly.joinList _ i _).trans (DriveOnly.arbitrate _)).ite (DriveOnly.modDhu _ i _)

/-- Withdrawing a need: the LCC holds none, and the rest is drive work (R3, R86, R94). -/
theorem withdrawNeed_frame (s : State) (i : Station) :
    DriveOnly (s.modLcc i fun l => { l with need := none }) (withdrawNeed s i) := by
  dsimp only [withdrawNeed]
  split
  · next h =>
    have hn : (s.station i).lcc.need = none := by simpa using h
    have e : (s.modLcc i fun l => { l with need := none }) = s := by
      have hv : s.stations.set i.val (s.station i) i.isLt = s.stations := by
        apply Vector.ext
        intro k hk
        rw [Vector.getElem_set]
        split
        · next e => subst e; rfl
        · rfl
      have hl : ({ (s.station i) with lcc := { (s.station i).lcc with need := none } } : StationState) =
          s.station i := by rw [← hn]
      simp only [State.modLcc, State.setStation, hl, hv]
    rw [e]
    exact DriveOnly.refl s
  · have h := DriveOnly.modDhu (s.modLcc i fun l => { l with need := none }) i
      fun d => { d with pendingMotion := none }
    exact (h.trans ((DriveOnly.leaveList _ i).trans (DriveOnly.arbitrate _))).ite
      (h.trans (((DriveOnly.modHolder _ i _).trans (DriveOnly.normalStop _ i)).trans (DriveOnly.settleStop _ i)))

/-- The hard stop of a FAULT entry: the LCC holds no need, and the rest is drive work (R29, R94). -/
theorem stopForFault_frame (s : State) (i : Station) :
    DriveOnly (s.modLcc i fun l => { l with need := none }) (stopForFault s i) := by
  have h := DriveOnly.modDhu (s.modLcc i fun l => { l with need := none }) i
    fun d => { d with pendingMotion := none }
  exact (h.trans ((DriveOnly.leaveList _ i).trans (DriveOnly.arbitrate _))).ite
    (h.trans (((DriveOnly.modHolder _ i _).trans (DriveOnly.hardStop _ i)).trans (DriveOnly.settleStop _ i)))

/-- A change of speed: the need's speed changes, and the rest is drive work (R104). -/
theorem changeSpeed_frame (s : State) (i : Station) (speed : Nat) :
    DriveOnly (s.modLcc i fun l => { l with need := l.need.map fun n => { n with speed := speed } })
      (changeSpeed s i speed) := by
  dsimp only [changeSpeed]
  exact DriveOnly.modDhu _ i _

/-! ### What a grant and a normal stop leave of the DHU -/

/-- A grant leaves the DHU as R101 to R103 give it (`State.granted`). -/
theorem beginGrant_dhu (s : State) (i : Station) (need : Need) :
    ((beginGrant s i need).station i).dhu = s.granted i (s.station i).dhu need := by
  cases hz : s.zoneHold <;> cases hr : (s.station i).filters.driveReady.level <;>
    cases hb : (s.station i).filters.brakeOpen.level <;>
    simp [beginGrant, State.granted, Dhu.handsOver, DrivePhase.reached, enterDriveWait, enterBrakeWait, enterRunning,
      State.modHolder, hz, hr, hb]
  all_goals rfl

/-- A handover resumed from HELD leaves the station as R113 gives it. -/
theorem zoneResume_station (s : State) (i : Station) :
    (zoneResume s i).station i = (s.station i).zoneResumed s.settings := by
  cases hr : (s.station i).filters.driveReady.level <;> cases hb : (s.station i).filters.brakeOpen.level <;>
    simp [zoneResume, StationState.zoneResumed, resumeHandover, Dhu.handsOver, DrivePhase.reached, enterDriveWait,
      enterBrakeWait, enterRunning, State.modHolder, hr, hb] <;> split <;> simp_all
  all_goals rfl

/-- A normal stop that does not complete at once leaves the station as Table 5-4 gives it. -/
theorem normalStop_station {s : State} {i : Station} (hr : (s.station i).dhu.stopRequest = .none)
    (hp : (s.station i).dhu.phase ≠ .idle) (ho : ¬(s.station i).stopsAtOnce) :
    (normalStop s i).station i = (s.station i).stopAsked s.settings := by
  unfold StationState.stopsAtOnce at ho
  cases h : (s.station i).dhu.phase <;>
    simp_all [normalStop, StationState.stopAsked, enterSetting, enterStopping]
  all_goals rfl

/-- A normal stop that completes at once leaves the DHU at rest (R106, R109). -/
theorem normalStop_atRest {s : State} {i : Station} (hr : (s.station i).dhu.stopRequest = .none)
    (ho : (s.station i).stopsAtOnce) : ((normalStop s i).station i).dhu = (s.station i).dhu.atRest := by
  unfold StationState.stopsAtOnce at ho
  cases h : (s.station i).dhu.phase <;>
    simp_all [normalStop, Dhu.atRest, enterSetting, endSetting, becomeIdle]

end Sys2Proof.Machine
end

