-- ==== Sys2Proof/Laws/LineCycle.lean ====
section
/-!
SUPPORT. What each transition of the Line Cycle Controller does: the station it acts on becomes a named station state, up
to its drive, and every other station, the berth's blocks and the link keep what the drive work leaves alone.
-/
namespace Sys2Proof.Machine

/-! ### One station becomes another -/

/-- Station `i` is `target` in `t`, up to its drive; all else is as in `s`, up to drives, slots, counts and reports. -/
structure StationBecomes (i : Station) (s t : State) (target : StationState) : Prop where
  station : target.SameButDrive (t.station i)
  others : ∀ j : Station, j ≠ i → (s.station j).SameButDrive (t.station j)
  berth : BerthKept s t
  link : LinkKept s t

theorem StationBecomes.refl (i : Station) (s : State) : StationBecomes i s s (s.station i) :=
  ⟨StationState.SameButDrive.refl _, fun _ _ => StationState.SameButDrive.refl _, BerthKept.refl s, LinkKept.refl s⟩

theorem StationBecomes.keptBeside {i : Station} {s t : State} {a : StationState} (h : StationBecomes i s t a) :
    KeptBeside i s t := ⟨h.others, h.berth⟩

/-- Drive work afterwards changes nothing of what the station has become. -/
theorem StationBecomes.drive {i : Station} {s t u : State} {a : StationState} (h : StationBecomes i s t a)
    (k : DriveOnly t u) : StationBecomes i s u a :=
  ⟨h.station.trans (k.stations i), fun j hj => (h.others j hj).trans (k.stations j), h.berth.trans k.berth,
    h.link.trans k.link⟩

/-- Drive work beforehand changes nothing of the frame, if the station kept its parts. -/
theorem StationBecomes.after {i : Station} {s t u : State} {a : StationState} (h : DriveOnly s t)
    (k : StationBecomes i t u a) : StationBecomes i s u a :=
  ⟨k.station, fun j hj => (h.stations j).trans (k.others j hj), h.berth.trans k.berth, h.link.trans k.link⟩

/-- Two transitions of the same station in a row. -/
theorem StationBecomes.trans {i : Station} {s t u : State} {a b : StationState} (h : StationBecomes i s t a)
    (k : StationBecomes i t u b) : StationBecomes i s u b :=
  ⟨k.station, fun j hj => (h.others j hj).trans (k.others j hj), h.berth.trans k.berth, h.link.trans k.link⟩

theorem StationBecomes.reportStation {i : Station} {s t : State} {a : StationState} (h : StationBecomes i s t a)
    (j : Station) : StationBecomes i s (t.reportStation j) a :=
  h.drive (CountsOnly.makePending t (.station j)).driveOnly

/-- Replacing the station replaces what it has become. -/
theorem StationBecomes.setStation {i : Station} {s t : State} {a : StationState} (h : StationBecomes i s t a)
    (b : StationState) : StationBecomes i s (t.setStation i b) b := by
  refine ⟨?_, fun j hj => ?_, h.berth.trans ?_, h.link.trans rfl⟩
  · rw [State.station_setStation_same]; exact StationState.SameButDrive.refl _
  · rw [State.station_setStation_ne _ _ hj]; exact h.others j hj
  · constructor <;> first | rfl | (intro n; rfl)

theorem StationState.SameButDrive.withLcc {a b : StationState} (h : a.SameButDrive b) (f : Lcc → Lcc) :
    ({ a with lcc := f a.lcc } : StationState).SameButDrive { b with lcc := f b.lcc } :=
  ⟨congrArg f h.lcc, h.config, h.lpu, h.filters, h.handed, h.mu⟩

theorem StationState.SameButDrive.withLpu {a b : StationState} (h : a.SameButDrive b) (f : Lpu → Lpu) :
    ({ a with lpu := f a.lpu } : StationState).SameButDrive { b with lpu := f b.lpu } :=
  ⟨h.lcc, h.config, congrArg f h.lpu, h.filters, h.handed, h.mu⟩

theorem StationBecomes.modLcc {i : Station} {s t : State} {a : StationState} (h : StationBecomes i s t a)
    (f : Lcc → Lcc) : StationBecomes i s (t.modLcc i f) { a with lcc := f a.lcc } := by
  have e := h.setStation { t.station i with lcc := f (t.station i).lcc }
  refine ⟨?_, e.others, e.berth, e.link⟩
  have := h.station.withLcc f
  rwa [State.station_modLcc_same]

theorem StationBecomes.modLpu {i : Station} {s t : State} {a : StationState} (h : StationBecomes i s t a)
    (f : Lpu → Lpu) : StationBecomes i s (t.modLpu i f) { a with lpu := f a.lpu } := by
  have e := h.setStation { t.station i with lpu := f (t.station i).lpu }
  refine ⟨?_, e.others, e.berth, e.link⟩
  have := h.station.withLpu f
  rwa [State.station_modLpu_same]

theorem StationBecomes.setConfig {i : Station} {s t : State} {a : StationState} (h : StationBecomes i s t a)
    (c : Option StationConfig) : StationBecomes i s (t.setConfig i c) { a with config := c } := by
  have e := h.setStation { t.station i with config := c }
  refine ⟨?_, e.others, e.berth, e.link⟩
  rw [State.station_setConfig_same]
  exact ⟨h.station.lcc, rfl, h.station.lpu, h.station.filters, h.station.handed, h.station.mu⟩

theorem StationBecomes.modHanded {i : Station} {s t : State} {a : StationState} (h : StationBecomes i s t a)
    (f : List FaultKind → List FaultKind) : StationBecomes i s (t.modHanded i f) { a with handed := f a.handed } := by
  have e := h.setStation { t.station i with handed := f (t.station i).handed }
  refine ⟨?_, e.others, e.berth, e.link⟩
  rw [State.station_modHanded_same]
  exact ⟨h.station.lcc, h.station.config, h.station.lpu, h.station.filters, congrArg f h.station.handed, h.station.mu⟩

/-- An update of the station's measurement that commutes with a change of its release measurement. -/
theorem StationBecomes.modMu {i : Station} {s t : State} {a : StationState} (h : StationBecomes i s t a) (f : Mu → Mu)
    (hf : ∀ (m : Mu) (x : Option Nat), f { m with releaseMeasure := x } =
      { f m with releaseMeasure := (f { m with releaseMeasure := x }).releaseMeasure }) :
    StationBecomes i s (t.modMu i f) { a with mu := f a.mu } := by
  have e := h.setStation { t.station i with mu := f (t.station i).mu }
  refine ⟨?_, e.others, e.berth, e.link⟩
  rw [State.station_modMu_same]
  refine ⟨h.station.lcc, h.station.config, h.station.lpu, h.station.filters, h.station.handed, ?_⟩
  show f (t.station i).mu = { f a.mu with releaseMeasure := (f (t.station i).mu).releaseMeasure }
  have k := hf a.mu (t.station i).mu.releaseMeasure
  rw [← h.station.mu] at k
  exact k

/-! ### Changes of line state -/

/-- What a change of line state makes of the station (R2, R3, R42). -/
def StationState.moved (a : StationState) (new : LineState) (reason : Reason) : StationState :=
  { a with lcc := { a.lcc.moved new reason a.latch with need := none }, mu := { a.mu with correction := none } }

/-- A recorded change of line state, before the old need is withdrawn (R2). -/
theorem recordMove_becomes (s : State) (i : Station) (new : LineState) (reason : Reason) :
    StationBecomes i s (recordMove s i new reason)
      { s.station i with lcc := (s.station i).lcc.moved new reason (s.station i).latch,
                         mu := { (s.station i).mu with correction := none } } :=
  (((StationBecomes.refl i s).modLcc fun l => l.moved new reason (s.station i).latch).modMu
    (fun m => { m with correction := none }) fun _ _ => rfl).reportStation i

/-- A change of line state (R2, R3). -/
theorem changeState_becomes (s : State) (i : Station) (new : LineState) (reason : Reason) :
    StationBecomes i s (changeState s i new reason) ((s.station i).moved new reason) :=
  ((recordMove_becomes s i new reason).modLcc fun l => { l with need := none }).drive
    (withdrawNeed_frame (recordMove s i new reason) i)

theorem enterHolding_becomes (s : State) (i : Station) (reason : Reason) :
    StationBecomes i s (enterHolding s i reason) ((s.station i).moved .holding reason) :=
  changeState_becomes s i .holding reason

theorem enterLineOut_becomes (s : State) (i : Station) (reason : Reason) :
    StationBecomes i s (enterLineOut s i reason) ((s.station i).moved .lineOut reason) :=
  changeState_becomes s i .lineOut reason

/-- The entry of STOWED: the count is 0 and referenced (R39, R40). -/
theorem enterStowed_becomes (s : State) (i : Station) (reason : Reason) (correction : Option Int) :
    StationBecomes i s (enterStowed s i reason correction)
      { (s.station i).moved .stowed reason with
        mu := { (s.station i).mu with count := 0, referenced := true, correction := correction } } :=
  (changeState_becomes s i .stowed reason).modMu
    (fun m => { m with count := 0, referenced := true, correction := correction }) fun _ _ => rfl

theorem arrive_becomes (s : State) (i : Station) :
    StationBecomes i s (arrive s i)
      { (s.station i).moved .stowed .stowed with
        mu := { (s.station i).mu with count := 0, referenced := true,
                                      correction := some (s.station i).arrivalCorrection } } :=
  enterStowed_becomes s i .stowed _

/-- A need presented by the station, which becomes this otherwise (R3). -/
theorem StationBecomes.presentNeed {i : Station} {s t : State} {a : StationState} (h : StationBecomes i s t a)
    (need : Need) : StationBecomes i s (presentNeed t i need) { a with lcc := { a.lcc with need := some need } } :=
  (h.modLcc fun l => { l with need := some need }).drive (presentNeed_frame t i need)

/-- The need's speed is changed at the station, which becomes this otherwise (R3). -/
theorem StationBecomes.changeSpeed {i : Station} {s t : State} {a : StationState} (h : StationBecomes i s t a)
    (speed : Nat) :
    StationBecomes i s (changeSpeed t i speed)
      { a with lcc := { a.lcc with need := a.lcc.need.map fun n => { n with speed := speed } } } :=
  (h.modLcc fun l => { l with need := l.need.map fun n => { n with speed := speed } }).drive
    (changeSpeed_frame t i speed)

/-! ### FAULT -/

/-- What an entry into FAULT makes of the station, but for a further SENSOR_LOST at it, with these detections left handed
to the LCC (R29, R125, R137, R139, R140). -/
def StationState.faulted (a : StationState) (kind : FaultKind) (berthTime : Count32) (handed : List FaultKind) :
    StationState :=
  { a with
    lcc := { a.lcc.moved .fault .fault a.latch with fault := some (a.recordFor kind berthTime), need := none }
    mu := { a.mu with correction := none }
    lpu := a.lpu.endedByFault
    handed := handed }

theorem addFurther_becomes (s : State) (i : Station) (kind : FaultKind) :
    StationBecomes i s (addFurther s i kind)
      { s.station i with lcc := { (s.station i).lcc with
          fault := (s.station i).lcc.fault.map fun r => { r with further := r.further ||| kind.bit } } } :=
  ((StationBecomes.refl i s).modLcc _).reportStation i

/-- The hard stop and the ended sequence of an entry into FAULT (R29). -/
def faultStopped (s : State) (i : Station) (kind : FaultKind) : State :=
  let s1 := s.modLcc i fun l =>
    { l.moved .fault .fault (s.station i).latch with fault := some ((s.station i).recordFor kind s.berthTime) }
  let s2 := s1.modMu i fun m => { m with correction := none }
  (stopForFault s2 i).modLpu i Lpu.endedByFault

/-- The state an entry into FAULT reaches before the test for a further SENSOR_LOST (R29, R137, R138). -/
def faultEntered (s : State) (i : Station) (kind : FaultKind) : State :=
  (((faultStopped s i kind).modHanded i fun _ =>
    (s.station i).handedAfter ((faultStopped s i kind).station i) kind).reportStation i).occurrence .faultEntry i

theorem enterFault_eq (s : State) (i : Station) (kind : FaultKind) :
    enterFault s i kind =
      if (s.station i).mu.lost && LineState.lostIsFault .fault (s.station i).latch
      then addFurther (faultEntered s i kind) i .sensorLost else faultEntered s i kind := rfl

theorem faultEntered_becomes (s : State) (i : Station) (kind : FaultKind) :
    StationBecomes i s (faultEntered s i kind) ((s.station i).faulted kind s.berthTime
      ((s.station i).handedAfter ((faultStopped s i kind).station i) kind)) := by
  have h1 := ((StationBecomes.refl i s).modLcc fun l =>
    { l.moved .fault .fault (s.station i).latch with
      fault := some ((s.station i).recordFor kind s.berthTime) }).modMu
      (fun m => { m with correction := none }) fun _ _ => rfl
  have h2 := (h1.modLcc fun l => { l with need := none }).drive (stopForFault_frame
    ((s.modLcc i fun l => { l.moved .fault .fault (s.station i).latch with
      fault := some ((s.station i).recordFor kind s.berthTime) }).modMu i fun m => { m with correction := none }) i)
  have h3 : StationBecomes i s (faultStopped s i kind) _ := h2.modLpu Lpu.endedByFault
  have h4 := (h3.modHanded fun _ =>
    (s.station i).handedAfter ((faultStopped s i kind).station i) kind).reportStation i
  exact h4.drive (DriveOnly.occurrence _ .faultEntry i)

/-- The entry into FAULT of a station whose stream is not lost, or whose latch is not CLOSED (R29, R52). -/
theorem enterFault_becomes (s : State) (i : Station) (kind : FaultKind)
    (h : (s.station i).mu.lost = false ∨ (s.station i).latch ≠ .closed) :
    StationBecomes i s (enterFault s i kind) ((s.station i).faulted kind s.berthTime
      ((s.station i).handedAfter ((faultStopped s i kind).station i) kind)) := by
  have hc : ((s.station i).mu.lost && LineState.lostIsFault .fault (s.station i).latch) = false := by
    rcases h with h | h <;> simp [h, LineState.lostIsFault, LineState.isTensioned]
  rw [enterFault_eq, if_neg (by simp [hc])]
  exact faultEntered_becomes s i kind

/-- The entry into FAULT of a station whose stream is lost and whose latch is CLOSED (R29, R52; log 10). -/
theorem enterFault_lost (s : State) (i : Station) (kind : FaultKind) (h : (s.station i).mu.lost = true)
    (k : (s.station i).latch = .closed) : enterFault s i kind = addFurther (faultEntered s i kind) i .sensorLost := by
  rw [enterFault_eq, if_pos (by simp [h, k, LineState.lostIsFault, LineState.isTensioned])]

/-- The line state and reason after an entry into FAULT, whatever the sample stream (R29). -/
theorem enterFault_lineState (s : State) (i : Station) (kind : FaultKind) :
    ((enterFault s i kind).station i).lcc.lineState = .fault ∧
      ((enterFault s i kind).station i).lcc.lastReason = .fault := by
  have h := faultEntered_becomes s i kind
  rw [enterFault_eq]
  split
  · have k := (addFurther_becomes (faultEntered s i kind) i .sensorLost).station.lcc
    rw [k]
    exact ⟨by rw [h.station.lcc]; rfl, by rw [h.station.lcc]; rfl⟩
  · exact ⟨by rw [h.station.lcc]; rfl, by rw [h.station.lcc]; rfl⟩

/-- A detection at an OFFLINE station does nothing (R137). -/
theorem detect_offline (s : State) (i : Station) (kind : FaultKind) (h : (s.station i).lcc.lineState = .offline) :
    detect s i kind = s := by
  simp [detect, h]

/-- A detection in FAULT is a further fault (R30, R137). -/
theorem detect_fault (s : State) (i : Station) (kind : FaultKind) (h : (s.station i).lcc.lineState = .fault) :
    detect s i kind = addFurther s i kind := by
  simp [detect, h]

/-- A detection outside FAULT at an in-service station is an entry into FAULT (R29, R137). -/
theorem detect_enters (s : State) (i : Station) (kind : FaultKind) (h : (s.station i).lcc.lineState ≠ .offline)
    (k : (s.station i).lcc.lineState ≠ .fault) : detect s i kind = enterFault s i kind := by
  unfold detect
  split <;> simp_all

/-! ### Detections handed to the LCC -/

/-- With no detection of the kind handed to the LCC, none is taken (R137, log 29). -/
theorem takeHanded_of_not_handed {s : State} {i : Station} {kind : FaultKind} (h : kind ∉ (s.station i).handed) :
    takeHanded s i kind = s := by
  simp [takeHanded, h]

/-- A handed detection that is a fault in the present state is detected (R137, R144). -/
theorem takeHanded_of_handed {s : State} {i : Station} {kind : FaultKind} (h : kind ∈ (s.station i).handed)
    (k : s.isFaultNow i kind = true) : takeHanded s i kind = detect (s.dropHanded i kind) i kind := by
  simp [takeHanded, h, k]

/-- A handed detection in FAULT is a further fault (R30, R137). -/
theorem takeHanded_fault {s : State} {i : Station} {kind : FaultKind} (h : kind ∈ (s.station i).handed)
    (k : (s.station i).lcc.lineState = .fault) : takeHanded s i kind = addFurther (s.dropHanded i kind) i kind := by
  rw [takeHanded_of_handed h (by simp [State.isFaultNow, k]), detect_fault _ _ _ (by simpa using k)]

/-- A handed detection that is no fault in the present state is discarded (R144). -/
theorem takeHanded_discarded {s : State} {i : Station} {kind : FaultKind} (h : kind ∈ (s.station i).handed)
    (k : s.isFaultNow i kind = false) : takeHanded s i kind = s.dropHanded i kind := by
  simp [takeHanded, h, k]

/-! ### Reaching other states -/

theorem limitTest_of_not_atLimit {s : State} {i : Station} (h : (s.station i).atLimit = false) : limitTest s i = s := by
  simp [limitTest, h]

theorem lostAtEntry_of_not_lost {s : State} {i : Station} (h : (s.station i).mu.lost = false) : lostAtEntry s i = s := by
  simp [lostAtEntry, h]

/-- The limit test reads nothing of the drive (R6). -/
theorem atLimit_of_same {a b : StationState} (h : a.SameButDrive b) : b.atLimit = a.atLimit := by
  have hc : b.mu.count = a.mu.count := by rw [h.mu]
  have hm : b.cmax = a.cmax := by simp only [StationState.cmax, h.config]
  simp only [StationState.atLimit, h.lcc, hc, hm]

/-- The entry of PAYING_OUT away from the limit (R12). -/
theorem enterPayingOut_becomes (s : State) (i : Station) (target : Nat)
    (h : (s.station i).mu.count ≠ (s.station i).cmax) :
    StationBecomes i s (enterPayingOut s i target)
      { s.station i with
        lcc := { (s.station i).lcc.moved .payingOut .request (s.station i).latch with
          payoutTarget := some target
          need := some { cls := 3, dir := .outward, speed := s.settings.payoutSpeed } }
        mu := { (s.station i).mu with correction := none } } := by
  have h1 := (StationBecomes.refl i s).modLcc fun l => { l with payoutTarget := some target }
  have h2 := changeState_becomes (s.modLcc i fun l => { l with payoutTarget := some target }) i .payingOut .request
  rw [State.station_modLcc_same] at h2
  have h3 := (h1.trans h2).presentNeed { cls := 3, dir := .outward, speed := s.settings.payoutSpeed }
  dsimp only [enterPayingOut]
  rw [limitTest_of_not_atLimit]
  · exact h3
  · rw [atLimit_of_same h3.station]
    simpa [StationState.moved, StationState.atLimit, Lcc.moved, StationState.cmax] using h

/-- The entry of ADJUSTING away from the limit of its direction (R21, R69). -/
theorem enterAdjusting_becomes (s : State) (i : Station) (dir : Dir) (cls : Nat) (aim : ProfileNo) (reason : Reason)
    (h : match dir with
      | .outward => (s.station i).mu.count ≠ (s.station i).cmax
      | .inward => (s.station i).mu.count ≠ 0) :
    StationBecomes i s (enterAdjusting s i dir cls aim reason)
      { s.station i with
        lcc := { (s.station i).lcc.moved .adjusting reason (s.station i).latch with
          adjustDir := some dir, adjustClass := some cls, aimProfile := some aim
          need := some { cls := cls, dir := dir, speed := (s.profile aim).adjustSpeed } }
        mu := { (s.station i).mu with correction := none } } := by
  have h1 := (changeState_becomes s i .adjusting reason).modLcc fun l =>
    { l with adjustDir := some dir, adjustClass := some cls, aimProfile := some aim }
  have h2 := h1.drive (DriveOnly.occurrence _ .adjustStart i)
  have h3 := h2.presentNeed { cls := cls, dir := dir, speed := (s.profile aim).adjustSpeed }
  dsimp only [enterAdjusting]
  rw [limitTest_of_not_atLimit]
  · exact h3
  · rw [atLimit_of_same h3.station]
    cases dir <;> simpa [StationState.moved, StationState.atLimit, Lcc.moved, StationState.cmax] using h

/-! ### The effective profile -/

/-- The recomputed effective profile of a configured station (R62). -/
theorem recomputeEffective_becomes (s : State) (i : Station) (c : StationConfig) (h : (s.station i).config = some c) :
    StationBecomes i s (recomputeEffective s i)
      { s.station i with lcc := { (s.station i).lcc with effective := some (min c.requested s.ceilingNow) } } := by
  have hb := StationBecomes.refl i s
  have h1 := hb.modLcc fun l => { l with effective := some (min c.requested s.ceilingNow) }
  by_cases e : (s.station i).lcc.effective = some (min c.requested s.ceilingNow)
  · have hs : recomputeEffective s i = s := by simp [recomputeEffective, h, e]
    have hl : ({ (s.station i) with lcc := { (s.station i).lcc with effective := some (min c.requested s.ceilingNow) } }
        : StationState) = s.station i := by rw [← e]
    rw [hs]
    exact (congrArg (StationBecomes i s s) hl).mpr hb
  · have hs : recomputeEffective s i =
        if s.inService i then (s.modLcc i fun l =>
          { l with effective := some (min c.requested s.ceilingNow) }).reportStation i
        else s.modLcc i fun l => { l with effective := some (min c.requested s.ceilingNow) } := by
      simp only [recomputeEffective, h, if_neg e]
    rw [hs]
    split
    · exact h1.reportStation i
    · exact h1

/-- A station without a configuration is left as it is (R62). -/
theorem recomputeEffective_none (s : State) (i : Station) (h : (s.station i).config = none) :
    recomputeEffective s i = s := by
  simp [recomputeEffective, h]

end Sys2Proof.Machine
end

