-- ==== Sys2Proof/WellFormed.lean ====
section
/-!
DEFINITION. Which commands are well formed: a command that stands for bytes on a serial input brings at least one
byte, and a command by which the request handler works a station range takes at least one and at most twelve station
turns (R173). Station numbers need no check: their type holds 0..11 only.
-/
namespace Sys2Proof

/-- A run of bytes on a serial input is not empty. -/
def wfBytes (bytes : List Byte) : Bool := !bytes.isEmpty

/-- A step of the request handler works one to twelve stations of a range (R173). -/
def wfTurns (turns : Nat) : Bool := decide (1 ≤ turns ∧ turns ≤ 12)

/-- The well-formedness check of a command. -/
def Instr.wellFormed : Instr → Bool
  | .powerOnReset _ => true
  | .pinReset => true
  | .frameReceived bytes => wfBytes bytes
  | .frameCheckFailed bytes => wfBytes bytes
  | .frameGapTimeout _ => true
  | .unknownRequest => true
  | .identify => true
  | .readBerth => true
  | .readStations turns => wfTurns turns
  | .readProfiles => true
  | .readCounters => true
  | .configureBerth => true
  | .configureStation turns => wfTurns turns
  | .writeProfile => true
  | .setCondition => true
  | .commissionLock => true
  | .deploy turns => wfTurns turns
  | .lock turns => wfTurns turns
  | .release turns => wfTurns turns
  | .armRelease turns => wfTurns turns
  | .rewind turns => wfTurns turns
  | .halt turns => wfTurns turns
  | .selectProfile turns => wfTurns turns
  | .clearFault turns => wfTurns turns
  | .setCounter => true
  | .restart => true
  | .transmitNextFrame => true
  | .linkWatchExpiry => true
  | .sampleRecordReceived _ bytes => wfBytes bytes
  | .sampleRecordGap _ => true
  | .sampleTimeout _ => true
  | .encoderEdge _ _ _ => true
  | .speedWindowEnd _ => true
  | .stallTimeout _ => true
  | .driveReadyTimeout _ => true
  | .brakeLiftTimeout _ => true
  | .stopTimeout _ => true
  | .brakeSetTimeout _ => true
  | .rawInputEdge _ _ => true
  | .filterWidthElapsed _ => true
  | .sliceExpiry _ => true
  | .pulseDelayEnd _ => true
  | .pulseWidthEnd _ => true
  | .confirmTimeout _ => true
  | .conflictTimeout _ => true
  | .armExpiry _ => true
  | .timeBaseTick => true

end Sys2Proof
end

