-- ==== Sys2Proof/Tests/Slice0.lean ====
section
/-!
SUPPORT. Tests: ill-formed commands that the well-formedness check refuses, worked examples of the spec on one operation
or one step each, and for every statement with hypotheses a witness: concrete states and operands that meet them, clause
by clause, at boundary values.
-/
namespace Sys2Proof.Tests
open Sys2Proof Sys2Proof.Machine

-- One test after another: many waiting at once would each hold a thread and its stack.
set_option Elab.async false

/-! ### Well-formedness -/

/-- An empty run of bytes is refused by each command that stands for bytes. -/
theorem test_wellFormed_refuses_empty_runs :
    ∀ c ∈ [Instr.frameReceived [], .frameCheckFailed [], .sampleRecordReceived 0 []], c.wellFormed = false := by decide

/-- A handler step of no turn, or of more turns than the part has stations, is refused (R173). -/
theorem test_wellFormed_refuses_turns :
    ∀ f ∈ [Instr.readStations, .configureStation, .deploy, .lock, .release, .armRelease, .rewind, .halt, .selectProfile,
        .clearFault],
      (f 0).wellFormed = false ∧ (f 1).wellFormed = true ∧ (f 12).wellFormed = true ∧ (f 13).wellFormed = false := by
  decide

/-- Commands that carry no run and no turns are well formed. -/
theorem test_wellFormed_plain :
    ∀ c ∈ [Instr.pinReset, .identify, .frameGapTimeout 0, .encoderEdge 11 true false, .timeBaseTick],
      c.wellFormed = true := by decide

/-- The table gives no row a bit, so no word spells a command (log 25). -/
theorem test_decode_spells_none : decodeTableWord 8 0xA5 = none ∧ State.reset.withFetchWord 8 0xA5 = State.reset := by
  decide +kernel

/-! ### Small states -/

/-- The drum of Table 2-4 with the zero and span of Table 2-5. -/
def drum : StationConfig :=
  { countsPerRev := 256
    layers := [{ wrapLength := 3770, wraps := 20 }, { wrapLength := 3580, wraps := 20 }, { wrapLength := 3390, wraps := 20 }]
    zero := 1000, span := 1229, requested := 5, autoRelease := true, reserve := 5000, takeupLimit := 10000 }

/-- The part after reset with station 3 changed. -/
def berth (f : StationState → StationState) : State := State.reset.setStation 3 (f (State.reset.station 3))

/-- The same with a frame at the head of the inbound queue. -/
def asked (frame : List Byte) (f : StationState → StationState) : State :=
  { berth f with link := { Link.atReset with inbound := [frame] } }

/-- A station in service in this line state, with the drum above and effective profile 5. -/
def inState (l : LineState) (t : StationState) : StationState :=
  { t with config := some drum, lcc := { t.lcc with lineState := l, effective := some 5 } }

/-- A station with this count on its drum. -/
def counting (n : Nat) (t : StationState) : StationState := { t with mu := { t.mu with count := n } }

/-- A station whose filtered LATCH_CLOSED is asserted. -/
def latched (t : StationState) : StationState :=
  { t with filters := { t.filters with latchClosed := { level := true, held := none } } }

/-- A station whose filtered LATCH_OPEN is asserted. -/
def unlatched (t : StationState) : StationState :=
  { t with filters := { t.filters with latchOpen := { level := true, held := none } } }

/-- A filter with this level whose pending level has held for its width. -/
def ripe (level : Bool) : Filter := { level := level, held := some { age := 50, width := 50 } }

/-- A fault record. -/
def stalled : FaultRecord :=
  { first := .stall, stateAtEntry := .rewinding, berthTime := 9, tension := 0, count := 4, further := 0 }

/-- A station that holds a fault record. -/
def faulted (t : StationState) : StationState := { t with lcc := { t.lcc with fault := some stalled } }

/-- The state a step ends in. -/
def after (o : Host.Outcome State Fault Refusal) : State :=
  match o with
  | .next t => t
  | _ => State.reset

/-! ### Worked examples of the spec -/

/-- The check over the digits 1 to 9 ends at 0x29B1 (R168). -/
theorem test_crc_of_the_nine_digits : crc [0x31, 0x32, 0x33, 0x34, 0x35, 0x36, 0x37, 0x38, 0x39] = 0x29B1 := by
  decide +kernel

/-- The lengths of the worked cases below Table 2-4 (R44). -/
theorem test_lengths_of_table_2_4 :
    [0, 5119, 5120, 5999, 6000, 15359, 15360].map (lengthOf drum.countsPerRev drum.layers) =
      [0, 75385, 75400, 87692, 87706, 214786, 214800] ∧ drum.cmax = 15360 ∧ drum.total = 214800 := by decide +kernel

/-- The tensions of Table 2-5, and the two raw codes at which the station begins to saturate (R47). -/
theorem test_tensions_of_table_2_5 :
    [21000, 800, 40000, 34332, 34331, 20000].map (tensionOf 1000 1229) =
      [(6000, false), (0, false), (10000, true), (10000, true), (10000, false), (5700, false)] := by decide +kernel

/-- The doses of Table 3-8, samples 1 to 6, and the seventh at the limit (R74). -/
theorem test_doses_of_table_3_8 :
    doseAfter 0 5200 4000 100 = 1200 ∧ doseAfter 1200 6100 4000 100 = 3300 ∧ doseAfter 3300 7000 4000 100 = 6300 ∧
      doseAfter 6300 3900 4000 100 = 6200 ∧ doseAfter 6200 9000 4000 100 = 11200 ∧
      doseAfter 11200 9500 4000 100 = 16700 ∧ doseAfter 16700 8000 4000 100 = 20700 := by decide +kernel

/-- The inner windows named in the text: profile 3 is 2700..3300, profile 2 is 3100..3700, a band 1000..1043 has
1010..1033 (R59). -/
theorem test_inner_windows :
    (State.reset.profile 3).innerLow = 2700 ∧ (State.reset.profile 3).innerHigh = 3300 ∧
      (State.reset.profile 2).innerLow = 3100 ∧ (State.reset.profile 2).innerHigh = 3700 ∧
      (Profile.default 1000 1043 3000 300).innerLow = 1010 ∧ (Profile.default 1000 1043 3000 300).innerHigh = 1033 := by
  decide +kernel

/-- A station record takes 26 bytes, 39 with a fault record, and a STATION report's stow correction takes four more
(R177, Table 9-4). -/
theorem test_record_lengths :
    (stationRecord State.reset 3 none).length = 26 ∧ (stationRecord State.reset 3 (some 5)).length = 30 ∧
      (stationRecord (berth faulted) 3 none).length = 39 := by decide +kernel

/-- Table 10-3, samples 2, 3, 6 and 7 at counter 0 and sample 1 at counter 3 (R197, R198). -/
theorem test_counting_of_table_10_3 :
    let c0 : Counter := { Counter.atReset with enabled := true, first := 3, last := 4, threshold := 4000, edge := true }
    let c3 : Counter := { Counter.atReset with enabled := true, first := 3, last := 3, threshold := 4000, invert := true }
    let rose : Counter := { c0 with memory := c0.memory.set 3 (some false) }
    c0.countsSample 4 4500 = false ∧ rose.countsSample 3 4100 = true ∧ rose.countsSample 3 3800 = false ∧
      rose.countsSample 3 4000 = true ∧ c3.countsSample 3 3900 = true ∧ c3.countsSample 3 4000 = false := by
  decide +kernel

/-! ### One step each -/

/-- A good frame with a tag and no fields joins the inbound queue and reloads the watch. -/
theorem test_good_frame_is_queued :
    (after (exec (.frameReceived (frameOf [0x01, 0x2A])) State.reset)).link.inbound = [[0x01, 0x2A]] := by
  decide +kernel

/-- A frame behind a false start byte 0xA5 is not lost (R169, Failed frame). -/
theorem test_false_start_costs_no_frame :
    (after (exec (.frameCheckFailed (0xA5 :: 0x01 :: frameOf [0x01, 0x2A])) State.reset)).link.inbound = [[0x01, 0x2A]] := by
  decide +kernel

/-- IDENTIFY names ESKULON, ML12, revision 1.0 and twelve stations (Table 9-5). -/
theorem test_identify_reply :
    (after (exec .identify (asked [0x01, 0x2A] id))).link.replySlot =
      some [0x81, 0x2A, 0, 0x45, 0x53, 0x4B, 0x55, 0x4C, 0x4F, 0x4E, 0x4D, 0x4C, 0x31, 0x32, 0x10, 12, 0, 0] := by
  decide +kernel

/-- READ_STATIONS for all twelve carries nine records without fault records in a payload of 238 bytes (R177). -/
theorem test_read_stations_carries_nine :
    ((after (exec (.readStations 12) (asked [0x03, 1, 0, 11] id))).link.replySlot.getD []).length = 238 ∧
      ((after (exec (.readStations 12) (asked [0x03, 1, 0, 11] id))).link.replySlot.getD []).getD 3 0 = 9 := by
  decide +kernel

/-- A code outside Table 9-2 is answered with UNKNOWN_REQUEST, code 1 (R172, Table 9-3). -/
theorem test_unknown_request : (after (exec .unknownRequest (asked [0x15, 9] id))).link.replySlot = some [0x95, 9, 1] := by
  decide +kernel

/-- DEPLOY at an OFFLINE station is ABSENT, code 2 (R8, Table 9-3). -/
theorem test_deploy_offline_absent :
    (after (exec (.deploy 1) (asked [0x0B, 1, 3, 3, 1, 0, 0, 0] id))).link.replySlot = some [0x8B, 1, 0, 1, 2] := by
  decide +kernel

/-- DEPLOY of 209 801 mm is out of range on the drum of Table 2-4 with a reserve of 5 000; 209 800 mm is not (R12). -/
theorem test_deploy_range :
    (after (exec (.deploy 1) (asked [0x0B, 1, 3, 3, 0x03, 0x33, 0x89, 0] fun t => unlatched (inState .stowed t)))).link.replySlot
        = some [0x8B, 1, 0, 1, 3] ∧
      ((after (exec (.deploy 1) (asked [0x0B, 1, 3, 3, 0x03, 0x33, 0x88, 0] fun t =>
        unlatched (inState .stowed t)))).station 3).lcc.payoutTarget = some 209800 := by decide +kernel

/-- RELEASE under load without an arm is NOT_ARMED, code 5, as at 40 000 ms of Table 6-6 (R23). -/
theorem test_release_not_armed :
    (after (exec (.release 1) (asked [0x0D, 1, 3, 3] fun t =>
      latched (inState .holding { t with mu := { t.mu with tension := 2200 } })))).link.replySlot
        = some [0x8D, 1, 0, 1, 5] := by decide +kernel

/-- ARM_RELEASE at 41 200 with the default window gives the expiry 46 200 (Table 6-6). -/
theorem test_arm_expiry :
    ((after (exec (.armRelease 1) { asked [0x0E, 1, 3, 3] (fun t => latched (inState .holding t)) with
      timeBase := 41200 })).station 3).lcc.armExpiry = some 46200 := by decide +kernel

/-- A station in HOLDING in profile 5, latched, whose raw codes are its tensions. -/
def holding (t : StationState) : StationState :=
  let u := counting 6000 (latched (inState .holding t))
  { u with config := some { drum with zero := 0, span := 4096 }, lcc := { u.lcc with current := some 5 } }

/-- Sample 1 of Table 3-8: 5200 in profile 5 starts ADJUSTING outward at class 0, reason BAND_HIGH, with dose 1200. -/
theorem test_first_sample_of_table_3_8 :
    let t := after (exec (.sampleRecordReceived 3 [0, 0x14, 0x50, 0x44]) (berth holding))
    (t.station 3).lcc.lineState = .adjusting ∧ (t.station 3).lcc.lastReason = .bandHigh ∧
      (t.station 3).lcc.need = some { cls := 0, dir := .outward, speed := 250 } ∧ (t.station 3).lcc.dose = 1200 := by
  decide +kernel

/-- The seventh sample of Table 3-8: 8000 on a dose of 16 700 releases the line. -/
theorem test_seventh_sample_of_table_3_8 :
    let t := after (exec (.sampleRecordReceived 3 [0, 0x1F, 0x40, 0x5F]) (berth fun t =>
      let u := holding t
      { u with lcc := { u.lcc with dose := 16700 } }))
    (t.station 3).lcc.lineState = .releasing ∧ (t.station 3).lcc.lastReason = .overloadRelease ∧
      (t.station 3).lcc.dose = 0 ∧ (t.station 3).lcc.rewindFlag = some true := by decide +kernel

/-- The quarter positions of Table 2-2, and the cycle from Q3 to Q0 (R37). -/
theorem test_quarters :
    Quarter.ofLevels false false = .q0 ∧ Quarter.ofLevels true false = .q1 ∧ Quarter.ofLevels true true = .q2 ∧
      Quarter.ofLevels false true = .q3 ∧ Quarter.cycle .q3 .q0 = some .outward ∧
      Quarter.cycle .q0 .q3 = some .inward ∧ Quarter.cycle .q0 .q2 = none := by decide

/-- A reset leaves the RESTARTED report pending as the only entry (R185). -/
theorem test_reset_reports_restarted :
    (after (exec .pinReset State.reset)).link.reports = [.restarted] ∧
      (after (exec .pinReset State.reset)).berth.resetCause = .resetPin := by decide +kernel

/-- A window that ends while a station is OFFLINE renews whether its demand has been 0 since (R54, R107, log 12). -/
theorem test_offline_window_is_passed :
    let s := { berth (fun t => { t with dhu := { t.dhu with zeroThroughout := false } }) with windowMs := 99 }
    ((after (exec .timeBaseTick s)).station 3).dhu.zeroThroughout = true := by decide +kernel

/-- The kinds of station 3's fault record. -/
def kinds3 (s : State) : Option (BitVec 14) := (s.station 3).lcc.fault.map FaultRecord.kinds

/-- R137's example: a STALL and a LATCH_SENSOR at their timeouts together, in either order, are both in the record, the one
taken first its first kind. -/
theorem test_two_detections_in_either_order :
    let s := berth fun t => { inState .takingUp t with
      dhu := { t.dhu with phase := .running, stall := some { elapsed := 2000, limit := 2000 } }
      lpu := { t.lpu with conflictTimer := .running 1500 1500 } }
    let a := after (exec (.stallTimeout 3) (after (exec (.conflictTimeout 3) s)))
    let b := after (exec (.conflictTimeout 3) (after (exec (.stallTimeout 3) s)))
    kinds3 a = some 0x084 ∧ kinds3 b = some 0x084 ∧
      (a.station 3).lcc.fault.map FaultRecord.first = some .latchSensor ∧
      (b.station 3).lcc.fault.map FaultRecord.first = some .stall := by decide +kernel

/-- Table 2-6 at 100 ms: a stream lost in HOLDING with the latch CLOSED is SENSOR_LOST as first kind, and by R52's second
case a further fault of the tensioned FAULT it enters. -/
theorem test_lost_stream_of_table_2_6 :
    let t := after (exec (.sampleTimeout 3) (berth fun t => { latched (inState .holding t) with
      mu := { t.mu with age := 100 } }))
    (t.station 3).lcc.lineState = .fault ∧
      (t.station 3).lcc.fault.map (fun r => (r.first, r.further)) = some (.sensorLost, 0x100) := by decide +kernel

/-! ### Witnesses: the link and the requests -/

/-- A RESTART frame at the head. -/
theorem witness_RestartEffects :
    (∃ s : State, HandlerTakes s [0x14, 7] []) :=
  ⟨asked [0x14, 7] id, by decide +kernel⟩

/-- Payloads of 2 and of 250 bytes while the Receiver hunts, link hold in force in the second. -/
theorem witness_GoodFrameAccepted :
    (∃ (s : State) (payload : List Byte), s.link.rxHeld = [] ∧ 2 ≤ payload.length ∧ payload.length ≤ 250) ∧
    (∃ (s : State) (payload : List Byte), s.link.rxHeld = [] ∧ 2 ≤ payload.length ∧ payload.length ≤ 250 ∧
      s.watch.hold = true) :=
  ⟨⟨berth id, [1, 7], by decide +kernel⟩,
    ⟨{ berth id with watch := { LinkWatch.atReset with hold := true } }, List.replicate 250 0xA5,
      by decide +kernel⟩⟩

/-- Lengths 1 and 251, and a length of 2 with a wrong CRC, without a start byte among the bytes. -/
theorem witness_BadFramesLeaveNoTrace :
    (∃ (s : State) (len : Byte), s.link.rxHeld = [] ∧ len.toNat < 2 ∧ len ≠ 0xA5) ∧
    (∃ (s : State) (len : Byte), s.link.rxHeld = [] ∧ 250 < len.toNat) ∧
    (∃ (s : State) (len : Byte) (body : List Byte), s.link.rxHeld = [] ∧ body.length = len.toNat + 2 ∧
      body.drop len.toNat ≠ be16 (crc (len :: body.take len.toNat)).toNat ∧ ∀ b ∈ len :: body, b ≠ 0xA5) :=
  ⟨⟨berth id, 1, by decide +kernel⟩,
    ⟨berth id, 251, by decide +kernel⟩,
    ⟨berth id, 2, [1, 7, 0, 0], by decide +kernel⟩⟩

/-- Codes 0 and 21; an IDENTIFY with a body and a DEPLOY one byte short; a LOCK for 4..3 and 0..12, a DEPLOY for 4..3 and a
SELECT_PROFILE for 0..12; a RELEASE of one byte and of four, for 4..3, and with the rewind byte 2; a CONFIGURE_STATION with
flags 32, cut off after flags 31, and for 4..3; a CONFIGURE_BERTH with items 0 and 31 behind a good one, and cut off. -/
theorem witness_FrameFaultsAnswered :
    (∃ (s : State) (code : Byte), HandlerTakes s [code, 7] [] ∧ code.toNat = 0) ∧
    (∃ (s : State) (code : Byte), HandlerTakes s [code, 7] [] ∧ 20 < code.toNat) ∧
    (∃ (s : State) (body : List Byte), HandlerTakes s (0x01 :: 7 :: body) [] ∧ body.length ≠ 0) ∧
    (∃ (s : State) (body : List Byte), HandlerTakes s (0x0B :: 7 :: body) [] ∧ body.length ≠ 6 ∧ body.length = 5) ∧
    (∃ (s : State) (a b : Byte), HandlerTakes s [0x0C, 7, a, b] [] ∧ b < a) ∧
    (∃ (s : State) (a b : Byte), HandlerTakes s [0x0C, 7, a, b] [] ∧ a ≤ b ∧ ¬b.toNat ≤ 11) ∧
    (∃ (s : State) (a b : Byte) (fields : List Byte), HandlerTakes s (0x0B :: 7 :: a :: b :: fields) [] ∧
      fields.length = 4 ∧ b < a) ∧
    (∃ (s : State) (a b : Byte) (fields : List Byte), HandlerTakes s (0x11 :: 7 :: a :: b :: fields) [] ∧
      fields.length = 1 ∧ a ≤ b ∧ ¬b.toNat ≤ 11) ∧
    (∃ (s : State) (body : List Byte), HandlerTakes s (0x0D :: 7 :: body) [] ∧ body.length = 1) ∧
    (∃ (s : State) (body : List Byte), HandlerTakes s (0x0D :: 7 :: body) [] ∧ body.length = 4) ∧
    (∃ (s : State) (a b : Byte), HandlerTakes s [0x0D, 7, a, b] [] ∧ b < a) ∧
    (∃ (s : State) (a b f : Byte), HandlerTakes s [0x0D, 7, a, b, f] [] ∧ 1 < f.toNat) ∧
    (∃ (s : State) (body : List Byte), HandlerTakes s (0x07 :: 7 :: body) [] ∧ (body.getD 2 0).toNat = 32) ∧
    (∃ (s : State) (body : List Byte), HandlerTakes s (0x07 :: 7 :: body) [] ∧ (body.getD 2 0).toNat = 31 ∧
      ¬laidOut body) ∧
    (∃ (s : State) (body : List Byte), HandlerTakes s (0x07 :: 7 :: body) [] ∧ (body.getD 2 0).toNat < 32 ∧
      laidOut body ∧ body.getD 1 0 < body.getD 0 0) ∧
    (∃ (s : State) (items : List (Nat × Nat)) (a : Byte), (∀ x ∈ items, wellSized x) ∧
      HandlerTakes s (0x06 :: 7 :: (items.flatMap itemBytes ++ [a])) [] ∧ items ≠ [] ∧ a.toNat = 0) ∧
    (∃ (s : State) (items : List (Nat × Nat)) (a : Byte), (∀ x ∈ items, wellSized x) ∧
      HandlerTakes s (0x06 :: 7 :: (items.flatMap itemBytes ++ [a])) [] ∧ items ≠ [] ∧ 30 < a.toNat) ∧
    (∃ (s : State) (items : List (Nat × Nat)) (a : Byte) (fields : List Byte), (∀ x ∈ items, wellSized x) ∧
      HandlerTakes s (0x06 :: 7 :: (items.flatMap itemBytes ++ a :: fields)) [] ∧ a.toNat = 30 ∧
      fields.length < fieldWidth a.toNat) :=
  ⟨⟨asked [0, 7] id, 0, by decide +kernel⟩,
    ⟨asked [21, 7] id, 21, by decide +kernel⟩,
    ⟨asked [0x01, 7, 0] id, [0], by decide +kernel⟩,
    ⟨asked [0x0B, 7, 3, 3, 0, 0, 1] id, [3, 3, 0, 0, 1], by decide +kernel⟩,
    ⟨asked [0x0C, 7, 4, 3] id, 4, 3, by decide +kernel⟩,
    ⟨asked [0x0C, 7, 0, 12] id, 0, 12, by decide +kernel⟩,
    ⟨asked [0x0B, 7, 4, 3, 0, 0, 1, 0] id, 4, 3, [0, 0, 1, 0], by decide +kernel⟩,
    ⟨asked [0x11, 7, 0, 12, 0] id, 0, 12, [0], by decide +kernel⟩,
    ⟨asked [0x0D, 7, 3] id, [3], by decide +kernel⟩,
    ⟨asked [0x0D, 7, 3, 3, 1, 1] id, [3, 3, 1, 1], by decide +kernel⟩,
    ⟨asked [0x0D, 7, 4, 3] id, 4, 3, by decide +kernel⟩,
    ⟨asked [0x0D, 7, 3, 3, 2] id, 3, 3, 2, by decide +kernel⟩,
    ⟨asked [0x07, 7, 3, 3, 32] id, [3, 3, 32], by decide +kernel⟩,
    ⟨asked [0x07, 7, 3, 3, 31] id, [3, 3, 31], by decide +kernel, by decide +kernel,
      by unfold laidOut; decide +kernel⟩,
    ⟨asked [0x07, 7, 4, 3, 1, 1, 0, 0, 0, 16, 0, 5, 0] id, [4, 3, 1, 1, 0, 0, 0, 16, 0, 5, 0], by decide +kernel,
      by decide +kernel, by unfold laidOut; decide +kernel, by decide +kernel⟩,
    ⟨asked (0x06 :: 7 :: ([(1, 400)].flatMap itemBytes ++ [0])) id, [(1, 400)], 0, by unfold wellSized; decide +kernel,
      by decide +kernel⟩,
    ⟨asked (0x06 :: 7 :: ([(1, 400)].flatMap itemBytes ++ [31])) id, [(1, 400)], 31, by unfold wellSized; decide +kernel,
      by decide +kernel⟩,
    ⟨asked (0x06 :: 7 :: ([(1, 400)].flatMap itemBytes ++ [30])) id, [(1, 400)], 30, [],
      by unfold wellSized; decide +kernel, by decide +kernel⟩⟩

/-- The four read requests at the head. -/
theorem witness_ReadReplies :
    (∃ s : State, HandlerTakes s [0x01, 7] []) ∧
    (∃ s : State, HandlerTakes s [0x02, 7] []) ∧
    (∃ s : State, HandlerTakes s [0x04, 7] []) ∧
    (∃ s : State, HandlerTakes s [0x05, 7] []) :=
  ⟨⟨asked [0x01, 7] id, by decide +kernel⟩,
    ⟨asked [0x02, 7] id, by decide +kernel⟩,
    ⟨asked [0x04, 7] id, by decide +kernel⟩,
    ⟨asked [0x05, 7] id, by decide +kernel⟩⟩

/-- READ_STATIONS of the whole berth and of station 11 alone. -/
theorem witness_ReadStationsReply :
    (∃ (s : State) (first last : Station),
      HandlerTakes s [0x03, 7, BitVec.ofNat 8 first.val, BitVec.ofNat 8 last.val] [] ∧
      first ≤ last) ∧
    (∃ (s : State) (first last : Station),
      HandlerTakes s [0x03, 7, BitVec.ofNat 8 first.val, BitVec.ofNat 8 last.val] [] ∧
      first ≤ last) :=
  ⟨⟨asked [0x03, 7, 0, 11] id, 0, 11, by decide +kernel⟩,
    ⟨asked [0x03, 7, 11, 11] id, 11, 11, by decide +kernel⟩⟩

/-- The part after reset with these reports pending. -/
def reporting (reports : List ReportEntry) : State := { berth id with link := { Link.atReset with reports := reports } }

/-- A reply in the slot, an empty queue, and one report of each kind. -/
theorem witness_TransmitterSendsNext :
    (∃ s : State, s.link.replySlot = some [0x8C, 7, 0]) ∧
    (∃ s : State, s.link.replySlot = none ∧ s.link.reports = []) ∧
    (∃ s : State, s.link.replySlot = none ∧ s.link.reports = [.station 11]) ∧
    (∃ s : State, s.link.replySlot = none ∧ s.link.reports = [.link .restored]) ∧
    (∃ s : State, s.link.replySlot = none ∧ s.link.reports = [.zone]) ∧
    (∃ s : State, s.link.replySlot = none ∧ s.link.reports = [.counter 3]) ∧
    (∃ s : State, s.link.replySlot = none ∧ s.link.reports = [.restarted]) :=
  ⟨⟨{ berth id with link := { Link.atReset with replySlot := some [0x8C, 7, 0] } }, by decide +kernel⟩,
    ⟨reporting [], by decide +kernel⟩,
    ⟨reporting [.station 11], by decide +kernel⟩,
    ⟨reporting [.link .restored], by decide +kernel⟩,
    ⟨reporting [.zone], by decide +kernel⟩,
    ⟨reporting [.counter 3], by decide +kernel⟩,
    ⟨reporting [.restarted], by decide +kernel⟩⟩

/-- The Link Watch at 0 in this mode, with a station in PAYING_OUT. -/
def silent (mode : WatchMode) (seen : Bool) : State :=
  { berth (inState .payingOut) with
    berth := { BerthSettings.atReset .powerOn with config := { BerthConfig.atReset with watchMode := mode } }
    watch := { remaining := 0, firstExpirySeen := seen, hold := false } }

/-- The watch at 0 in each mode, with a station in PAYING_OUT. -/
theorem witness_LinkWatchExpires :
    (∃ s : State, s.watch.remaining = 0 ∧ s.watch.hold = false ∧ s.settings.watchMode = .report) ∧
    (∃ s : State, s.watch.remaining = 0 ∧ s.watch.hold = false ∧ s.settings.watchMode = .reportThenHold ∧
      s.watch.firstExpirySeen = false) ∧
    (∃ s : State, s.watch.remaining = 0 ∧ s.watch.hold = false ∧ s.settings.watchMode = .reportThenHold ∧
      s.watch.firstExpirySeen = true) ∧
    (∃ s : State, s.watch.remaining = 0 ∧ s.watch.hold = false ∧ s.settings.watchMode = .hold ∧
      (s.station 3).lcc.lineState = .payingOut) :=
  ⟨⟨silent .report false, by decide +kernel⟩,
    ⟨silent .reportThenHold false, by decide +kernel⟩,
    ⟨silent .reportThenHold true, by decide +kernel⟩,
    ⟨silent .hold false, by decide +kernel⟩⟩

/-- The frame of a WRITE_PROFILE. -/
def profileFrame (number : Nat) (p : Profile) : List Byte :=
  0x08 :: 7 :: (be8 number ++ be16 p.low ++ be16 p.high ++ be16 p.overload ++ be16 p.doseLimit ++ be16 p.adjustSpeed)

/-- A profile at the least band and the least other values. -/
def leastProfile : Profile := { low := 0, high := 40, overload := 41, doseLimit := 100, adjustSpeed := 50 }

/-- A profile at the greatest values. -/
def greatestProfile : Profile := { low := 9959, high := 9999, overload := 10000, doseLimit := 65535, adjustSpeed := 1000 }

/-- The snapshots of the profiles and ceilings of reset. -/
def resetLimits : ProfileSnapshot :=
  { limits := ProfileTable.atReset.profiles.map fun p => { overload := p.overload, doseLimit := p.doseLimit }
    ceiling := ProfileTable.atReset.ceiling }

/-- The part with the commissioning lock set, its snapshots those of reset. -/
def lockedBerth (frame : List Byte) (f : StationState → StationState) : State :=
  { asked frame f with
    berth := { BerthSettings.atReset .powerOn with locked := true, thresholdSnapshot := some 300 }
    profiles := { ProfileTable.atReset with snapshot := some resetLimits } }

/-- Profile number 8, and a band of 39, out of range; a valid profile at the least and the greatest values; the lock
with an overload threshold above its snapshot. -/
theorem witness_WriteProfileByTheRules :
    (∃ s : State, HandlerTakes s (profileFrame 8 leastProfile) [] ∧ ¬(8 ≤ 7 ∧ leastProfile.valid)) ∧
    (∃ (s : State) (p : Profile), HandlerTakes s (profileFrame 7 p) [] ∧ ¬p.valid) ∧
    (∃ (s : State) (p : Profile), HandlerTakes s (profileFrame 0 p) [] ∧ p.valid ∧ ¬s.aboveSnapshot 0 p) ∧
    (∃ (s : State) (p : Profile), HandlerTakes s (profileFrame 7 p) [] ∧ p.valid ∧ ¬s.aboveSnapshot 7 p) ∧
    (∃ (s : State) (p : Profile), HandlerTakes s (profileFrame 7 p) [] ∧ p.valid ∧ s.aboveSnapshot 7 p) :=
  ⟨⟨asked (profileFrame 8 leastProfile) id, by decide +kernel, by unfold Profile.valid; decide +kernel⟩,
    ⟨asked (profileFrame 7 { leastProfile with high := 39 }) id, { leastProfile with high := 39 },
      by decide +kernel, by unfold Profile.valid; decide +kernel⟩,
    ⟨asked (profileFrame 0 leastProfile) id, leastProfile, by decide +kernel, by unfold Profile.valid; decide +kernel,
      fun h => absurd h.1 (by decide +kernel)⟩,
    ⟨asked (profileFrame 7 greatestProfile) id, greatestProfile, by decide +kernel,
      by unfold Profile.valid; decide +kernel,
      fun h => absurd h.1 (by decide +kernel)⟩,
    ⟨lockedBerth (profileFrame 7 greatestProfile) id, greatestProfile, by decide +kernel,
      by unfold Profile.valid; decide +kernel,
      rfl, _, rfl, by decide +kernel⟩⟩

/-- Classes 4 and 3, with a configured station in service, and the class already in force. -/
theorem witness_SetConditionByTheRules :
    (∃ (s : State) (cls : Nat), cls < 256 ∧ HandlerTakes s (0x09 :: 7 :: be8 cls) [] ∧ 3 < cls) ∧
    (∃ (s : State) (k : ConditionClass), HandlerTakes s (0x09 :: 7 :: be8 k.val) [] ∧
      (s.station 3).config.isSome = true) ∧
    (∃ (s : State) (k : ConditionClass), HandlerTakes s (0x09 :: 7 :: be8 k.val) [] ∧ k = s.profiles.condition ∧
      s.profilesEffective) :=
  ⟨⟨asked [0x09, 7, 4] id, 4, by decide +kernel⟩,
    ⟨asked [0x09, 7, 3] (inState .holding), 3, by decide +kernel⟩,
    ⟨asked [0x09, 7, 0] (inState .holding), 0, by decide +kernel, by decide +kernel,
      by unfold State.profilesEffective; decide +kernel⟩⟩

/-- COMMISSION_LOCK with the lock clear and with the lock set. -/
theorem witness_CommissionLockTakesSnapshots :
    (∃ s : State, HandlerTakes s [0x0A, 7] [] ∧ s.berth.locked = false) ∧
    (∃ s : State, HandlerTakes s [0x0A, 7] [] ∧ s.berth.locked = true) :=
  ⟨⟨asked [0x0A, 7] id, by decide +kernel⟩,
    ⟨lockedBerth [0x0A, 7] id, by decide +kernel⟩⟩

/-- The frame of a SET_COUNTER with the greatest value in every field but these two. -/
def counterFrame (number first : Byte) : List Byte :=
  0x13 :: 7 :: ([number, 1, 7, first, 11] ++ be16 10000 ++ [3] ++ be32 0xFFFFFFFF)

/-- A flags byte of 4, a body of 11 bytes, counter number 4, and every field at its greatest value. -/
theorem witness_SetCounterByTheRules :
    (∃ (s : State) (body : List Byte), HandlerTakes s (0x13 :: 7 :: body) [] ∧ body[7]? = some 4) ∧
    (∃ (s : State) (body : List Byte), HandlerTakes s (0x13 :: 7 :: body) [] ∧ body.length ≠ 12 ∧ body[7]? = some 0) ∧
    (∃ s : State, HandlerTakes s (counterFrame 4 11) [] ∧ ¬((4 : Byte).toNat ≤ 3) ∧ (3 : Byte).toNat < 4) ∧
    (∃ s : State, HandlerTakes s (counterFrame 3 11) [] ∧ (11 : Byte).toNat ≤ 11 ∧ (7 : Byte).toNat ≤ 7 ∧
      0xFFFFFFFF < 2 ^ 32 ∧ 10000 < 65536) :=
  ⟨⟨asked [0x13, 7, 0, 1, 0, 0, 11, 0, 0, 4] id, [0, 1, 0, 0, 11, 0, 0, 4], by decide +kernel⟩,
    ⟨asked (0x13 :: 7 :: List.replicate 11 0) id, List.replicate 11 0, by decide +kernel⟩,
    ⟨asked (counterFrame 4 11) id, by decide +kernel⟩,
    ⟨asked (counterFrame 3 11) id, by decide +kernel⟩⟩

/-- The part asked to store these items by CONFIGURE_BERTH. -/
def configuring (items : List (Nat × Nat)) : State := asked (0x06 :: 7 :: items.flatMap itemBytes) id

/-- Items at both ends of their ranges. -/
def edgeItems : List (Nat × Nat) := [(1, 50), (11, 6), (27, 0x07070700), (28, 0), (29, 3), (30, 60)]

/-- No item; items at both ends of their ranges; a ceiling that rises; a row named twice; another slot count with a holder;
a threshold above its snapshot under the lock. -/
theorem witness_ConfigureBerthByTheRules :
    (∃ (s : State) (items : List (Nat × Nat)), (∀ x ∈ items, wellSized x) ∧
      HandlerTakes s (0x06 :: 7 :: items.flatMap itemBytes) [] ∧
      items = []) ∧
    (∃ (s : State) (items : List (Nat × Nat)), (∀ x ∈ items, wellSized x) ∧
      HandlerTakes s (0x06 :: 7 :: items.flatMap itemBytes) [] ∧
      (∀ x ∈ items, rowInRange x.1 x.2) ∧ (items.map Prod.fst).Nodup ∧ s.dsa.holders = [] ∧ s.dsa.waiting = []) ∧
    (∃ (s : State) (items : List (Nat × Nat)), (∀ x ∈ items, wellSized x) ∧
      HandlerTakes s (0x06 :: 7 :: items.flatMap itemBytes) [] ∧
      ¬∀ x ∈ items, rowInRange x.1 x.2) ∧
    (∃ (s : State) (items : List (Nat × Nat)), (∀ x ∈ items, wellSized x) ∧
      HandlerTakes s (0x06 :: 7 :: items.flatMap itemBytes) [] ∧
      ¬(items.map Prod.fst).Nodup) ∧
    (∃ (s : State) (items : List (Nat × Nat)), (∀ x ∈ items, wellSized x) ∧
      HandlerTakes s (0x06 :: 7 :: items.flatMap itemBytes) [] ∧
      (∀ x ∈ items, rowInRange x.1 x.2) ∧ (∃ x ∈ items, x.1 = 11 ∧ x.2 ≠ s.dsa.slots) ∧ s.dsa.holders ≠ []) ∧
    (∃ (s : State) (items : List (Nat × Nat)), (∀ x ∈ items, wellSized x) ∧
      HandlerTakes s (0x06 :: 7 :: items.flatMap itemBytes) [] ∧
      (∀ x ∈ items, rowInRange x.1 x.2) ∧ s.berth.locked = true ∧ ∃ x ∈ items, ¬s.rowKeptByLock x.1 x.2) :=
  ⟨⟨configuring [], [], by unfold wellSized; decide +kernel, by decide +kernel, rfl⟩,
    ⟨configuring edgeItems, edgeItems, by unfold wellSized; decide +kernel, by decide +kernel,
      by simp [edgeItems, rowInRange],
      by decide +kernel⟩,
    ⟨configuring [(27, 0x03040000)], [(27, 0x03040000)], by unfold wellSized; decide +kernel, by decide +kernel,
      by simp [rowInRange]⟩,
    ⟨configuring [(30, 1), (30, 1)], [(30, 1), (30, 1)], by unfold wellSized; decide +kernel, by decide +kernel,
      by decide +kernel⟩,
    ⟨{ configuring [(11, 1)] with
      dsa := { Dsa.atReset with holders := [{ station := 3, cls := 2, grant := 1, slice := .absent, stopKind := .none }] } },
      [(11, 1)],
      by unfold wellSized; decide +kernel, by decide +kernel, by simp [rowInRange], by decide +kernel⟩,
    ⟨lockedBerth (0x06 :: 7 :: [(9, 301)].flatMap itemBytes) id, [(9, 301)], by unfold wellSized; decide +kernel,
      by decide +kernel, by simp [rowInRange], by decide +kernel, (9, 301),
      by decide +kernel, fun h => absurd (h.2 rfl 300 rfl) (by decide)⟩⟩

/-- A LOCK and a DEPLOY for the OFFLINE station 3, and a RELEASE with its rewind byte clear and set. -/
theorem witness_OfflineAnswersAbsent :
    (∃ s : State, (s.station 3).lcc.lineState = .offline ∧ HandlerTakes s (requestFor 0x0C 7 3 []) []) ∧
    (∃ s : State, (s.station 3).lcc.lineState = .offline ∧ HandlerTakes s (requestFor 0x0B 7 3 [0, 0, 1, 0]) []) ∧
    (∀ b ∈ [(0 : Byte), 1], ∃ s : State, (s.station 3).lcc.lineState = .offline ∧
      HandlerTakes s (requestFor 0x0D 7 3 [b]) []) :=
  ⟨⟨asked (requestFor 0x0C 7 3 []) id, by decide +kernel⟩,
    ⟨asked (requestFor 0x0B 7 3 [0, 0, 1, 0]) id, by decide +kernel⟩,
    fun b h => ⟨asked (requestFor 0x0D 7 3 [b]) id, by revert b h; decide +kernel⟩⟩

/-- Station 3 asked by a station request, in the state that `f` gives it. -/
def station3 (code : Byte) (fields : List Byte) (f : StationState → StationState) : State :=
  asked (requestFor code 7 3 fields) f

/-- A station whose sample stream is lost. -/
def streamless (t : StationState) : StationState := { t with mu := { t.mu with lost := true, age := 100 } }

/-- A station whose head is seated. -/
def seatedHead (t : StationState) : StationState :=
  { t with filters := { t.filters with headSeated := { level := true, held := none } } }

/-- A station whose head stands at its stowed sensor. -/
def stowedHead (t : StationState) : StationState :=
  { t with filters := { t.filters with stowed := { level := true, held := none } } }

/-- A station with a live arm. -/
def armed (t : StationState) : StationState := { t with lcc := { t.lcc with armExpiry := some 5000 } }

/-- A station at this tension. -/
def tensed (x : Nat) (t : StationState) : StationState := { t with mu := { t.mu with tension := x } }

/-- Seated head; targets of 0 and of T − reserve + 1, and the present length; a closed latch; the greatest target
accepted, and a count at Cmax. -/
theorem witness_DeployByTheRules :
    (∃ s : State, HandlerTakes s (requestFor 0x0B 7 3 (be24 1 ++ be8 0)) [] ∧ ¬(s.station 3).takesDeploy ∧
      (s.station 3).lcc.lineState = .stowed) ∧
    (∃ s : State, HandlerTakes s (requestFor 0x0B 7 3 (be24 0 ++ be8 0)) [] ∧ (s.station 3).takesDeploy ∧
      ¬(s.station 3).deployFits 0 0) ∧
    (∃ s : State, HandlerTakes s (requestFor 0x0B 7 3 (be24 209801 ++ be8 1)) [] ∧ (s.station 3).takesDeploy ∧
      ¬(s.station 3).deployFits 209801 1) ∧
    (∃ s : State, HandlerTakes s (requestFor 0x0B 7 3 (be24 75400 ++ be8 1)) [] ∧ (s.station 3).takesDeploy ∧
      ¬(s.station 3).deployFits 75400 1) ∧
    (∃ s : State, HandlerTakes s (requestFor 0x0B 7 3 (be24 1 ++ be8 1)) [] ∧ (s.station 3).takesDeploy ∧
      (s.station 3).deployFits 1 1 ∧ (s.station 3).latch ≠ .opened) ∧
    (∃ s : State, HandlerTakes s (requestFor 0x0B 7 3 (be24 209800 ++ be8 1)) [] ∧ (s.station 3).takesDeploy ∧
      (s.station 3).deployFits 209800 1 ∧ (s.station 3).latch = .opened ∧
      (s.station 3).mu.count ≠ (s.station 3).cmax) ∧
    (∃ s : State, HandlerTakes s (requestFor 0x0B 7 3 (be24 1 ++ be8 0)) [] ∧ (s.station 3).takesDeploy ∧
      (s.station 3).deployFits 1 0 ∧ (s.station 3).latch = .opened ∧
      (s.station 3).mu.count = (s.station 3).cmax) :=
  ⟨⟨station3 0x0B (be24 1 ++ be8 0) fun t => seatedHead (inState .stowed t), by decide +kernel,
    by unfold StationState.takesDeploy; decide +kernel, by decide +kernel⟩,
    ⟨station3 0x0B (be24 0 ++ be8 0) fun t => unlatched (inState .stowed t), by decide +kernel,
      by unfold StationState.takesDeploy; decide +kernel, by unfold StationState.deployFits; decide +kernel⟩,
    ⟨station3 0x0B (be24 209801 ++ be8 1) fun t => unlatched (inState .stowed t), by decide +kernel,
      by unfold StationState.takesDeploy; decide +kernel, by unfold StationState.deployFits; decide +kernel⟩,
    ⟨station3 0x0B (be24 75400 ++ be8 1) fun t => unlatched (counting 5120 (inState .lineOut t)),
      by decide +kernel, by unfold StationState.takesDeploy; decide +kernel,
        by unfold StationState.deployFits; decide +kernel⟩,
    ⟨station3 0x0B (be24 1 ++ be8 1) fun t => latched (inState .stowed t), by decide +kernel,
      by unfold StationState.takesDeploy; decide +kernel, by unfold StationState.deployFits; decide +kernel,
      by decide +kernel⟩,
    ⟨station3 0x0B (be24 209800 ++ be8 1) fun t => unlatched (inState .stowed t), by decide +kernel,
      by unfold StationState.takesDeploy; decide +kernel, by unfold StationState.deployFits; decide +kernel,
      by decide +kernel⟩,
    ⟨station3 0x0B (be24 1 ++ be8 0) fun t => unlatched (counting 15360 (inState .stowed t)), by decide +kernel,
      by unfold StationState.takesDeploy; decide +kernel, by unfold StationState.deployFits; decide +kernel,
      by decide +kernel⟩⟩

/-- LOCK in STOWED, and in SEATED with a good stream, with a lost one, and with the latch CLOSED already at count 1 and 0. -/
theorem witness_LockByTheRules :
    (∃ s : State, HandlerTakes s (requestFor 0x0C 7 3 []) [] ∧ (s.station 3).lcc.lineState = .stowed) ∧
    (∃ s : State, HandlerTakes s (requestFor 0x0C 7 3 []) [] ∧ (s.station 3).lcc.lineState = .seated ∧
      (s.station 3).mu.lost = false ∧
      (s.station 3).latch ≠ .closed) ∧
    (∃ s : State, HandlerTakes s (requestFor 0x0C 7 3 []) [] ∧ (s.station 3).lcc.lineState = .seated ∧
      (s.station 3).mu.lost = true) ∧
    (∃ s : State, HandlerTakes s (requestFor 0x0C 7 3 []) [] ∧ (s.station 3).lcc.lineState = .seated ∧
      (s.station 3).mu.lost = false ∧
      (s.station 3).latch = .closed ∧ (s.station 3).lpu.pulse = none ∧ s.settings.lockDelay = 0 ∧
        (s.station 3).mu.count ≠ 0) ∧
    (∃ s : State, HandlerTakes s (requestFor 0x0C 7 3 []) [] ∧ (s.station 3).lcc.lineState = .seated ∧
      (s.station 3).mu.lost = false ∧
      (s.station 3).latch = .closed ∧ (s.station 3).lpu.pulse = none ∧ s.settings.lockDelay = 0 ∧
        (s.station 3).mu.count = 0) :=
  ⟨⟨station3 0x0C [] (inState .stowed), by decide +kernel⟩,
    ⟨station3 0x0C [] fun t => unlatched (inState .seated t), by decide +kernel⟩,
    ⟨station3 0x0C [] fun t => streamless (inState .seated t), by decide +kernel⟩,
    ⟨station3 0x0C [] fun t => counting 1 (latched (inState .seated t)), by decide +kernel⟩,
    ⟨station3 0x0C [] fun t => latched (inState .seated t), by decide +kernel⟩⟩

/-- REWIND in HOLDING, and from LINE_OUT and SEATED: at count 0, at the stowed sensor, with a lost stream. -/
theorem witness_RewindByTheRules :
    (∃ s : State, HandlerTakes s (requestFor 0x0F 7 3 []) [] ∧ (s.station 3).lcc.lineState = .holding) ∧
    (∃ s : State, HandlerTakes s (requestFor 0x0F 7 3 []) [] ∧ (s.station 3).lcc.lineState = .lineOut ∧
      (s.station 3).mu.count = 0 ∧
      (s.station 3).filters.stowed.level = false ∧ (s.station 3).mu.lost = false) ∧
    (∃ s : State, HandlerTakes s (requestFor 0x0F 7 3 []) [] ∧ (s.station 3).lcc.lineState = .seated ∧
      (s.station 3).mu.count = 1 ∧
      (s.station 3).filters.stowed.level = false ∧ (s.station 3).mu.lost = false) ∧
    (∃ s : State, HandlerTakes s (requestFor 0x0F 7 3 []) [] ∧ (s.station 3).lcc.lineState = .lineOut ∧
      (s.station 3).filters.stowed.level = true) ∧
    (∃ s : State, HandlerTakes s (requestFor 0x0F 7 3 []) [] ∧ (s.station 3).lcc.lineState = .lineOut ∧
      (s.station 3).filters.stowed.level = false ∧
      (s.station 3).mu.lost = true) :=
  ⟨⟨station3 0x0F [] (inState .holding), by decide +kernel⟩,
    ⟨station3 0x0F [] (inState .lineOut), by decide +kernel⟩,
    ⟨station3 0x0F [] fun t => counting 1 (inState .seated t), by decide +kernel⟩,
    ⟨station3 0x0F [] fun t => stowedHead (inState .lineOut t), by decide +kernel⟩,
    ⟨station3 0x0F [] fun t => streamless (inState .lineOut t), by decide +kernel⟩⟩

/-- A station with an outward need. -/
def needing (t : StationState) : StationState :=
  { t with lcc := { t.lcc with need := some { cls := 3, dir := .outward, speed := 400 } } }

/-- A station whose drum runs at this demand. -/
def running (demand : Nat) (t : StationState) : StationState :=
  { t with dhu := { t.dhu with phase := .running, demand := demand, target := some { dir := .outward, speed := 400 },
                               stall := some { elapsed := 0, limit := 2000 } } }

/-- Station 3 as the one holder. -/
def held3 (s : State) : State :=
  { s with dsa := { s.dsa with
    holders := [{ station := 3, cls := 3, grant := 1, slice := .running 0, stopKind := .none }], grantSeq := 1 } }

/-- Station 3 as the one holder of one slot, for which station 4 waits. -/
def awaited (s : State) : State :=
  { (held3 s).setStation 4 (needing (inState .payingOut (State.reset.station 4))) with
    dsa := { (held3 s).dsa with slots := 1, waiting := [{ station := 4, cls := 3 }] } }

/-- The part with its filtered ZONE_HOLD asserted. -/
def zoned (s : State) : State := { s with zoneFilter := { level := true, held := none } }

/-- A station in this drive phase under this stop. -/
def phased (phase : DrivePhase) (request : StopRequest) (t : StationState) : StationState :=
  { t with dhu := { t.dhu with phase := phase, stopRequest := request } }

/-- A station whose brake is open. -/
def lifted (t : StationState) : StationState :=
  { t with filters := { t.filters with brakeOpen := { level := true, held := none } } }

/-- Station 3 asked to HALT in REWINDING, with a need, in this drive phase under this stop. -/
def halting (phase : DrivePhase) (request : StopRequest) : State :=
  station3 0x10 [] fun t => phased phase request (needing (inState .rewinding t))

/-- HALT in STOWED, and in PAYING_OUT while waiting and while running with a demand of 0 and of 400; in BRAKE_WAIT with the
brake open and set; in DRIVE_WAIT with nobody waiting; in HELD under zone hold with an entry that waits for the one slot,
and in DRIVE_WAIT with one; and with a stop under way. -/
theorem witness_HaltByTheRules :
    (∃ s : State, HandlerTakes s (requestFor 0x10 7 3 []) [] ∧ (s.station 3).lcc.lineState = .stowed) ∧
    (∃ s : State, HandlerTakes s (requestFor 0x10 7 3 []) [] ∧ (s.station 3).lcc.lineState = .payingOut ∧
      (s.station 3).lcc.need.isSome ∧
      s.dsa.waits 3 = true) ∧
    (∃ s : State, HandlerTakes s (requestFor 0x10 7 3 []) [] ∧ (s.station 3).lcc.lineState = .payingOut ∧
      (s.station 3).lcc.need.isSome ∧
      s.dsa.waits 3 = false ∧ (s.station 3).dhu.phase = .running ∧ (s.station 3).dhu.stopRequest = .none ∧
        (s.station 3).dhu.demand = 0) ∧
    (∃ s : State, HandlerTakes s (requestFor 0x10 7 3 []) [] ∧ (s.station 3).lcc.lineState = .rewinding ∧
      (s.station 3).lcc.need.isSome ∧
      s.dsa.waits 3 = false ∧ (s.station 3).dhu.phase = .running ∧ (s.station 3).dhu.stopRequest = .none ∧
        (s.station 3).dhu.demand ≠ 0) ∧
    (∀ opened : Bool, ∃ s : State, HandlerTakes s (requestFor 0x10 7 3 []) [] ∧
      (s.station 3).lcc.lineState = .rewinding ∧ (s.station 3).lcc.need.isSome ∧ s.dsa.waits 3 = false ∧
      s.dsa.holds 3 = true ∧ (s.station 3).dhu.phase = .brakeWait ∧ (s.station 3).dhu.stopRequest = .none ∧
      (s.station 3).filters.brakeOpen.level = opened) ∧
    (∃ s : State, HandlerTakes s (requestFor 0x10 7 3 []) [] ∧ (s.station 3).lcc.lineState = .rewinding ∧
      (s.station 3).lcc.need.isSome ∧ s.dsa.waits 3 = false ∧ s.dsa.holds 3 = true ∧
      (s.station 3).dhu.phase = .driveWait ∧ (s.station 3).dhu.stopRequest = .none ∧ s.dsa.waiting = []) ∧
    (∀ zone : Bool, ∃ (s : State) (need : Need), HandlerTakes s (requestFor 0x10 7 3 []) [] ∧
      (s.station 3).lcc.lineState = .rewinding ∧ (s.station 3).lcc.need.isSome ∧ s.dsa.waits 3 = false ∧
      s.dsa.holds 3 = true ∧ (s.station 3).dhu.phase = (if zone then .held else .driveWait) ∧
      (s.station 3).dhu.stopRequest = .none ∧ s.dsa.waiting = [{ station := 4, cls := 3 }] ∧
      (s.station 4).lcc.need = some need ∧
      (s.dsa.holders.filter fun h => decide (h.station ≠ 3)).length + 1 = s.dsa.slots ∧ s.zoneHold = zone ∧
      (s.station 4).filters.driveReady.level = false) ∧
    (∃ s : State, HandlerTakes s (requestFor 0x10 7 3 []) [] ∧ (s.station 3).lcc.lineState = .rewinding ∧
      (s.station 3).lcc.need.isSome ∧ s.dsa.waits 3 = false ∧ (s.station 3).dhu.phase = .stopping ∧
      (s.station 3).dhu.stopRequest = .normal) ∧
    (∃ s : State, HandlerTakes s (requestFor 0x10 7 3 []) [] ∧ (s.station 3).lcc.lineState = .rewinding ∧
      (s.station 3).lcc.need.isSome ∧ s.dsa.waits 3 = false ∧ (s.station 3).dhu.phase = .setting ∧
      (s.station 3).dhu.stopRequest = .none) :=
  ⟨⟨station3 0x10 [] (inState .stowed), by decide +kernel⟩,
    ⟨{ station3 0x10 [] (fun t => needing (inState .payingOut t)) with
      dsa := { Dsa.atReset with waiting := [{ station := 3, cls := 3 }] } },
      by decide +kernel⟩,
    ⟨held3 (station3 0x10 [] fun t => running 0 (needing (inState .payingOut t))), by decide +kernel⟩,
    ⟨held3 (station3 0x10 [] fun t => running 400 (needing (inState .rewinding t))), by decide +kernel⟩,
    fun opened => ⟨held3 (if opened then
        station3 0x10 [] fun t => lifted (phased .brakeWait .none (needing (inState .rewinding t)))
      else halting .brakeWait .none), by cases opened <;> decide +kernel⟩,
    ⟨held3 (halting .driveWait .none), by decide +kernel⟩,
    fun zone => ⟨if zone then zoned (awaited (halting .held .none)) else awaited (halting .driveWait .none),
      { cls := 3, dir := .outward, speed := 400 }, by cases zone <;> decide +kernel⟩,
    ⟨held3 (halting .stopping .normal), by decide +kernel⟩,
    ⟨held3 (halting .setting .none), by decide +kernel⟩⟩

/-- RELEASE in PAYING_OUT; at the threshold without an arm; accepted in LINE_OUT, SEATED and HOLDING, with a lost
stream, and with the latch OPEN already. -/
theorem witness_ReleaseByTheRules :
    (∃ s : State, HandlerTakes s (requestFor 0x0D 7 3 []) [] ∧ ¬(s.station 3).takesRelease ∧
      (s.station 3).lcc.lineState = .payingOut) ∧
    (∃ s : State, HandlerTakes s (requestFor 0x0D 7 3 []) [] ∧ (s.station 3).takesRelease ∧
      s.settings.releaseThreshold ≤ (s.station 3).mu.tension ∧ (s.station 3).lcc.armExpiry = none ∧
        (s.station 3).lcc.lineState = .holding) ∧
    (∃ s : State, HandlerTakes s (requestFor 0x0D 7 3 [1]) [] ∧ (s.station 3).takesRelease ∧
      (s.station 3).mu.tension < s.settings.releaseThreshold ∧ (s.station 3).lcc.lineState = .lineOut) ∧
    (∃ s : State, HandlerTakes s (requestFor 0x0D 7 3 [0]) [] ∧ (s.station 3).takesRelease ∧
      (s.station 3).mu.tension < s.settings.releaseThreshold ∧ (s.station 3).lcc.lineState = .seated) ∧
    (∃ s : State, HandlerTakes s (requestFor 0x0D 7 3 [1]) [] ∧ (s.station 3).takesRelease ∧
      (s.station 3).mu.tension < s.settings.releaseThreshold ∧ (s.station 3).lcc.lineState = .seated) ∧
    (∃ s : State, HandlerTakes s (requestFor 0x0D 7 3 []) [] ∧ (s.station 3).takesRelease ∧
      (s.station 3).lcc.armExpiry ≠ none ∧ 300 ≤ (s.station 3).mu.tension ∧ (s.station 3).lcc.lineState = .holding ∧
        (s.station 3).mu.lost = false ∧
      (s.station 3).latch ≠ .opened) ∧
    (∃ s : State, HandlerTakes s (requestFor 0x0D 7 3 [1]) [] ∧ (s.station 3).takesRelease ∧
      (s.station 3).mu.tension < s.settings.releaseThreshold ∧ (s.station 3).lcc.lineState = .fault ∧
        (s.station 3).mu.lost = true) ∧
    (∃ s : State, HandlerTakes s (requestFor 0x0D 7 3 [1]) [] ∧ (s.station 3).takesRelease ∧
      (s.station 3).mu.tension < s.settings.releaseThreshold ∧ (s.station 3).lcc.lineState = .fault ∧
        (s.station 3).mu.lost = false ∧
      (s.station 3).latch = .opened ∧ (s.station 3).filters.stowed.level = false ∧ (s.station 3).mu.count ≠ 0) ∧
    (∃ s : State, HandlerTakes s (requestFor 0x0D 7 3 [1]) [] ∧ (s.station 3).takesRelease ∧
      (s.station 3).mu.tension < s.settings.releaseThreshold ∧ (s.station 3).lcc.lineState = .fault ∧
      (s.station 3).mu.lost = false ∧ (s.station 3).lpu.pulse = none ∧ s.settings.releaseDelay = 0 ∧
      (s.station 3).latch = .opened ∧ (s.station 3).filters.stowed.level = true) ∧
    (∃ s : State, HandlerTakes s (requestFor 0x0D 7 3 [1]) [] ∧ (s.station 3).takesRelease ∧
      (s.station 3).mu.tension < s.settings.releaseThreshold ∧ (s.station 3).lcc.lineState = .fault ∧
      (s.station 3).mu.lost = false ∧ (s.station 3).lpu.pulse = none ∧ s.settings.releaseDelay = 0 ∧
      (s.station 3).latch = .opened ∧ (s.station 3).filters.stowed.level = false ∧ (s.station 3).mu.count = 0) :=
  ⟨⟨station3 0x0D [] fun t => inState .payingOut t, by decide +kernel,
    by unfold StationState.takesRelease; decide +kernel, by decide +kernel⟩,
    ⟨station3 0x0D [] fun t => tensed 300 (latched (inState .holding t)), by decide +kernel,
      by unfold StationState.takesRelease; decide +kernel, by decide +kernel⟩,
    ⟨station3 0x0D [1] fun t => tensed 299 (inState .lineOut t), by decide +kernel,
      by unfold StationState.takesRelease; decide +kernel, by decide +kernel⟩,
    ⟨station3 0x0D [0] fun t => inState .seated t, by decide +kernel,
      by unfold StationState.takesRelease; decide +kernel, by decide +kernel⟩,
    ⟨station3 0x0D [1] fun t => inState .seated t, by decide +kernel,
      by unfold StationState.takesRelease; decide +kernel, by decide +kernel⟩,
    ⟨station3 0x0D [] fun t => armed (tensed 2200 (latched (inState .holding t))), by decide +kernel,
      by unfold StationState.takesRelease; decide +kernel, by decide +kernel⟩,
    ⟨station3 0x0D [1] fun t => streamless (faulted (inState .fault t)), by decide +kernel,
      by unfold StationState.takesRelease; decide +kernel, by decide +kernel⟩,
    ⟨station3 0x0D [1] fun t => counting 1 (unlatched (faulted (inState .fault t))), by decide +kernel,
      by unfold StationState.takesRelease; decide +kernel, by decide +kernel⟩,
    ⟨station3 0x0D [1] fun t => stowedHead (unlatched (faulted (inState .fault t))), by decide +kernel,
      by unfold StationState.takesRelease; decide +kernel, by decide +kernel⟩,
    ⟨station3 0x0D [1] fun t => unlatched (faulted (inState .fault t)), by decide +kernel,
      by unfold StationState.takesRelease; decide +kernel, by decide +kernel⟩⟩

/-- ARM_RELEASE in STOWED and in LOCKING, and an arm whose expiry is the present time. -/
theorem witness_ArmBeginsAndExpires :
    (∃ s : State, HandlerTakes s (requestFor 0x0E 7 3 []) [] ∧ (s.station 3).lcc.lineState = .stowed) ∧
    (∃ s : State, HandlerTakes s (requestFor 0x0E 7 3 []) [] ∧ (s.station 3).lcc.lineState = .locking ∧
      (s.station 3).lcc.armExpiry = none) ∧
    (∃ s : State, (s.station 3).lcc.armExpiry = some s.timeBase) :=
  ⟨⟨station3 0x0E [] (inState .stowed), by decide +kernel⟩,
    ⟨station3 0x0E [] (inState .locking), by decide +kernel⟩,
    ⟨{ berth (fun t => armed (inState .holding t)) with timeBase := 5000 }, by decide +kernel⟩⟩

/-- SELECT_PROFILE 8 and 7 at a configured station in service. -/
theorem witness_SelectProfileByTheRules :
    (∃ s : State, HandlerTakes s (requestFor 0x11 7 3 [8]) [] ∧ (s.station 3).config = some drum ∧
      (s.station 3).lcc.lineState = .holding ∧
      7 < (8 : Byte).toNat) ∧
    (∃ (s : State) (k : ProfileNo), HandlerTakes s (requestFor 0x11 7 3 [7]) [] ∧ (s.station 3).config = some drum ∧
      (s.station 3).lcc.lineState = .fault ∧
      k.val = (7 : Byte).toNat) :=
  ⟨⟨station3 0x11 [8] (inState .holding), by decide +kernel⟩,
    ⟨station3 0x11 [7] (inState .fault), 7, by decide +kernel⟩⟩

/-- Nothing to clear; a lost stream; a record kept in HOLDING; FAULT left at the stowed sensor, into HOLDING and into
LINE_OUT. -/
theorem witness_ClearFaultByTheRules :
    (∃ s : State, HandlerTakes s (requestFor 0x12 7 3 []) [] ∧ (s.station 3).lcc.lineState = .holding ∧
      (s.station 3).lcc.fault = none ∧
      (s.station 3).lcc.overloadHeld = false) ∧
    (∃ s : State, HandlerTakes s (requestFor 0x12 7 3 []) [] ∧ (s.station 3).lcc.lineState = .fault ∧
      s.conditionPresent 3) ∧
    (∃ s : State, HandlerTakes s (requestFor 0x12 7 3 []) [] ∧ (s.station 3).lcc.lineState = .holding ∧
      (s.station 3).lcc.fault ≠ none ∧
      ¬s.conditionPresent 3) ∧
    (∃ s : State, HandlerTakes s (requestFor 0x12 7 3 []) [] ∧ (s.station 3).lcc.lineState = .fault ∧
      (s.station 3).filters.stowed.level = true ∧
      ¬s.conditionPresent 3) ∧
    (∃ s : State, HandlerTakes s (requestFor 0x12 7 3 []) [] ∧ (s.station 3).lcc.lineState = .fault ∧
      (s.station 3).filters.stowed.level = false ∧
      (s.station 3).latch = .closed ∧ (s.station 3).filters.headSeated.level = true ∧ ¬s.conditionPresent 3) ∧
    (∃ s : State, HandlerTakes s (requestFor 0x12 7 3 []) [] ∧ (s.station 3).lcc.lineState = .fault ∧
      (s.station 3).filters.stowed.level = false ∧
      (s.station 3).latch = .moving ∧ ¬s.conditionPresent 3) :=
  ⟨⟨station3 0x12 [] (inState .holding), by decide +kernel⟩,
    ⟨station3 0x12 [] fun t => streamless (faulted (inState .fault t)), by decide +kernel, by decide +kernel,
      by unfold State.conditionPresent; decide +kernel⟩,
    ⟨station3 0x12 [] fun t => latched (faulted (inState .holding t)), by decide +kernel, by decide +kernel,
      by decide +kernel, by unfold State.conditionPresent; decide +kernel⟩,
    ⟨station3 0x12 [] fun t => stowedHead (faulted (inState .fault t)), by decide +kernel, by decide +kernel,
      by decide +kernel, by unfold State.conditionPresent; decide +kernel⟩,
    ⟨station3 0x12 [] fun t => seatedHead (latched (faulted (inState .fault t))), by decide +kernel,
      by decide +kernel, by decide +kernel, by decide +kernel, by decide +kernel,
      by unfold State.conditionPresent; decide +kernel⟩,
    ⟨station3 0x12 [] fun t => faulted (inState .fault t), by decide +kernel, by decide +kernel, by decide +kernel,
      by decide +kernel, by unfold State.conditionPresent; decide +kernel⟩⟩

/-- What a CONFIGURE_STATION carries for the drum of Table 2-4, with its reserve and take-up limit left out. -/
def carried (inService : Bool) (estimate : Option Nat) : CarriedConfig :=
  { inService := inService, countsPerRev := 256, layers := drum.layers, zero := 1000, span := 1229, requested := 5,
    autoRelease := true, reserve := 5000, takeupLimit := 10000, estimate := estimate }

/-- Station 3 asked to take this configuration. -/
def configured (c : CarriedConfig) (f : StationState → StationState) : State :=
  station3 0x07 (c.encode false false) f

/-- Adoption at the stowed sensor without an estimate, and with the estimate Cmax into HOLDING and into LINE_OUT. -/
theorem witness_AdoptionByTheSensors :
    (∃ s : State, HandlerTakes s (requestFor 0x07 7 3 ((carried true none).encode false false)) [] ∧
      (carried true none).encodable false false ∧ (carried true none).valid ∧ (s.station 3).lcc.lineState = .offline ∧
      (s.station 3).filters.stowed.level = true ∧ s.berth.locked = false) ∧
    (∃ s : State, HandlerTakes s (requestFor 0x07 7 3 ((carried true (some 15360)).encode false false)) [] ∧
      (carried true (some 15360)).encodable false false ∧ (carried true (some 15360)).valid ∧
        (s.station 3).lcc.lineState = .offline ∧
      (s.station 3).filters.stowed.level = false ∧ (s.station 3).latch = .closed ∧
        (s.station 3).filters.headSeated.level = true) ∧
    (∃ s : State, HandlerTakes s (requestFor 0x07 7 3 ((carried true (some 15360)).encode false false)) [] ∧
      (carried true (some 15360)).encodable false false ∧ (carried true (some 15360)).valid ∧
        (s.station 3).lcc.lineState = .offline ∧
      (s.station 3).filters.stowed.level = false ∧ (s.station 3).latch ≠ .closed) :=
  ⟨⟨configured (carried true none) stowedHead, by decide +kernel, by unfold CarriedConfig.encodable; decide +kernel,
    by unfold CarriedConfig.valid; decide +kernel, by decide +kernel⟩,
    ⟨configured (carried true (some 15360)) fun t => seatedHead (latched t), by decide +kernel,
      by unfold CarriedConfig.encodable; decide +kernel, by unfold CarriedConfig.valid; decide +kernel,
      by decide +kernel⟩,
    ⟨configured (carried true (some 15360)) seatedHead, by decide +kernel,
      by unfold CarriedConfig.encodable; decide +kernel, by unfold CarriedConfig.valid; decide +kernel,
      by decide +kernel⟩⟩

/-- Each refusal in turn, leaving service from STOWED, and a configuration stored in STOWED. -/
theorem witness_ConfigureStationByTheRules :
    (∃ s : State, HandlerTakes s (requestFor 0x07 7 3 ((carried false none).encode false false)) [] ∧
      (carried false none).encodable false false ∧ ¬(s.station 3).takesConfig (carried false none) ∧
        (s.station 3).lcc.lineState = .stowed) ∧
    (∃ s : State, HandlerTakes s (requestFor 0x07 7 3 ((carried true (some 15361)).encode false false)) [] ∧
      (carried true (some 15361)).encodable false false ∧ (s.station 3).takesConfig (carried true (some 15361)) ∧
      ¬(carried true (some 15361)).valid) ∧
    (∃ s : State, HandlerTakes s (requestFor 0x07 7 3 ((carried true none).encode false false)) [] ∧
      (carried true none).encodable false false ∧ (s.station 3).takesConfig (carried true none) ∧
      (carried true none).valid ∧ s.berth.locked = true ∧ ¬(carried true none).keptByLock (s.station 3).config) ∧
    (∃ s : State, HandlerTakes s (requestFor 0x07 7 3 ((carried true none).encode false false)) [] ∧
      (carried true none).encodable false false ∧ (s.station 3).takesConfig (carried true none) ∧
      (carried true none).valid ∧ (s.station 3).lcc.lineState = .offline ∧ (s.station 3).filters.stowed.level = false) ∧
    (∃ s : State, HandlerTakes s (requestFor 0x07 7 3 ((carried false none).encode false false)) [] ∧
      (carried false none).encodable false false ∧ (s.station 3).takesConfig (carried false none) ∧
      (carried false none).valid ∧ (s.station 3).lcc.lineState = .stowed ∧ (s.station 3).lcc.need = none) ∧
    (∃ s : State, HandlerTakes s (requestFor 0x07 7 3 ((carried true none).encode false false)) [] ∧
      (carried true none).encodable false false ∧ (s.station 3).takesConfig (carried true none) ∧
      (carried true none).valid ∧ (s.station 3).lcc.lineState = .stowed) :=
  ⟨⟨configured (carried false none) fun t => running 0 (inState .stowed t), by decide +kernel,
    by unfold CarriedConfig.encodable; decide +kernel,
      fun h => absurd (show false = true ∨ (DrivePhase.running = .idle ∧ _) from h) (by simp), by decide +kernel⟩,
    ⟨configured (carried true (some 15361)) id, by decide +kernel, by unfold CarriedConfig.encodable; decide +kernel,
      trivial,
      by unfold CarriedConfig.valid; decide +kernel⟩,
    ⟨lockedBerth (requestFor 0x07 7 3 ((carried true none).encode false false)) id, by decide +kernel,
      by unfold CarriedConfig.encodable; decide +kernel, trivial, by unfold CarriedConfig.valid; decide +kernel,
      by decide +kernel,
      fun ⟨_, h, _⟩ => nomatch (show (none : Option StationConfig) = some _ from h)⟩,
    ⟨configured (carried true none) id, by decide +kernel, by unfold CarriedConfig.encodable; decide +kernel, trivial,
      by unfold CarriedConfig.valid; decide +kernel, by decide +kernel⟩,
    ⟨configured (carried false none) (inState .stowed), by decide +kernel,
      by unfold CarriedConfig.encodable; decide +kernel, Or.inr ⟨rfl, rfl, rfl⟩,
      by unfold CarriedConfig.valid; decide +kernel, by decide +kernel⟩,
    ⟨configured (carried true none) (inState .stowed), by decide +kernel,
      by unfold CarriedConfig.encodable; decide +kernel, Or.inl rfl, by unfold CarriedConfig.valid; decide +kernel,
      by decide +kernel⟩⟩

/-! ### Witnesses: the events -/

/-- A station with these bytes of a sample record held. -/
def holdingBytes (bytes : List Byte) (t : StationState) : StationState :=
  { t with mu := { t.mu with sampleHeld := bytes } }

/-- The third row of Table 2-5 as one run; an OVER_RANGE record whose last byte comes alone, at a station that lost its
stream. -/
theorem witness_GoodRecordStored :
    (∃ (s : State) (bytes : List Byte), (s.station 3).lcc.lineState = .holding ∧ (s.station 3).config = some drum ∧
      (s.station 3).mu.sampleHeld.length < 4 ∧
      (s.station 3).mu.sampleHeld ++ bytes = [0, 0x9C, 0x40, 0 ^^^ 0x9C ^^^ 0x40]) ∧
    (∃ (s : State) (bytes : List Byte), (s.station 3).lcc.lineState = .lineOut ∧ (s.station 3).config = some drum ∧
      (s.station 3).mu.sampleHeld.length < 4 ∧
      (s.station 3).mu.sampleHeld ++ bytes = [1, 0x30, 0x39, 1 ^^^ 0x30 ^^^ 0x39] ∧
        (s.station 3).sampleLostAlarm = true) :=
  ⟨⟨berth (inState .holding), [0, 0x9C, 0x40, 0xDC], by decide +kernel⟩,
    ⟨berth (fun t => holdingBytes [1, 0x30, 0x39] (streamless (inState .lineOut t))), [8], by decide +kernel⟩⟩

/-- A CONVERTER_FAULT, a wrong check byte, a good record at an OFFLINE station, a last byte with more behind it, and a whole
record held. -/
theorem witness_OtherRecordsDiscarded :
    (∃ s : State, (s.station 3).mu.sampleHeld ++ [2, 0, 0, 2] = [2, 0, 0, 2] ∧ 2 ≤ (2 : Byte).toNat ∧
      (s.station 3).lcc.lineState = .holding) ∧
    (∃ s : State, (s.station 3).mu.sampleHeld ++ [0, 1, 1, 1] = [0, 1, 1, 1] ∧ (1 : Byte) ≠ 0 ^^^ 1 ^^^ 1 ∧
      (s.station 3).lcc.lineState = .holding) ∧
    (∃ s : State, (s.station 3).mu.sampleHeld ++ [0, 1, 1, 0] = [0, 1, 1, 0] ∧
      (s.station 3).lcc.lineState = .offline) ∧
    (∃ (s : State) (bytes more : List Byte), (s.station 3).mu.sampleHeld.length + bytes.length = 4 ∧ bytes ≠ [] ∧
      more ≠ []) ∧
    (∃ (s : State) (more : List Byte), (s.station 3).mu.sampleHeld.length = 4 ∧ more ≠ []) :=
  ⟨⟨berth (inState .holding), by decide +kernel⟩,
    ⟨berth (inState .holding), by decide +kernel⟩,
    ⟨berth id, by decide +kernel⟩,
    ⟨berth fun t => holdingBytes [0, 1, 1] (inState .holding t), [0], [7, 7], by decide +kernel⟩,
    ⟨berth fun t => holdingBytes [0, 1, 1, 0] (inState .holding t), [7], by decide +kernel⟩⟩

/-- A counter of samples of station 3 at or above 4000. -/
def tally : Counter := { Counter.atReset with enabled := true, first := 3, last := 3, threshold := 4000 }

/-- The part with this counter 0. -/
def counted (c : Counter) (s : State) : State := { s with counters := s.counters.set 0 c }

/-- A STOWED station with a counter at the end of its range about to wrap, one with the edge flag after a false
condition, and one whose range ends before it; a station in HOLDING with a counter that tests it, one whose range ends
before it, and a disabled one of another kind. -/
theorem witness_SampleCounted :
    (∃ s : State, (s.station 3).lcc.lineState = .stowed ∧ (s.station 3).config = some drum ∧
      (s.station 3).mu.sampleHeld = [] ∧
      (s.counters.get 0).tests 3 ∧ (s.counters.get 0).counts 3 10000 = true ∧
        (s.counters.get 0).value = BitVec.allOnes 32) ∧
    (∃ s : State, (s.station 3).lcc.lineState = .lineOut ∧ (s.station 3).config = some drum ∧
      (s.station 3).mu.sampleHeld = [] ∧
      (s.counters.get 0).tests 3 ∧ (s.counters.get 0).counts 3 4000 = true ∧ (s.counters.get 0).edge = true) ∧
    (∃ s : State, (s.station 3).lcc.lineState = .lineOut ∧ (s.station 3).config = some drum ∧
      ¬(s.counters.get 0).tests 3) ∧
    (∃ s : State, (s.station 3).lcc.lineState = .holding ∧ (s.station 3).config = some drum ∧
      (s.station 3).mu.sampleHeld = [] ∧ (s.counters.get 0).tests 3 ∧ (s.counters.get 0).counts 3 4000 = true) ∧
    (∃ s : State, (s.station 3).lcc.lineState = .holding ∧ (s.station 3).config = some drum ∧
      ¬(s.counters.get 0).tests 3 ∧ (s.counters.get 0).kind = .tensionSample) ∧
    (∃ s : State, (s.station 3).lcc.lineState = .holding ∧ (s.station 3).config = some drum ∧
      ¬(s.counters.get 0).tests 3 ∧ (s.counters.get 0).enabled = false ∧ (s.counters.get 0).kind = .adjustStart) :=
  ⟨⟨counted { tally with value := BitVec.allOnes 32 } (berth (inState .stowed)), by decide +kernel, by decide +kernel,
    by decide +kernel, by unfold Counter.tests; decide +kernel,
      by decide +kernel⟩,
    ⟨counted { tally with edge := true, memory := tally.memory.set 3 (some false) } (berth (inState .lineOut)),
      by decide +kernel, by decide +kernel, by decide +kernel, by unfold Counter.tests; decide +kernel,
      by decide +kernel⟩,
    ⟨counted { tally with first := 0, last := 2 } (berth (inState .lineOut)), by decide +kernel, by decide +kernel,
      by unfold Counter.tests; decide +kernel⟩,
    ⟨counted tally (berth (inState .holding)), by decide +kernel, by decide +kernel, by decide +kernel,
      by unfold Counter.tests; decide +kernel, by decide +kernel⟩,
    ⟨counted { tally with first := 0, last := 2 } (berth (inState .holding)), by decide +kernel, by decide +kernel,
      by unfold Counter.tests; decide +kernel, by decide +kernel⟩,
    ⟨counted { tally with enabled := false, kind := .adjustStart } (berth (inState .holding)), by decide +kernel,
      by decide +kernel, by unfold Counter.tests; decide +kernel, by decide +kernel, by decide +kernel⟩⟩

/-- The station of Table 3-8 with this dose, and with this permission to release by itself. -/
def dosed (dose : Nat) (permitted : Bool) (t : StationState) : StationState :=
  let u := holding t
  { u with config := u.config.map fun c => { c with autoRelease := permitted }, lcc := { u.lcc with dose := dose } }

/-- The drum of Table 3-8, whose raw codes are its tensions. -/
def plain : StationConfig := { drum with zero := 0, span := 4096 }

/-- The station of Table 3-8 with this dose, permitted to release by itself, with its latch MOVING, in this line state. -/
def unlatchedIn (l : LineState) (dose : Nat) (t : StationState) : StationState :=
  let u := dosed dose true t
  { u with lcc := { u.lcc with lineState := l, adjustDir := if l = .adjusting then some .inward else none }
           filters := { u.filters with latchClosed := { level := false, held := none } } }

/-- A dose below the limit, and one that meets the limit of 20 000 exactly, with and without the permission to release; the
same in FAULT; with the latch MOVING in TAKING_UP and ADJUSTING, and OPEN in HOLDING; and, the latch MOVING, a dose below
the limit at count Cmax, where the re-tension outward goes on to FAULT. -/
theorem witness_DoseAtSample :
    (∃ s : State, (s.station 3).lcc.lineState = .holding ∧ (s.station 3).latch = .closed ∧
      (s.station 3).config = some plain ∧ (s.station 3).lcc.effective = some 5 ∧
      (s.station 3).mu.sampleHeld = [] ∧ s.doseGrown 3 5 8000 < s.doseLimitFor 3 5) ∧
    (∃ s : State, (s.station 3).lcc.lineState = .holding ∧ (s.station 3).latch = .closed ∧
      (s.station 3).config = some plain ∧ (s.station 3).lcc.effective = some 5 ∧
      (s.station 3).mu.sampleHeld = [] ∧ s.doseGrown 3 5 8000 = s.doseLimitFor 3 5) ∧
    (∃ s : State, (s.station 3).lcc.lineState = .holding ∧ (s.station 3).latch = .closed ∧
      (s.station 3).config = some { plain with autoRelease := false } ∧ (s.station 3).lcc.effective = some 5 ∧
        (s.station 3).mu.sampleHeld = [] ∧
      s.doseGrown 3 5 8000 = s.doseLimitFor 3 5) ∧
    (∃ s : State, (s.station 3).lcc.lineState = .fault ∧ (s.station 3).latch = .closed ∧
      (s.station 3).config = some plain ∧ (s.station 3).lcc.effective = some 5 ∧
      (s.station 3).mu.sampleHeld = [] ∧ s.doseGrown 3 5 8000 = s.doseLimitFor 3 5) ∧
    (∀ l ∈ [LineState.takingUp, .adjusting], ∃ s : State, (s.station 3).lcc.lineState = l ∧
      (s.station 3).latch = .moving ∧ (s.station 3).config = some plain ∧ (s.station 3).lcc.effective = some 5 ∧
      (s.station 3).mu.sampleHeld = [] ∧ s.doseGrown 3 5 8000 = s.doseLimitFor 3 5) ∧
    (∃ s : State, (s.station 3).lcc.lineState = .holding ∧ (s.station 3).latch = .opened ∧
      (s.station 3).config = some plain ∧ (s.station 3).lcc.effective = some 5 ∧
      (s.station 3).mu.sampleHeld = [] ∧ s.doseGrown 3 5 8000 = s.doseLimitFor 3 5) ∧
    (∃ s : State, (s.station 3).lcc.lineState = .holding ∧ (s.station 3).latch = .moving ∧
      (s.station 3).config = some plain ∧ (s.station 3).lcc.effective = some 5 ∧
      (s.station 3).mu.sampleHeld = [] ∧ s.doseGrown 3 5 8000 < s.doseLimitFor 3 5 ∧
      (s.station 3).mu.count = (s.station 3).cmax ∧ (s.profile 5).high < 8000) :=
  ⟨⟨berth (dosed 15999 true), by decide +kernel⟩,
    ⟨berth (dosed 16000 true), by decide +kernel⟩,
    ⟨berth (dosed 16000 false), by decide +kernel⟩,
    ⟨berth fun t => latched (unlatchedIn .fault 16000 t), by decide +kernel⟩,
    fun l h => ⟨berth (unlatchedIn l 16000), by revert l h; decide +kernel⟩,
    ⟨berth fun t => unlatched (unlatchedIn .holding 16000 t), by decide +kernel⟩,
    ⟨berth fun t => counting 15360 (unlatchedIn .holding 15999 t), by decide +kernel⟩⟩

/-- The station of Table 3-8 with this current profile. -/
def settledIn (k : Option ProfileNo) (t : StationState) : StationState :=
  let u := holding t
  { u with lcc := { u.lcc with current := k } }

/-- A station with no permission to release by itself whose dose stands past its limit of 20 000 even after a leak. -/
def heavy (t : StationState) : StationState :=
  { t with config := t.config.map fun c => { c with autoRelease := false }, lcc := { t.lcc with dose := 20100 } }

/-- Tensions at the edges of the band 1600..2800 and the inner window 1900..2500 of profile 5, with the current profile
the effective one and another one; and above the band with the count at Cmax, below it with the count at 0; and an
overload event that only latches, above the band and at the edge of the inner window. -/
theorem witness_HoldingDecisions :
    (∃ s : State, (s.station 3).lcc.lineState = .holding ∧ (s.station 3).config = some plain ∧
      (s.station 3).lcc.effective = some 5 ∧
      plain.tensionOfRecord 0 0xa 0xf1 = 2801 ∧ s.doseGrown 3 5 2801 < s.doseLimitFor 3 5 ∧
        (s.station 3).mu.count = 6000 ∧
      (s.profile 5).high < 2801) ∧
    (∃ s : State, (s.station 3).lcc.lineState = .holding ∧ (s.station 3).config = some plain ∧
      (s.station 3).lcc.effective = some 5 ∧
      plain.tensionOfRecord 0 0x6 0x3f = 1599 ∧ s.doseGrown 3 5 1599 < s.doseLimitFor 3 5 ∧
        (s.station 3).mu.count = 6000 ∧
      1599 < (s.profile 5).low) ∧
    (∃ s : State, (s.station 3).lcc.lineState = .holding ∧ (s.station 3).config = some plain ∧
      (s.station 3).lcc.effective = some 5 ∧
      plain.tensionOfRecord 0 0xa 0xf0 = 2800 ∧ s.doseGrown 3 5 2800 < s.doseLimitFor 3 5 ∧
        (s.station 3).mu.count = 6000 ∧
      (s.station 3).lcc.current = some 5 ∧ 2800 = (s.profile 5).high) ∧
    (∃ s : State, (s.station 3).lcc.lineState = .holding ∧ (s.station 3).config = some plain ∧
      (s.station 3).lcc.effective = some 5 ∧
      plain.tensionOfRecord 0 0x9 0xc4 = 2500 ∧ s.doseGrown 3 5 2500 < s.doseLimitFor 3 5 ∧
        (s.station 3).mu.count = 6000 ∧
      (s.station 3).lcc.current ≠ some 5 ∧ 2500 = (s.profile 5).windowHigh) ∧
    (∃ s : State, (s.station 3).lcc.lineState = .holding ∧ (s.station 3).config = some plain ∧
      (s.station 3).lcc.effective = some 5 ∧
      plain.tensionOfRecord 0 0x9 0xc5 = 2501 ∧ s.doseGrown 3 5 2501 < s.doseLimitFor 3 5 ∧
        (s.station 3).mu.count = 6000 ∧
      (s.station 3).lcc.current ≠ some 5 ∧ (s.profile 5).windowHigh < 2501 ∧ 2501 ≤ (s.profile 5).high) ∧
    (∃ s : State, (s.station 3).lcc.lineState = .holding ∧ (s.station 3).config = some plain ∧
      (s.station 3).lcc.effective = some 5 ∧
      plain.tensionOfRecord 0 0x7 0x6b = 1899 ∧ s.doseGrown 3 5 1899 < s.doseLimitFor 3 5 ∧
        (s.station 3).mu.count = 6000 ∧
      (s.station 3).lcc.current ≠ some 5 ∧ 1899 < (s.profile 5).windowLow ∧ (s.profile 5).low ≤ 1899) ∧
    (∃ s : State, (s.station 3).lcc.lineState = .holding ∧ (s.station 3).config = some plain ∧
      (s.station 3).lcc.effective = some 5 ∧
      plain.tensionOfRecord 0 0xa 0xf1 = 2801 ∧ s.doseGrown 3 5 2801 < s.doseLimitFor 3 5 ∧
      (s.profile 5).high < 2801 ∧ (s.station 3).atEnd .outward) ∧
    (∃ s : State, (s.station 3).lcc.lineState = .holding ∧ (s.station 3).config = some plain ∧
      (s.station 3).lcc.effective = some 5 ∧
      plain.tensionOfRecord 0 0x6 0x3f = 1599 ∧ s.doseGrown 3 5 1599 < s.doseLimitFor 3 5 ∧
      1599 < (s.profile 5).low ∧ (s.station 3).atEnd .inward) ∧
    (∃ s : State, (s.station 3).lcc.lineState = .holding ∧ (s.station 3).config = some { plain with autoRelease := false } ∧
      (s.station 3).lcc.effective = some 5 ∧ (s.station 3).mu.sampleHeld = [] ∧
      s.staysLocked 3 { plain with autoRelease := false } 5 2801 ∧ s.doseLimitFor 3 5 ≤ s.doseGrown 3 5 2801 ∧
      (s.profile 5).high < 2801 ∧ (s.station 3).mu.count = 6000) ∧
    (∃ s : State, (s.station 3).lcc.lineState = .holding ∧ (s.station 3).config = some { plain with autoRelease := false } ∧
      (s.station 3).lcc.effective = some 5 ∧ (s.station 3).mu.sampleHeld = [] ∧
      s.staysLocked 3 { plain with autoRelease := false } 5 2500 ∧ s.doseLimitFor 3 5 ≤ s.doseGrown 3 5 2500 ∧
      (s.station 3).lcc.current ≠ some 5 ∧ 2500 = (s.profile 5).windowHigh) :=
  ⟨⟨berth (settledIn (some 5)), by decide +kernel⟩,
    ⟨berth (settledIn (some 5)), by decide +kernel⟩,
    ⟨berth (settledIn (some 5)), by decide +kernel⟩,
    ⟨berth (settledIn none), by decide +kernel⟩,
    ⟨berth (settledIn (some 3)), by decide +kernel⟩,
    ⟨berth (settledIn none), by decide +kernel⟩,
    ⟨berth fun t => counting 15360 (settledIn (some 5) t), by unfold StationState.atEnd; decide +kernel⟩,
    ⟨berth fun t => counting 0 (settledIn (some 5) t), by unfold StationState.atEnd; decide +kernel⟩,
    ⟨berth fun t => heavy (settledIn (some 5) t), by unfold State.staysLocked; decide +kernel⟩,
    ⟨berth fun t => heavy (settledIn none t), by unfold State.staysLocked; decide +kernel⟩⟩

/-- A station in ADJUSTING this way toward this profile. -/
def adjusting (dir : Dir) (aim : ProfileNo) (t : StationState) : StationState :=
  let u := holding t
  { u with lcc := { u.lcc with lineState := .adjusting, adjustDir := some dir, adjustClass := some 1, aimProfile := some aim,
                               need := some { cls := 1, dir := dir, speed := 250 } } }

/-- Both directions at the edges of the inner window 1900..2500 of profile 5, toward it and toward another profile; and
a turn toward the effective profile with the count at 0 and at Cmax; and an overload event that only latches, the run
going on and complete. -/
theorem witness_AdjustingTests :
    (∃ s : State, (s.station 3).lcc.lineState = .adjusting ∧ (s.station 3).lcc.adjustDir = some .outward ∧
      (s.station 3).lcc.need.isSome ∧
      (s.station 3).config = some plain ∧ (s.station 3).lcc.effective = some 5 ∧
        plain.tensionOfRecord 0 0x9 0xc5 = 2501 ∧
      s.doseGrown 3 5 2501 < s.doseLimitFor 3 5 ∧ (s.profile 5).windowHigh < 2501) ∧
    (∃ s : State, (s.station 3).lcc.lineState = .adjusting ∧ (s.station 3).lcc.adjustDir = some .inward ∧
      (s.station 3).lcc.need.isSome ∧
      (s.station 3).config = some plain ∧ (s.station 3).lcc.effective = some 5 ∧
        plain.tensionOfRecord 0 0x7 0x6b = 1899 ∧
      s.doseGrown 3 5 1899 < s.doseLimitFor 3 5 ∧ 1899 < (s.profile 5).windowLow) ∧
    (∃ s : State, (s.station 3).lcc.lineState = .adjusting ∧ (s.station 3).lcc.adjustDir = some .outward ∧
      (s.station 3).lcc.need.isSome ∧
      (s.station 3).config = some plain ∧ (s.station 3).lcc.effective = some 5 ∧
        plain.tensionOfRecord 0 0x9 0xc4 = 2500 ∧
      s.doseGrown 3 5 2500 < s.doseLimitFor 3 5 ∧ (s.station 3).lcc.aimProfile = some 5) ∧
    (∃ s : State, (s.station 3).lcc.lineState = .adjusting ∧ (s.station 3).lcc.adjustDir = some .inward ∧
      (s.station 3).lcc.need.isSome ∧
      (s.station 3).config = some plain ∧ (s.station 3).lcc.effective = some 5 ∧
        plain.tensionOfRecord 0 0x7 0x6c = 1900 ∧
      s.doseGrown 3 5 1900 < s.doseLimitFor 3 5 ∧ (s.station 3).lcc.aimProfile ≠ some 5 ∧
      1900 = (s.profile 5).windowLow) ∧
    (∃ s : State, (s.station 3).lcc.lineState = .adjusting ∧ (s.station 3).lcc.adjustDir = some .outward ∧
      (s.station 3).lcc.need.isSome ∧
      (s.station 3).config = some plain ∧ (s.station 3).lcc.effective = some 5 ∧
        plain.tensionOfRecord 0 0x7 0x6b = 1899 ∧
      s.doseGrown 3 5 1899 < s.doseLimitFor 3 5 ∧ (s.station 3).lcc.aimProfile ≠ some 5 ∧
      1899 < (s.profile 5).windowLow) ∧
    (∃ s : State, (s.station 3).lcc.lineState = .adjusting ∧ (s.station 3).lcc.adjustDir = some .inward ∧
      (s.station 3).lcc.need.isSome ∧
      (s.station 3).config = some plain ∧ (s.station 3).lcc.effective = some 5 ∧
        plain.tensionOfRecord 0 0xa 0xf1 = 2801 ∧
      s.doseGrown 3 5 2801 < s.doseLimitFor 3 5 ∧ (s.station 3).lcc.aimProfile ≠ some 5 ∧
      (s.profile 5).high < 2801) ∧
    (∃ s : State, (s.station 3).lcc.lineState = .adjusting ∧ (s.station 3).lcc.adjustDir = some .outward ∧
      (s.station 3).lcc.need.isSome ∧ (s.station 3).config = some plain ∧ (s.station 3).lcc.effective = some 5 ∧
      plain.tensionOfRecord 0 0x7 0x6b = 1899 ∧ s.doseGrown 3 5 1899 < s.doseLimitFor 3 5 ∧
      (s.station 3).lcc.aimProfile ≠ some 5 ∧ 1899 < (s.profile 5).windowLow ∧ (s.station 3).atEnd .inward) ∧
    (∃ s : State, (s.station 3).lcc.lineState = .adjusting ∧ (s.station 3).lcc.adjustDir = some .inward ∧
      (s.station 3).lcc.need.isSome ∧ (s.station 3).config = some plain ∧ (s.station 3).lcc.effective = some 5 ∧
      plain.tensionOfRecord 0 0xa 0xf1 = 2801 ∧ s.doseGrown 3 5 2801 < s.doseLimitFor 3 5 ∧
      (s.station 3).lcc.aimProfile ≠ some 5 ∧ (s.profile 5).windowHigh < 2801 ∧ (s.station 3).atEnd .outward) ∧
    (∃ s : State, (s.station 3).lcc.lineState = .adjusting ∧ (s.station 3).config = some { plain with autoRelease := false } ∧
      (s.station 3).lcc.effective = some 5 ∧ (s.station 3).mu.sampleHeld = [] ∧
      s.staysLocked 3 { plain with autoRelease := false } 5 2501 ∧ s.doseLimitFor 3 5 ≤ s.doseGrown 3 5 2501 ∧
      (s.station 3).lcc.adjustDir = some .outward ∧ (s.station 3).lcc.need.isSome ∧ (s.profile 5).windowHigh < 2501) ∧
    (∃ s : State, (s.station 3).lcc.lineState = .adjusting ∧ (s.station 3).config = some { plain with autoRelease := false } ∧
      (s.station 3).lcc.effective = some 5 ∧ (s.station 3).mu.sampleHeld = [] ∧
      s.staysLocked 3 { plain with autoRelease := false } 5 2500 ∧ s.doseLimitFor 3 5 ≤ s.doseGrown 3 5 2500 ∧
      (s.station 3).lcc.adjustDir = some .outward ∧ (s.station 3).lcc.need.isSome ∧
      (s.station 3).lcc.aimProfile = some 5) :=
  ⟨⟨berth (adjusting .outward 5), by decide +kernel⟩,
    ⟨berth (adjusting .inward 3), by decide +kernel⟩,
    ⟨berth (adjusting .outward 5), by decide +kernel⟩,
    ⟨berth (adjusting .inward 3), by decide +kernel⟩,
    ⟨berth (adjusting .outward 3), by decide +kernel⟩,
    ⟨berth (adjusting .inward 3), by decide +kernel⟩,
    ⟨berth fun t => counting 0 (adjusting .outward 3 t), by unfold StationState.atEnd; decide +kernel⟩,
    ⟨berth fun t => counting 15360 (adjusting .inward 3 t), by unfold StationState.atEnd; decide +kernel⟩,
    ⟨berth fun t => heavy (adjusting .outward 5 t), by unfold State.staysLocked; decide +kernel⟩,
    ⟨berth fun t => heavy (adjusting .outward 5 t), by unfold State.staysLocked; decide +kernel⟩⟩

/-- The station of Table 3-8 in another line state. -/
def plainIn (l : LineState) (t : StationState) : StationState :=
  let u := holding t
  { u with lcc := { u.lcc with lineState := l } }

/-- Tensions 1900 and 1899 in TAKING_UP, whose inner low is 1900, and 151 and 150 in REWINDING, whose limit is 150; and
1900 at an overload event that only latches. -/
theorem witness_TakeupAndSnagTests :
    (∃ s : State, (s.station 3).lcc.lineState = .takingUp ∧ (s.station 3).config = some plain ∧
      (s.station 3).lcc.effective = some 5 ∧ (s.station 3).mu.sampleHeld = [] ∧
      plain.tensionOfRecord 0 0x7 0x6c = 1900 ∧ s.doseGrown 3 5 1900 < s.doseLimitFor 3 5 ∧
        (s.profile 5).windowLow ≤ 1900) ∧
    (∃ s : State, (s.station 3).lcc.lineState = .takingUp ∧ (s.station 3).config = some plain ∧
      (s.station 3).lcc.effective = some 5 ∧ (s.station 3).mu.sampleHeld = [] ∧
      plain.tensionOfRecord 0 0x7 0x6b = 1899 ∧ s.doseGrown 3 5 1899 < s.doseLimitFor 3 5 ∧
        1899 < (s.profile 5).windowLow) ∧
    (∃ s : State, (s.station 3).lcc.lineState = .rewinding ∧ (s.station 3).config = some plain ∧
      (s.station 3).lcc.effective = some 5 ∧ (s.station 3).mu.sampleHeld = [] ∧
      plain.tensionOfRecord 0 0x0 0x97 = 151 ∧ s.settings.rewindTensionLimit < 151) ∧
    (∃ s : State, (s.station 3).lcc.lineState = .rewinding ∧ (s.station 3).config = some plain ∧
      (s.station 3).lcc.effective = some 5 ∧ (s.station 3).mu.sampleHeld = [] ∧
      plain.tensionOfRecord 0 0x0 0x96 = 150 ∧ 150 ≤ s.settings.rewindTensionLimit) ∧
    (∃ s : State, (s.station 3).lcc.lineState = .takingUp ∧ (s.station 3).config = some { plain with autoRelease := false } ∧
      (s.station 3).lcc.effective = some 5 ∧ (s.station 3).mu.sampleHeld = [] ∧
      s.staysLocked 3 { plain with autoRelease := false } 5 1900 ∧ s.doseLimitFor 3 5 ≤ s.doseGrown 3 5 1900 ∧
      (s.profile 5).windowLow ≤ 1900) :=
  ⟨⟨berth (plainIn .takingUp), by decide +kernel⟩,
    ⟨berth (plainIn .takingUp), by decide +kernel⟩,
    ⟨berth (plainIn .rewinding), by decide +kernel⟩,
    ⟨berth (plainIn .rewinding), by decide +kernel⟩,
    ⟨berth fun t => heavy (plainIn .takingUp t), by unfold State.staysLocked; decide +kernel⟩⟩

/-- A station whose sample age has just reached its timeout. -/
def overdue (t : StationState) : StationState := { t with mu := { t.mu with age := 100, ageTimeout := 100 } }

/-- A station at which the loss of its stream was detected before another detection took it to FAULT (R137). -/
def losing (t : StationState) : StationState := { t with handed := [.sensorLost] }

/-- An age of 100 in HOLDING with the latch MOVING and CLOSED, in FAULT with the latch CLOSED, in FAULT with the latch MOVING
and the loss detected before the entry or not, and in LINE_OUT. -/
theorem witness_SampleTimeoutActs :
    (∃ s : State, (s.station 3).lcc.lineState = .holding ∧ (s.station 3).mu.lost = false ∧
      (s.station 3).mu.ageTimeout ≤ (s.station 3).mu.age) ∧
    (∃ s : State, (s.station 3).lcc.lineState = .fault ∧ (s.station 3).mu.lost = false ∧
      (s.station 3).mu.ageTimeout ≤ (s.station 3).mu.age ∧
      (s.station 3).latch = .closed) ∧
    (∃ s : State, (s.station 3).lcc.lineState = .lineOut ∧ (s.station 3).mu.lost = false ∧
      (s.station 3).mu.ageTimeout ≤ (s.station 3).mu.age) ∧
    (∃ s : State, (s.station 3).lcc.lineState = .holding ∧ (s.station 3).mu.lost = false ∧
      (s.station 3).mu.ageTimeout ≤ (s.station 3).mu.age ∧ (s.station 3).latch = .closed) ∧
    (∀ handed : Bool, ∃ s : State, (s.station 3).lcc.lineState = .fault ∧ (s.station 3).mu.lost = false ∧
      (s.station 3).mu.ageTimeout ≤ (s.station 3).mu.age ∧ (s.station 3).latch = .moving ∧
      decide (.sensorLost ∈ (s.station 3).handed) = handed) :=
  ⟨⟨berth fun t => overdue (inState .holding t), by decide +kernel⟩,
    ⟨berth fun t => overdue (latched (faulted (inState .fault t))), by decide +kernel⟩,
    ⟨berth fun t => overdue (inState .lineOut t), by decide +kernel⟩,
    ⟨berth fun t => overdue (latched (inState .holding t)), by decide +kernel⟩,
    fun handed => ⟨berth fun t => overdue (faulted (inState .fault (if handed then losing t else t))),
      by cases handed <;> decide +kernel⟩⟩

/-- A station at this quarter position. -/
def at4 (q : Quarter) (t : StationState) : StationState := { t with mu := { t.mu with quarter := q } }

/-- A station at Q3 in STOWED with its reference and in LINE_OUT at Cmax, one at Q0 at count 0, and an OFFLINE one. -/
theorem witness_EncoderEdgeCounts :
    (∃ s : State, (s.station 3).lcc.lineState = .stowed ∧ (s.station 3).mu.quarter = .q3 ∧
      (s.station 3).mu.referenced = true) ∧
    (∃ s : State, (s.station 3).lcc.lineState = .lineOut ∧ (s.station 3).mu.quarter = .q3 ∧
      (s.station 3).cmax ≤ (s.station 3).mu.count) ∧
    (∃ s : State, (s.station 3).lcc.lineState = .lineOut ∧ (s.station 3).mu.quarter = .q0 ∧
      (s.station 3).mu.count = 0) ∧
    (∃ s : State, (s.station 3).lcc.lineState = .offline) :=
  ⟨⟨berth fun t => at4 .q3 (inState .stowed { t with mu := { t.mu with referenced := true } }), by decide +kernel⟩,
    ⟨berth fun t => at4 .q3 (counting 15360 (inState .lineOut t)), by decide +kernel⟩,
    ⟨berth fun t => at4 .q0 (inState .lineOut t), by decide +kernel⟩,
    ⟨berth id, by decide +kernel⟩⟩

/-- A station in PAYING_OUT to this target, one edge short of its next outward cycle. -/
def paying (n target : Nat) (t : StationState) : StationState :=
  let u := at4 .q3 (counting n (inState .payingOut t))
  { u with lcc := { u.lcc with payoutTarget := some target } }

/-- A station in TAKING_UP since the count 15 360, one edge short of its next inward cycle. -/
def heaving (n : Nat) (t : StationState) : StationState :=
  let u := at4 .q0 (counting n (inState .takingUp t))
  { u with lcc := { u.lcc with takeupStart := some 15360 } }

/-- A station in REWINDING, one edge short of its next inward cycle, with this creep. -/
def creeping (n : Nat) (creep : Option Nat) (t : StationState) : StationState :=
  let u := at4 .q0 (counting n (inState .rewinding t))
  { u with lcc := { u.lcc with creepCount := creep, creepLimit := creep.map fun _ => 512,
                               need := some { cls := 2, dir := .inward, speed := 600 } } }

/-- A station in ADJUSTING this way, one edge short of its next cycle that way. -/
def shifting (n : Nat) (dir : Dir) (t : StationState) : StationState :=
  let u := at4 (if dir = .outward then .q3 else .q0) (counting n (inState .adjusting t))
  { u with lcc := { u.lcc with adjustDir := some dir } }

/-- Cmax reached; the target 87 706 mm reached at count 6 000 and not before; the count 1 and a heave past the take-up limit
in TAKING_UP; creep begun at count 1, at its limit and past it; ADJUSTING to Cmax and to count 0, and one cycle short of
each. -/
theorem witness_CountReachesLimits :
    (∃ s : State, (s.station 3).config = some drum ∧ (s.station 3).mu.lost = false ∧
      (s.station 3).mu.quarter = .q3 ∧ (s.station 3).lcc.lineState = .payingOut ∧
        (s.station 3).mu.count + 1 = drum.cmax) ∧
    (∃ s : State, (s.station 3).config = some drum ∧ (s.station 3).mu.lost = false ∧
      (s.station 3).mu.quarter = .q3 ∧ (s.station 3).lcc.lineState = .payingOut ∧
        (s.station 3).lcc.payoutTarget = some 87706 ∧
      (s.station 3).mu.count + 1 < drum.cmax ∧
        87706 = lengthOf drum.countsPerRev drum.layers ((s.station 3).mu.count + 1)) ∧
    (∃ s : State, (s.station 3).config = some drum ∧ (s.station 3).mu.lost = false ∧
      (s.station 3).mu.quarter = .q3 ∧ (s.station 3).lcc.lineState = .payingOut ∧
        (s.station 3).lcc.payoutTarget = some 87706 ∧
      (s.station 3).mu.count + 1 < drum.cmax ∧
        lengthOf drum.countsPerRev drum.layers ((s.station 3).mu.count + 1) < 87706) ∧
    (∃ s : State, (s.station 3).config = some drum ∧ (s.station 3).mu.lost = false ∧
      (s.station 3).mu.quarter = .q0 ∧ (s.station 3).lcc.lineState = .takingUp ∧
        (s.station 3).lcc.takeupStart = some 15360 ∧ (s.station 3).mu.count = 1) ∧
    (∃ s : State, (s.station 3).config = some drum ∧ (s.station 3).mu.lost = false ∧
      (s.station 3).mu.quarter = .q0 ∧ (s.station 3).lcc.lineState = .takingUp ∧
        (s.station 3).lcc.takeupStart = some 15360 ∧
      2 ≤ (s.station 3).mu.count ∧
        lengthOf drum.countsPerRev drum.layers ((s.station 3).mu.count - 1) + drum.takeupLimit < lengthOf drum.countsPerRev drum.layers 15360) ∧
    (∃ s : State, (s.station 3).config = some drum ∧ (s.station 3).mu.lost = false ∧
      (s.station 3).mu.quarter = .q0 ∧ (s.station 3).lcc.lineState = .rewinding ∧ (s.station 3).lcc.need.isSome ∧
        (s.station 3).mu.count = 1 ∧
      (s.station 3).lcc.creepCount = none) ∧
    (∃ s : State, (s.station 3).config = some drum ∧ (s.station 3).mu.lost = false ∧
      (s.station 3).mu.quarter = .q0 ∧ (s.station 3).lcc.lineState = .rewinding ∧ (s.station 3).lcc.need.isSome ∧
        (s.station 3).mu.count = 0 ∧
      (s.station 3).lcc.creepCount = some 511 ∧ (s.station 3).lcc.creepLimit = some 512) ∧
    (∃ s : State, (s.station 3).config = some drum ∧ (s.station 3).mu.lost = false ∧
      (s.station 3).mu.quarter = .q0 ∧ (s.station 3).lcc.lineState = .rewinding ∧ (s.station 3).lcc.need.isSome ∧
        (s.station 3).mu.count = 0 ∧
      (s.station 3).lcc.creepCount = some 512 ∧ (s.station 3).lcc.creepLimit = some 512) ∧
    (∃ s : State, (s.station 3).config = some drum ∧ (s.station 3).mu.lost = false ∧
      (s.station 3).mu.quarter = .q3 ∧ (s.station 3).lcc.lineState = .adjusting ∧
      (s.station 3).lcc.adjustDir = some .outward ∧ (s.station 3).mu.count + 1 = drum.cmax) ∧
    (∃ s : State, (s.station 3).config = some drum ∧ (s.station 3).mu.lost = false ∧
      (s.station 3).mu.quarter = .q3 ∧ (s.station 3).lcc.lineState = .adjusting ∧
      (s.station 3).lcc.adjustDir = some .outward ∧ (s.station 3).mu.count + 2 = drum.cmax) ∧
    (∃ s : State, (s.station 3).config = some drum ∧ (s.station 3).mu.lost = false ∧
      (s.station 3).mu.quarter = .q0 ∧ (s.station 3).lcc.lineState = .adjusting ∧
      (s.station 3).lcc.adjustDir = some .inward ∧ (s.station 3).mu.count = 1) ∧
    (∃ s : State, (s.station 3).config = some drum ∧ (s.station 3).mu.lost = false ∧
      (s.station 3).mu.quarter = .q0 ∧ (s.station 3).lcc.lineState = .adjusting ∧
      (s.station 3).lcc.adjustDir = some .inward ∧ (s.station 3).mu.count = 2) :=
  ⟨⟨berth (paying 15359 87706), by decide +kernel⟩,
    ⟨berth (paying 5999 87706), by decide +kernel⟩,
    ⟨berth (paying 5998 87706), by decide +kernel⟩,
    ⟨berth (heaving 1), by decide +kernel⟩,
    ⟨berth (heaving 14600), by decide +kernel⟩,
    ⟨berth (creeping 1 none), by decide +kernel⟩,
    ⟨berth (creeping 0 (some 511)), by decide +kernel⟩,
    ⟨berth (creeping 0 (some 512)), by decide +kernel⟩,
    ⟨berth (shifting 15359 .outward), by decide +kernel⟩,
    ⟨berth (shifting 15358 .outward), by decide +kernel⟩,
    ⟨berth (shifting 1 .inward), by decide +kernel⟩,
    ⟨berth (shifting 2 .inward), by decide +kernel⟩⟩

/-- A station at a window end with these cycles in its accumulator. -/
def windowing (cycles : Int) (t : StationState) : StationState :=
  { t with mu := { t.mu with accumulator := cycles, windowDue := true } }

/-- A station whose drum is brought to rest at this demand. -/
def stopping (demand : Nat) (t : StationState) : StationState :=
  { t with dhu := { t.dhu with phase := .stopping, demand := demand, target := some { dir := .outward, speed := 400 },
                               stopRequest := .normal, zeroThroughout := decide (demand = 0) } }

/-- A holder of class 3 at station 3 whose slice has run out. -/
def spent : Holder := { station := 3, cls := 3, grant := 1, slice := .running 0, stopKind := .none }

/-- Station 3 in this state holds the last slot of this many and yields it, station 4 with a need to pay out. -/
def yielding (slots : Nat) (waiting : List WaitEntry) (zone : Bool) (f : StationState → StationState) : State :=
  { (berth f).setStation 4 (needing (inState .payingOut (State.reset.station 4))) with
    zoneFilter := { level := zone, held := none }
    dsa := { Dsa.atReset with slots := slots, waiting := waiting, grantSeq := 1, holders := [spent] } }

/-- Station 3 with this need rejoins behind the one entry that waits, which its slot goes to: what SlotRejoined asks. -/
abbrev rejoinsAgain (need : Need) (s : State) : Prop :=
  s.dsa.waiting = [{ station := 4, cls := 3 }] ∧ (s.station 4).lcc.need.isSome ∧
    (∀ h ∈ s.dsa.holders, h.station ≠ 4) ∧ s.dsa.waiting.Pairwise (fun a b => a.cls ≤ b.cls) ∧ need.cls = 3 ∧
    (s.dsa.holders.filter fun h => decide (h.station ≠ 3)).length + 1 = s.dsa.slots

/-- A window past the clamp, a drum that runs below its target, one in STOPPING at the slew step, one that still turns
at demand 0, one at rest, and one that is braked; one at rest for less than a window, and ones whose stop is complete
with the brake set already, without a need and with one behind an entry that waits. -/
theorem witness_WindowEndActs :
    (∃ s : State, (s.station 3).lcc.lineState = .lineOut ∧ (s.station 3).mu.windowDue = true ∧
      -32767 = max (-32767) (min 32767 (s.station 3).mu.accumulator) ∧
      (s.station 3).dhu.phase = .running ∧ (s.station 3).dhu.target = some { dir := .outward, speed := 400 }) ∧
    (∃ s : State, (s.station 3).lcc.lineState = .lineOut ∧ (s.station 3).mu.windowDue = true ∧
      (s.station 3).dhu.phase = .stopping ∧
      (s.station 3).dhu.demand = s.settings.slewStep) ∧
    (∃ s : State, (s.station 3).lcc.lineState = .lineOut ∧ (s.station 3).mu.windowDue = true ∧
      (s.station 3).dhu.phase = .stopping ∧ (s.station 3).dhu.demand = 0 ∧
      (s.station 3).mu.accumulator = 1) ∧
    (∃ s : State, (s.station 3).lcc.lineState = .lineOut ∧ (s.station 3).mu.windowDue = true ∧
      (s.station 3).dhu.phase = .stopping ∧ (s.station 3).dhu.demand = 0 ∧
      (s.station 3).mu.accumulator = 0 ∧ (s.station 3).dhu.zeroThroughout = true ∧
        (s.station 3).filters.brakeOpen.level = true) ∧
    (∃ s : State, (s.station 3).lcc.lineState = .lineOut ∧ (s.station 3).mu.windowDue = true ∧
      (s.station 3).dhu.phase = .idle ∧ s.dsa.holds 3 = false) ∧
    (∃ s : State, (s.station 3).lcc.lineState = .lineOut ∧ (s.station 3).mu.windowDue = true ∧
      (s.station 3).dhu.phase = .stopping ∧ (s.station 3).dhu.demand = 0 ∧ (s.station 3).mu.accumulator = 0 ∧
      (s.station 3).dhu.zeroThroughout = false) ∧
    (∃ s : State, (s.station 3).lcc.lineState = .lineOut ∧ (s.station 3).mu.windowDue = true ∧
      (s.station 3).dhu.phase = .stopping ∧ (s.station 3).dhu.demand = 0 ∧ (s.station 3).mu.accumulator = 0 ∧
      (s.station 3).dhu.zeroThroughout = true ∧ (s.station 3).filters.brakeOpen.level = false ∧
      (s.station 3).dhu.stopRequest = .normal ∧ s.dsa.holds 3 = true ∧ (s.station 3).lcc.need = none ∧
      s.dsa.waiting = []) ∧
    (∃ (s : State) (need : Need), (s.station 3).lcc.lineState = .payingOut ∧ (s.station 3).mu.windowDue = true ∧
      (s.station 3).dhu.phase = .stopping ∧ (s.station 3).dhu.demand = 0 ∧ (s.station 3).mu.accumulator = 0 ∧
      (s.station 3).dhu.zeroThroughout = true ∧ (s.station 3).filters.brakeOpen.level = false ∧
      (s.station 3).dhu.stopRequest = .normal ∧ s.dsa.holds 3 = true ∧ (s.station 3).lcc.need = some need ∧
      rejoinsAgain need s) :=
  ⟨⟨berth fun t => windowing (-40000) (running 399 (inState .lineOut t)), by decide +kernel⟩,
    ⟨berth fun t => windowing 1 (stopping 200 (inState .lineOut t)), by decide +kernel⟩,
    ⟨berth fun t => windowing 1 (stopping 0 (inState .lineOut t)), by decide +kernel⟩,
    ⟨berth fun t => windowing 0 (lifted (stopping 0 (inState .lineOut t))), by decide +kernel⟩,
    ⟨berth fun t => windowing 0 (inState .lineOut t), by decide +kernel⟩,
    ⟨berth fun t => windowing 0 (let u := stopping 0 (inState .lineOut t)
      { u with dhu := { u.dhu with zeroThroughout := false } }), by decide +kernel⟩,
    ⟨yielding 1 [] false (fun t => windowing 0 (stopping 0 (inState .lineOut t))), by decide +kernel⟩,
    ⟨yielding 1 [{ station := 4, cls := 3 }] false (fun t => windowing 0 (stopping 0 (needing (inState .payingOut t)))),
      { cls := 3, dir := .outward, speed := 400 }, by decide +kernel⟩⟩

/-- A station in this drive phase with its phase timer at its limit. -/
def timed (phase : DrivePhase) (kind : PhaseKind) (t : StationState) : StationState :=
  { t with dhu := { t.dhu with phase := phase, timer := .running kind 500 500 } }

/-- A station whose drum stalls. -/
def stalling (t : StationState) : StationState :=
  { t with dhu := { t.dhu with phase := .running, stall := some { elapsed := 500, limit := 500 } } }

/-- A station whose conflict timer is at its limit. -/
def conflicted (t : StationState) : StationState := { t with lpu := { t.lpu with conflictTimer := .running 500 500 } }

/-- A station whose confirm timer ends with every lock attempt made, in LOCKING. -/
def exhausting (t : StationState) : StationState :=
  let u := inState .locking t
  { u with lpu := { u.lpu with sequence := .lock, retries := 2, attempts := 3, confirmOpen := true,
                               confirmTimer := some { elapsed := 500, limit := 500 } } }

/-- Each timer at its limit; at a station outside FAULT that holds its slot, a conflict in every drive phase, with the brake
open and with it set, and, with the slot awaited, a brake-set timeout; and two detections due together: a stall and a
conflict (R137), and exhausted attempts and a lost stream in LOCKING. -/
theorem witness_TimeoutsDetectFaults :
    (∃ s : State, (s.station 3).lcc.lineState = .rewinding ∧ (s.station 3).mu.lost = false ∧
      (s.station 3).timesOut .stall 500 500) ∧
    (∃ s : State, (s.station 3).lcc.lineState = .rewinding ∧ (s.station 3).mu.lost = false ∧
      (s.station 3).timesOut .driveNotReady 500 500) ∧
    (∃ s : State, (s.station 3).lcc.lineState = .rewinding ∧ (s.station 3).mu.lost = false ∧
      (s.station 3).timesOut .brakeStuck 500 500) ∧
    (∃ s : State, (s.station 3).lcc.lineState = .rewinding ∧ (s.station 3).mu.lost = false ∧
      (s.station 3).timesOut .overrun 500 500) ∧
    (∃ s : State, (s.station 3).lcc.lineState = .rewinding ∧ (s.station 3).mu.lost = false ∧
      (s.station 3).timesOut .brakeNotSet 500 500) ∧
    (∃ s : State, (s.station 3).lcc.lineState = .rewinding ∧ (s.station 3).mu.lost = false ∧
      (s.station 3).timesOut .latchSensor 500 500) ∧
    (∀ (p : DrivePhase) (opened : Bool), ∃ s : State, (s.station 3).lcc.lineState = .rewinding ∧
      s.dsa.waits 3 = false ∧ s.dsa.holds 3 = true ∧ (s.station 3).dhu.stopRequest ≠ .fault ∧
      (s.station 3).dhu.phase = p ∧ (s.station 3).dhu.timer ≠ .expired ∧
      (s.station 3).timesOut .latchSensor 500 500 ∧ (s.station 3).filters.brakeOpen.level = opened) ∧
    (∃ (s : State) (need : Need), (s.station 3).lcc.lineState = .rewinding ∧ s.dsa.waits 3 = false ∧
      s.dsa.holds 3 = true ∧ (s.station 3).timesOut .brakeNotSet 500 500 ∧
      s.dsa.waiting = [{ station := 4, cls := 3 }] ∧ (s.station 4).lcc.need = some need ∧
      (s.dsa.holders.filter fun h => decide (h.station ≠ 3)).length + 1 = s.dsa.slots ∧
      (s.station 4).filters.driveReady.level = false) ∧
    (∃ s : State, (s.station 3).lcc.lineState = .rewinding ∧ (s.station 3).handed = [] ∧
      (s.station 3).timesOut .stall 500 500 ∧ (s.station 3).timesOut .latchSensor 500 500) ∧
    (∃ s : State, (s.station 3).lcc.lineState = .locking ∧ (s.station 3).handed = [] ∧
      (s.station 3).timesOut .latchNotClosed 500 500 ∧ (s.station 3).timesOut .sensorLost 100 100) :=
  ⟨⟨berth fun t => stalling (inState .rewinding t), by decide +kernel, by decide +kernel,
    by unfold StationState.timesOut; decide +kernel⟩,
    ⟨berth fun t => timed .driveWait .driveReady (inState .rewinding t), by decide +kernel, by decide +kernel,
      by unfold StationState.timesOut; decide +kernel⟩,
    ⟨berth fun t => timed .brakeWait .brakeLift (inState .rewinding t), by decide +kernel, by decide +kernel,
      by unfold StationState.timesOut; decide +kernel⟩,
    ⟨berth fun t => timed .stopping .stop (inState .rewinding t), by decide +kernel, by decide +kernel,
      by unfold StationState.timesOut; decide +kernel⟩,
    ⟨berth fun t => timed .setting .brakeSet (inState .rewinding t), by decide +kernel, by decide +kernel,
      by unfold StationState.timesOut; decide +kernel⟩,
    ⟨berth fun t => conflicted (inState .rewinding t), by decide +kernel, by decide +kernel,
      by unfold StationState.timesOut; decide +kernel⟩,
    fun p opened => ⟨held3 (berth fun t => phased p .none (conflicted (inState .rewinding (if opened then lifted t else t)))),
      by cases p <;> cases opened <;> (unfold StationState.timesOut; decide +kernel)⟩,
    ⟨awaited (berth fun t => timed .setting .brakeSet (inState .rewinding t)),
      { cls := 3, dir := .outward, speed := 400 }, by unfold StationState.timesOut; decide +kernel⟩,
    ⟨berth fun t => conflicted (stalling (inState .rewinding t)), by unfold StationState.timesOut; decide +kernel⟩,
    ⟨berth fun t => exhausting (overdue t), by unfold StationState.timesOut Lpu.exhaustsAt; decide +kernel⟩⟩

/-- A slice run out with nobody waiting, and with an entry of the same class waiting: in RUNNING; in BRAKE_WAIT with the
brake open and in SETTING; and with a stop complete at once, without a need in HELD and with one in DRIVE_WAIT and
BRAKE_WAIT. -/
theorem witness_SliceExpiryActs :
    (∃ s : State, s.dsa.holders.find? (fun k => decide (k.station = 3)) = some spent ∧ ∀ e ∈ s.dsa.waiting,
      spent.cls < e.cls) ∧
    (∃ s : State, s.dsa.holders.find? (fun k => decide (k.station = 3)) = some spent ∧ (∃ e ∈ s.dsa.waiting,
      e.cls ≤ spent.cls) ∧
      (s.station 3).dhu.phase = .running ∧ (s.station 3).dhu.stopRequest = .none) ∧
    (∀ phase ∈ [DrivePhase.brakeWait, .setting], ∃ s : State,
      s.dsa.holders.find? (fun k => decide (k.station = 3)) = some spent ∧ (∃ e ∈ s.dsa.waiting, e.cls ≤ spent.cls) ∧
      (s.station 3).dhu.phase = phase ∧ (s.station 3).dhu.stopRequest = .none ∧ ¬(s.station 3).stopsAtOnce) ∧
    (∃ s : State, s.dsa.holders.find? (fun k => decide (k.station = 3)) = some spent ∧
      (∃ e ∈ s.dsa.waiting, e.cls ≤ spent.cls) ∧ (s.station 3).dhu.phase = .held ∧
      (s.station 3).dhu.stopRequest = .none ∧ (s.station 3).stopsAtOnce ∧ (s.station 3).lcc.need = none) ∧
    (∀ phase ∈ [DrivePhase.driveWait, .brakeWait], ∃ (s : State) (need : Need),
      s.dsa.holders.find? (fun k => decide (k.station = 3)) = some spent ∧ (∃ e ∈ s.dsa.waiting, e.cls ≤ spent.cls) ∧
      (s.station 3).dhu.phase = phase ∧ (s.station 3).dhu.stopRequest = .none ∧ (s.station 3).stopsAtOnce ∧
      (s.station 3).lcc.need = some need ∧ rejoinsAgain need s) :=
  ⟨⟨held3 (berth id), by decide +kernel⟩,
    ⟨{ held3 (berth (running 400)) with
      dsa := { Dsa.atReset with holders := [spent], waiting := [{ station := 4, cls := 3 }], grantSeq := 1 } },
      by decide +kernel⟩,
    fun phase h => ⟨yielding 1 [{ station := 4, cls := 3 }] false (fun t => lifted (phased phase .none t)),
      by revert phase h; unfold StationState.stopsAtOnce; decide +kernel⟩,
    ⟨yielding 1 [{ station := 4, cls := 3 }] true (phased .held .none), by unfold StationState.stopsAtOnce; decide +kernel⟩,
    fun phase h => ⟨yielding 1 [{ station := 4, cls := 3 }] false (fun t => phased phase .none (needing (inState .payingOut t))),
      { cls := 3, dir := .outward, speed := 400 },
      by revert phase h; unfold StationState.stopsAtOnce; decide +kernel⟩⟩

/-- A free slot with ZONE_HOLD asserted and deasserted, and every slot taken with an entry of class 3 waiting. -/
theorem witness_NeedWaitsOrIsGranted :
    (∃ s : State, HandlerTakes s (requestFor 0x0F 7 3 []) [] ∧ (s.station 3).lcc.lineState = .lineOut ∧
      (s.station 3).lcc.need = none ∧
      (s.station 3).mu.lost = false ∧ (s.station 3).filters.stowed.level = false ∧ (s.station 3).mu.count ≠ 0 ∧
        (s.station 3).dhu.phase = .idle ∧
      s.dsa.waiting = [] ∧ s.dsa.holders.length < s.dsa.slots ∧ s.zoneHold = true) ∧
    (∃ s : State, HandlerTakes s (requestFor 0x0F 7 3 []) [] ∧ (s.station 3).lcc.lineState = .lineOut ∧
      (s.station 3).lcc.need = none ∧
      (s.station 3).mu.lost = false ∧ (s.station 3).filters.stowed.level = false ∧ (s.station 3).mu.count ≠ 0 ∧
        (s.station 3).dhu.phase = .idle ∧
      s.dsa.waiting = [] ∧ s.dsa.holders.length < s.dsa.slots ∧ s.zoneHold = false ∧
      (s.station 3).filters.driveReady.level = false) ∧
    (∃ s : State, HandlerTakes s (requestFor 0x0F 7 3 []) [] ∧ (s.station 3).lcc.lineState = .lineOut ∧
      (s.station 3).lcc.need = none ∧
      (s.station 3).mu.lost = false ∧ (s.station 3).filters.stowed.level = false ∧ (s.station 3).mu.count ≠ 0 ∧
        (s.station 3).dhu.phase = .idle ∧
      s.dsa.slots ≤ s.dsa.holders.length ∧ (∀ e ∈ s.dsa.waiting, e.cls ≠ 0) ∧
      s.dsa.waiting.Pairwise (fun a b => a.cls ≤ b.cls) ∧ s.dsa.waiting ≠ []) :=
  ⟨⟨{ station3 0x0F [] (fun t => counting 1 (inState .lineOut t)) with zoneFilter := { level := true, held := none } },
      by decide +kernel⟩,
    ⟨station3 0x0F [] (fun t => counting 1 (inState .lineOut t)), by decide +kernel⟩,
    ⟨{ station3 0x0F [] (fun t => counting 1 (inState .lineOut t)) with
      dsa := { Dsa.atReset with slots := 1, holders := [{ spent with station := 5 }], waiting := [{ station := 4, cls := 3 }] } },
      by decide +kernel⟩⟩

/-- The same with a class-0 need at this station, which asks for a slot. -/
def needed (i : Station) (s : State) : State :=
  s.modLcc i fun l => { l with need := some { cls := 0, dir := .outward, speed := 250 } }

/-- Station 3 in this state as the holder of the one slot, with these entries waiting and a class-0 need at station 6. -/
def urged (waiting : List WaitEntry) (f : StationState → StationState) : State :=
  needed 6 { berth f with dsa := { Dsa.atReset with slots := 1, holders := [spent], waiting := waiting } }

/-- Station 3 rejoins behind this class-0 entry, which its slot goes to: what SlotRejoined asks. -/
abbrev servesUrgent (e : WaitEntry) (s : State) : Prop :=
  (s.station e.station).lcc.need.isSome ∧ (∀ h ∈ s.dsa.holders, h.station ≠ e.station) ∧ e.cls = 0 ∧
    (∀ k ∈ s.dsa.waiting, 1 ≤ k.cls) ∧ s.dsa.waiting.Pairwise (fun a b => a.cls ≤ b.cls) ∧
    (s.dsa.holders.filter fun h => decide (h.station ≠ 3)).length + 1 = s.dsa.slots

/-- The later granted of two holders of class 3: with a class-0 entry at the head of the full arbiter, and with a HOLDING
station whose next sample lies above its band; and yielders in
other phases: in BRAKE_WAIT with the brake open, in SETTING, and with a stop complete at once. -/
theorem witness_PreemptionChoosesYielder :
    (∃ (s : State) (h : Holder), s.dsa.waiting = [{ station := 6, cls := 0 }] ∧ s.dsa.holders.length = s.dsa.slots ∧
      (∀ p ∈ s.dsa.yields, p.forStation = 6 → p.lapsed = true) ∧ h ∈ s.dsa.holders ∧ 2 ≤ h.cls ∧ h.stopKind = .none ∧
      (∀ k ∈ s.dsa.holders, 2 ≤ k.cls → k.stopKind = .none →
        k = h ∨ k.cls < h.cls ∨ (k.cls = h.cls ∧ k.grant < h.grant)) ∧
      (s.station h.station).dhu.phase = .running ∧ (s.station h.station).dhu.stopRequest = .none) ∧
    (∃ (s : State) (h : Holder), s.dsa.holders.length = s.dsa.slots ∧ h ∈ s.dsa.holders ∧ 2 ≤ h.cls ∧
      h.stopKind = .none ∧
      (∀ k ∈ s.dsa.holders, 2 ≤ k.cls → k.stopKind = .none →
        k = h ∨ k.cls < h.cls ∨ (k.cls = h.cls ∧ k.grant < h.grant)) ∧
      (s.station h.station).dhu.phase = .running ∧ (s.station h.station).dhu.stopRequest = .none ∧
      (s.station 4).lcc.lineState = .holding ∧ (s.station 4).lcc.need = none ∧ (s.station 4).dhu.phase = .idle ∧
      (s.station 4).config = some plain ∧ (s.station 4).lcc.effective = some 5 ∧ (s.station 4).mu.sampleHeld = [] ∧
      (s.station 4).mu.count ≠ (s.station 4).cmax ∧ (s.profile 5).high < plain.tensionOfRecord 0 0xa 0xf1 ∧
      s.doseGrown 4 5 (plain.tensionOfRecord 0 0xa 0xf1) < s.doseLimitFor 4 5 ∧
      (∀ k ∈ s.dsa.waiting, k.cls ≠ 0) ∧ (∀ q ∈ s.dsa.yields, q.forStation = 4 → q.lapsed = true)) ∧
    (∀ phase ∈ [DrivePhase.brakeWait, .setting], ∃ (s : State) (h : Holder),
      s.dsa.waiting = [{ station := 6, cls := 0 }] ∧ s.dsa.holders.length = s.dsa.slots ∧ s.dsa.yields = [] ∧
      h ∈ s.dsa.holders ∧ 2 ≤ h.cls ∧ h.stopKind = .none ∧
      (∀ k ∈ s.dsa.holders, 2 ≤ k.cls → k.stopKind = .none →
        k = h ∨ k.cls < h.cls ∨ (k.cls = h.cls ∧ k.grant < h.grant)) ∧
      (s.station h.station).dhu.phase = phase ∧ (s.station h.station).dhu.stopRequest = .none ∧
      ¬(s.station h.station).stopsAtOnce) ∧
    (∀ phase ∈ [DrivePhase.held, .driveWait, .brakeWait], ∃ (s : State) (need : Need),
      s.dsa.waiting = [{ station := 6, cls := 0 }] ∧ s.dsa.holders = [spent] ∧ s.dsa.slots = 1 ∧ s.dsa.yields = [] ∧
      (s.station 3).dhu.phase = phase ∧ (s.station 3).dhu.stopRequest = .none ∧ (s.station 3).stopsAtOnce ∧
      (s.station 3).lcc.need = some need ∧ 1 ≤ need.cls ∧
      servesUrgent { station := 6, cls := 0 } { s with dsa := { s.dsa with waiting := [] } }) ∧
    (∃ (s : State) (need : Need), s.dsa.waiting = [{ station := 6, cls := 1 }] ∧ s.dsa.holders = [spent] ∧
      s.dsa.slots = 1 ∧ s.dsa.yields = [] ∧ (s.station 3).dhu.phase = .held ∧ (s.station 3).dhu.stopRequest = .none ∧
      (s.station 3).stopsAtOnce ∧ (s.station 3).lcc.need = some need ∧ 1 ≤ need.cls ∧
      (s.station 4).lcc.lineState = .holding ∧ (s.station 4).lcc.need = none ∧ (s.station 4).dhu.phase = .idle ∧
      (s.station 4).config = some plain ∧ (s.station 4).lcc.effective = some 5 ∧ (s.station 4).mu.sampleHeld = [] ∧
      (s.station 4).mu.count ≠ (s.station 4).cmax ∧ (s.profile 5).high < plain.tensionOfRecord 0 0xa 0xf1 ∧
      s.doseGrown 4 5 (plain.tensionOfRecord 0 0xa 0xf1) < s.doseLimitFor 4 5 ∧
      servesUrgent { station := 4, cls := 0 } (needed 4 s)) :=
  ⟨⟨{ berth (running 400) with
      dsa := { Dsa.atReset with slots := 2, holders := [{ spent with station := 5, grant := 0 }, spent],
                                waiting := [{ station := 6, cls := 0 }] } },
      spent, by decide +kernel⟩,
    ⟨{ (berth (running 400)).setStation 4 (holding (State.reset.station 4)) with
      dsa := { Dsa.atReset with slots := 2, holders := [{ spent with station := 5, grant := 0 }, spent],
                                waiting := [{ station := 6, cls := 1 }] } },
      spent, by decide +kernel⟩,
    fun phase h => ⟨{ urged [{ station := 6, cls := 0 }] (fun t => lifted (phased phase .none t)) with
        dsa := { Dsa.atReset with slots := 1, holders := [spent], waiting := [{ station := 6, cls := 0 }] } },
      spent, by revert phase h; unfold StationState.stopsAtOnce; decide +kernel⟩,
    fun phase h => ⟨urged [{ station := 6, cls := 0 }] (fun t => phased phase .none (needing (inState .payingOut t))),
      { cls := 3, dir := .outward, speed := 400 }, by revert phase h; unfold StationState.stopsAtOnce; decide +kernel⟩,
    ⟨(urged [{ station := 6, cls := 1 }] (fun t => phased .held .none (needing (inState .payingOut t)))).setStation 4
        (holding (State.reset.station 4)),
      { cls := 3, dir := .outward, speed := 400 }, by unfold StationState.stopsAtOnce; decide +kernel⟩⟩

/-- The part with this filter at LATCH_CLOSED of station 3 and at ZONE_HOLD. -/
def filtering (f : Filter) : State :=
  { berth (fun t => { t with filters := { t.filters with latchClosed := f } }) with zoneFilter := f }

/-- Station 3 as a holder with 7 ms of its slice left, ZONE_HOLD about to move from this level, these entries waiting. -/
def zoning (level : Bool) (slice : SliceTimer) (waiting : List WaitEntry) (f : StationState → StationState) : State :=
  { (berth f).setStation 4 (needing (inState .payingOut (State.reset.station 4))) with
    zoneFilter := ripe level
    dsa := { Dsa.atReset with slots := 1, waiting := waiting, grantSeq := 1, holders := [{ spent with slice := slice }] } }

/-- A pending level that has held for its width, at a sensor and at ZONE_HOLD, rising and falling; a rise of
ZONE_HOLD in each active phase with the brake open and set, and one that completes a stop, without a need and with one; and a
fall with a drum in HELD. -/
theorem witness_FiltersFollowTheInputs :
    (∃ s : State, (s.station 3).filters.get .latchClosed = ripe false ∧ s.zoneFilter = ripe false ∧
      (ripe false).held = some { age := 50, width := 50 }) ∧
    (∃ s : State, (s.station 3).filters.get .latchClosed = ripe true ∧ s.zoneFilter = ripe true ∧
      (ripe true).held = some { age := 50, width := 50 }) ∧
    (∀ phase ∈ [DrivePhase.driveWait, .brakeWait, .running, .stopping], ∀ opened : Bool, ∃ s : State,
      s.zoneFilter = ripe false ∧ s.slotsMatchPhases ∧ (s.station 3).dhu.phase = phase ∧
      (s.station 3).filters.brakeOpen.level = opened ∧ ∀ j : Station, ¬(s.station j).endsByZone) ∧
    (∃ s : State, s.zoneFilter = ripe false ∧ s.slotsMatchPhases ∧ (s.station 3).endsByZone ∧
      (∀ j : Station, j ≠ 3 → ¬(s.station j).endsByZone) ∧ (s.station 3).lcc.need = none ∧ s.dsa.waiting = []) ∧
    (∃ (s : State) (need : Need), s.zoneFilter = ripe false ∧ s.slotsMatchPhases ∧ (s.station 3).endsByZone ∧
      (∀ j : Station, j ≠ 3 → ¬(s.station j).endsByZone) ∧ (s.station 4).dhu.phase = .idle ∧
      (s.station 3).lcc.need = some need ∧ rejoinsAgain need s) ∧
    (∃ s : State, s.zoneFilter = ripe true ∧ (s.station 3).dhu.phase = .held ∧ ∃ h ∈ s.dsa.holders, h.slice = .paused 7) :=
  ⟨⟨filtering (ripe false), by decide +kernel⟩,
    ⟨filtering (ripe true), by decide +kernel⟩,
    fun phase h opened => ⟨zoning false (.running 7) [] (fun t => if opened then lifted (phased phase .none t) else phased phase .none t),
      by revert phase h opened; unfold State.slotsMatchPhases StationState.endsByZone; decide +kernel⟩,
    ⟨zoning false .absent [] (phased .stopping .normal),
      by unfold State.slotsMatchPhases StationState.endsByZone; decide +kernel⟩,
    ⟨zoning false .absent [{ station := 4, cls := 3 }] (fun t => phased .stopping .normal (needing (inState .payingOut t))),
      { cls := 3, dir := .outward, speed := 400 },
      by unfold State.slotsMatchPhases StationState.endsByZone; decide +kernel⟩,
    ⟨zoning true (.paused 7) [] (phased .held .none), by decide +kernel⟩⟩

/-- A station whose HEAD_SEATED moves now. -/
def headMoves (level : Bool) (t : StationState) : StationState :=
  { t with filters := { t.filters with headSeated := ripe level } }

/-- A station whose STOWED rises now. -/
def stowing (t : StationState) : StationState := { t with filters := { t.filters with stowed := ripe false } }

/-- A station with lock mode AUTO. -/
def autoLock (t : StationState) : StationState := { t with lcc := { t.lcc with lockMode := .auto } }

/-- A head that seats with either lock mode, a head that falls in four kinds of state, and a rewind that arrives with
and without creep. -/
theorem witness_HeadAndStowedSensors :
    (∃ s : State, (s.station 3).filters.headSeated = ripe false ∧ (s.station 3).mu.lost = false ∧
      (s.station 3).lcc.lineState = .payingOut ∧ (s.station 3).lcc.lockMode = .onRequest) ∧
    (∃ s : State, (s.station 3).filters.headSeated = ripe false ∧ (s.station 3).mu.lost = false ∧
      (s.station 3).lcc.lineState = .lineOut ∧ (s.station 3).lcc.lockMode = .auto ∧
      (s.station 3).latch ≠ .closed) ∧
    (∃ s : State, (s.station 3).filters.headSeated = ripe true ∧ (s.station 3).mu.lost = false ∧
      (s.station 3).lcc.lineState = .seated) ∧
    (∃ s : State, (s.station 3).filters.headSeated = ripe true ∧ (s.station 3).mu.lost = false ∧
      (s.station 3).lcc.lineState = .adjusting) ∧
    (∃ s : State, (s.station 3).filters.headSeated = ripe true ∧ (s.station 3).mu.lost = false ∧
      (s.station 3).lcc.lineState = .fault ∧ (s.station 3).latch = .closed) ∧
    (∃ s : State, (s.station 3).filters.headSeated = ripe true ∧ (s.station 3).mu.lost = false ∧
      (s.station 3).lcc.lineState = .offline) ∧
    (∃ s : State, (s.station 3).filters.stowed = ripe false ∧ (s.station 3).mu.lost = false ∧
      (s.station 3).lcc.lineState = .rewinding ∧
      (s.station 3).lcc.creepCount = none) ∧
    (∃ s : State, (s.station 3).filters.stowed = ripe false ∧ (s.station 3).mu.lost = false ∧
      (s.station 3).lcc.lineState = .rewinding ∧
      (s.station 3).lcc.creepCount = some 2) ∧
    (∃ s : State, (s.station 3).filters.stowed = ripe false ∧ (s.station 3).mu.lost = false ∧
      (s.station 3).lcc.lineState = .lineOut) :=
  ⟨⟨berth fun t => headMoves false (inState .payingOut t), by decide +kernel⟩,
    ⟨berth fun t => headMoves false (autoLock (inState .lineOut t)), by decide +kernel⟩,
    ⟨berth fun t => headMoves true (inState .seated t), by decide +kernel⟩,
    ⟨berth fun t => headMoves true (inState .adjusting t), by decide +kernel⟩,
    ⟨berth fun t => headMoves true (latched (faulted (inState .fault t))), by decide +kernel⟩,
    ⟨berth fun t => headMoves true t, by decide +kernel⟩,
    ⟨berth fun t => stowing (creeping 3 none t), by decide +kernel⟩,
    ⟨berth fun t => stowing (creeping 0 (some 2) t), by decide +kernel⟩,
    ⟨berth fun t => stowing (inState .lineOut t), by decide +kernel⟩⟩

/-- A station whose LATCH_CLOSED moves now. -/
def closing (level : Bool) (t : StationState) : StationState :=
  { t with filters := { t.filters with latchClosed := ripe level } }

/-- A station whose LATCH_OPEN rises now. -/
def opening (t : StationState) : StationState := { t with filters := { t.filters with latchOpen := ripe false } }

/-- A station in this attempt sequence with confirmation open. -/
def attempting (q : Sequence) (t : StationState) : StationState :=
  { t with lpu := { t.lpu with sequence := q, retries := 2, attempts := 1, confirmOpen := true,
                               confirmTimer := some { elapsed := 1000, limit := 1000 } } }

/-- A station with this rewind flag. -/
def flagged (rewind : Bool) (t : StationState) : StationState :=
  { t with lcc := { t.lcc with rewindFlag := some rewind } }

/-- A lock confirmed at count 1 and at count 0; a release confirmed with the rewind flag clear, and set at count 1, at
count 0 and at the stowed sensor; a latch that opens in HOLDING; and one that leaves CLOSED in FAULT; and each latch
sensor that rises and falls with the other one asserted. -/
theorem witness_LatchPositionMoves :
    (∃ s : State, (s.station 3).filters.latchClosed = ripe false ∧ (s.station 3).filters.latchOpen.level = false ∧
      (s.station 3).mu.lost = false ∧
      (s.station 3).lcc.lineState = .locking ∧ (s.station 3).lpu.sequence = .lock ∧
        (s.station 3).lpu.confirmOpen = true ∧
      (s.station 3).mu.count ≠ 0) ∧
    (∃ s : State, (s.station 3).filters.latchClosed = ripe false ∧ (s.station 3).filters.latchOpen.level = false ∧
      (s.station 3).mu.lost = false ∧ (s.station 3).lcc.lineState = .locking ∧ (s.station 3).lpu.sequence = .lock ∧
      (s.station 3).lpu.confirmOpen = true ∧ (s.station 3).mu.count = 0) ∧
    (∃ s : State, (s.station 3).filters.latchOpen = ripe false ∧ (s.station 3).filters.latchClosed.level = false ∧
      (s.station 3).mu.lost = false ∧
      (s.station 3).lcc.lineState = .releasing ∧ (s.station 3).lpu.sequence = .release ∧
        (s.station 3).lpu.confirmOpen = true ∧
      (s.station 3).lcc.rewindFlag ≠ some true) ∧
    (∃ s : State, (s.station 3).filters.latchOpen = ripe false ∧ (s.station 3).filters.latchClosed.level = false ∧
      (s.station 3).mu.lost = false ∧
      (s.station 3).lcc.lineState = .releasing ∧ (s.station 3).lpu.sequence = .release ∧
        (s.station 3).lpu.confirmOpen = true ∧
      (s.station 3).lcc.rewindFlag = some true ∧ (s.station 3).filters.stowed.level = false ∧
        (s.station 3).mu.count ≠ 0) ∧
    (∃ s : State, (s.station 3).filters.latchOpen = ripe false ∧ (s.station 3).filters.latchClosed.level = false ∧
      (s.station 3).mu.lost = false ∧ (s.station 3).lcc.lineState = .releasing ∧
      (s.station 3).lpu.sequence = .release ∧ (s.station 3).lpu.confirmOpen = true ∧
      (s.station 3).lcc.rewindFlag = some true ∧ (s.station 3).filters.stowed.level = false ∧
      (s.station 3).mu.count = 0) ∧
    (∃ s : State, (s.station 3).filters.latchOpen = ripe false ∧ (s.station 3).filters.latchClosed.level = false ∧
      (s.station 3).mu.lost = false ∧ (s.station 3).lcc.lineState = .releasing ∧
      (s.station 3).lpu.sequence = .release ∧ (s.station 3).lpu.confirmOpen = true ∧
      (s.station 3).lcc.rewindFlag = some true ∧ (s.station 3).filters.stowed.level = true) ∧
    (∃ s : State, (s.station 3).filters.latchOpen = ripe false ∧ (s.station 3).filters.latchClosed.level = false ∧
      (s.station 3).mu.lost = false ∧
      (s.station 3).lcc.lineState = .holding ∧ (s.station 3).lpu.confirmOpen = false) ∧
    (∃ s : State, (s.station 3).filters.latchClosed = ripe true ∧ (s.station 3).filters.latchOpen.level = false ∧
      (s.station 3).mu.lost = false ∧
      (s.station 3).lcc.lineState = .fault ∧ (s.station 3).lpu.confirmOpen = false) ∧
    (∀ pair ∈ [(Sensor.latchClosed, Sensor.latchOpen), (.latchOpen, .latchClosed)], ∀ level : Bool, ∃ s : State,
      (s.station 3).lcc.lineState = .holding ∧ ((s.station 3).filters.get pair.2).level = true ∧
      (s.station 3).filters.get pair.1 = ripe level) :=
  ⟨⟨berth fun t => closing false (attempting .lock (counting 1 (inState .locking t))), by decide +kernel⟩,
    ⟨berth fun t => closing false (attempting .lock (inState .locking t)), by decide +kernel⟩,
    ⟨berth fun t => opening (attempting .release (flagged false (inState .releasing t))), by decide +kernel⟩,
    ⟨berth fun t => opening (attempting .release (flagged true (counting 1 (inState .releasing t)))),
      by decide +kernel⟩,
    ⟨berth fun t => opening (attempting .release (flagged true (inState .releasing t))), by decide +kernel⟩,
    ⟨berth fun t => opening (stowedHead (attempting .release (flagged true (inState .releasing t)))),
      by decide +kernel⟩,
    ⟨berth fun t => opening (inState .holding t), by decide +kernel⟩,
    ⟨berth fun t => closing true (faulted (inState .fault t)), by decide +kernel⟩,
    fun pair h level => ⟨berth fun t => { inState .holding t with
        filters := (t.filters.set pair.2 { level := true, held := none }).set pair.1 (ripe level) },
      by revert pair h level; decide +kernel⟩⟩

/-- A station in this drive phase whose DRIVE_READY moves now. -/
def readying (phase : DrivePhase) (level : Bool) (t : StationState) : StationState :=
  { t with dhu := { t.dhu with phase := phase }, filters := { t.filters with driveReady := ripe level } }

/-- A station in this drive phase whose BRAKE_OPEN moves now. -/
def braking (phase : DrivePhase) (level : Bool) (stop : StopRequest) (t : StationState) : StationState :=
  { t with dhu := { t.dhu with phase := phase, stopRequest := stop }, mu := { t.mu with releaseMeasure := some 0 }
           filters := { t.filters with brakeOpen := ripe level } }

/-- Station 3, its brake just set after a stop, holds a slot and has a need again. -/
def rejoining (slots : Nat) (waiting : List WaitEntry) (zone : Bool) : State :=
  { (berth fun t => braking .setting true .normal (needing (inState .payingOut t))).setStation 4
      (needing (inState .payingOut (State.reset.station 4))) with
    zoneFilter := { level := zone, held := none }
    dsa := { Dsa.atReset with slots := slots, waiting := waiting, grantSeq := 1
                              holders := [{ spent with slice := .absent, stopKind := .yielding }] } }

/-- A drive ready in DRIVE_WAIT; a brake open in BRAKE_WAIT after 0 ms; a drive that falls in each of its three phases;
a brake that falls in SETTING: under zone hold, after zone hold with the drive ready and not ready, after a stop, and
with a need again, alone with a free slot and behind an entry that waits for the one slot, ZONE_HOLD deasserted and
asserted, and with the drive of that entry ready already. -/
theorem witness_BrakeAndDriveSensors :
    (∃ s : State, (s.station 3).filters.driveReady = ripe false ∧ (s.station 3).dhu.phase = .driveWait ∧
      (s.station 3).filters.brakeOpen.level = false) ∧
    (∃ s : State, (s.station 3).filters.brakeOpen = ripe false ∧ (s.station 3).dhu.phase = .brakeWait ∧
      s.zoneHold = false ∧
      (s.station 3).mu.releaseMeasure = some 0) ∧
    (∃ s : State, (s.station 3).filters.driveReady = ripe true ∧ (s.station 3).mu.lost = false ∧
      (s.station 3).lcc.lineState = .rewinding ∧
      (s.station 3).dhu.phase = .brakeWait) ∧
    (∃ s : State, (s.station 3).filters.driveReady = ripe true ∧ (s.station 3).mu.lost = false ∧
      (s.station 3).lcc.lineState = .rewinding ∧
      (s.station 3).dhu.phase = .running) ∧
    (∃ s : State, (s.station 3).filters.driveReady = ripe true ∧ (s.station 3).mu.lost = false ∧
      (s.station 3).lcc.lineState = .rewinding ∧
      (s.station 3).dhu.phase = .stopping) ∧
    (∃ s : State, (s.station 3).filters.brakeOpen = ripe true ∧ (s.station 3).dhu.phase = .setting ∧
      (s.station 3).dhu.stopRequest = .none ∧ s.zoneHold = true) ∧
    (∃ s : State, (s.station 3).filters.brakeOpen = ripe true ∧ (s.station 3).dhu.phase = .setting ∧
      (s.station 3).dhu.stopRequest ≠ .none ∧ (s.station 3).lcc.need = none) ∧
    (∃ s : State, (s.station 3).filters.brakeOpen = ripe true ∧ (s.station 3).dhu.phase = .setting ∧
      (s.station 3).dhu.stopRequest = .none ∧ s.zoneHold = false ∧ (s.station 3).filters.driveReady.level = true) ∧
    (∃ s : State, (s.station 3).filters.brakeOpen = ripe true ∧ (s.station 3).dhu.phase = .setting ∧
      (s.station 3).dhu.stopRequest = .none ∧ s.zoneHold = false ∧ (s.station 3).filters.driveReady.level = false) ∧
    (∀ zone : Bool, ∃ (s : State) (need : Need), (s.station 3).filters.brakeOpen = ripe true ∧
      (s.station 3).dhu.phase = .setting ∧ (s.station 3).dhu.stopRequest ≠ .none ∧
      (s.station 3).lcc.need = some need ∧ s.dsa.holds 3 = true ∧ s.dsa.waiting = [] ∧
      (s.dsa.holders.filter fun h => decide (h.station ≠ 3)).length < s.dsa.slots ∧
      (s.station 3).filters.driveReady.level = false ∧ s.zoneHold = zone) ∧
    (∀ zone : Bool, ∃ (s : State) (need other : Need) (e : WaitEntry), (s.station 3).filters.brakeOpen = ripe true ∧
      (s.station 3).dhu.phase = .setting ∧ (s.station 3).dhu.stopRequest ≠ .none ∧
      (s.station 3).lcc.need = some need ∧ s.dsa.holds 3 = true ∧ s.dsa.waiting = [e] ∧ e.station ≠ 3 ∧
      (s.station e.station).lcc.need = some other ∧ 1 ≤ e.cls ∧ e.cls ≤ need.cls ∧
      (s.dsa.holders.filter fun h => decide (h.station ≠ 3)).length + 1 = s.dsa.slots ∧
      (s.station e.station).filters.driveReady.level = false ∧ s.zoneHold = zone) ∧
    (∃ (s : State) (need : Need), (s.station 3).filters.brakeOpen = ripe true ∧ (s.station 3).dhu.phase = .setting ∧
      (s.station 3).dhu.stopRequest ≠ .none ∧ (s.station 3).lcc.need = some need ∧ s.dsa.holds 3 = true ∧
      s.zoneHold = false ∧ (s.station 4).filters.driveReady.level = true ∧ rejoinsAgain need s) :=
  ⟨⟨berth fun t => readying .driveWait false (inState .rewinding t), by decide +kernel⟩,
    ⟨berth fun t => braking .brakeWait false .none (inState .rewinding t), by decide +kernel⟩,
    ⟨berth fun t => readying .brakeWait true (inState .rewinding t), by decide +kernel⟩,
    ⟨berth fun t => readying .running true (inState .rewinding t), by decide +kernel⟩,
    ⟨berth fun t => readying .stopping true (inState .rewinding t), by decide +kernel⟩,
    ⟨{ berth (fun t => braking .setting true .none (inState .rewinding t)) with zoneFilter := { level := true, held := none } },
      by decide +kernel⟩,
    ⟨berth fun t => braking .setting true .normal (inState .lineOut t), by decide +kernel⟩,
    ⟨berth fun t => braking .setting true .none
        { inState .rewinding t with filters := { t.filters with driveReady := { level := true, held := none } } },
      by decide +kernel⟩,
    ⟨berth fun t => braking .setting true .none (inState .rewinding t), by decide +kernel⟩,
    fun zone => ⟨rejoining 1 [] zone, { cls := 3, dir := .outward, speed := 400 },
      by cases zone <;> decide +kernel⟩,
    fun zone => ⟨rejoining 1 [{ station := 4, cls := 3 }] zone, { cls := 3, dir := .outward, speed := 400 },
      { cls := 3, dir := .outward, speed := 400 }, { station := 4, cls := 3 }, by cases zone <;> decide +kernel⟩,
    ⟨(rejoining 1 [{ station := 4, cls := 3 }] false).modFilters 4 fun f => { f with driveReady := { level := true, held := none } },
      { cls := 3, dir := .outward, speed := 400 }, by decide +kernel⟩⟩

/-- A lock pulse at the end of this phase. -/
def ended (phase : PulsePhase) (mine : Bool) : Pulse :=
  { kind := .lock, phase := phase, remaining := 0, width := 250, ofSequence := mine }

/-- A station in this attempt sequence with this pulse and this pulse queued. -/
def pulsing (q : Sequence) (p : Pulse) (next : Option PulseKind) (t : StationState) : StationState :=
  { t with lpu := { t.lpu with sequence := q, pulse := some p, queued := next, attempts := 1 } }

/-- The part with a lock delay of 1 ms. -/
def delayed (s : State) : State := { s with berth := { s.berth with config := { s.berth.config with lockDelay := 1 } } }

/-- The part with no delay before a lock pulse. -/
def prompt (s : State) : State := { s with berth := { s.berth with config := { s.berth.config with lockDelay := 0 } } }

/-- A station in RELEASING with this rewind flag, its latch OPEN, at the end of the delay of its release pulse. -/
def releasingOpen (rewind : Bool) (t : StationState) : StationState :=
  pulsing .release { ended .delay true with kind := .release } none (flagged rewind (unlatched (inState .releasing t)))

/-- The end of the delay of a lock pulse, away from the target, in a sequence superseded since, and with the latch CLOSED
already at count 1 and at count 0; of a release pulse with the latch OPEN already and the rewind flag clear and set; the
end of a width with nothing queued, and with a pulse queued behind it whose delay is 1 ms, or 0 away from the target and
with the latch CLOSED already. -/
theorem witness_PulseDelayAndWidthEnd :
    (∃ s : State, (s.station 3).lpu.pulse = some (ended .delay true) ∧ (s.station 3).lpu.sequence = .lock ∧
      ¬(s.station 3).atTarget) ∧
    (∃ s : State, (s.station 3).lpu.pulse = some (ended .delay false) ∧ (s.station 3).lpu.sequence = .lock ∧
      (s.station 3).lpu.confirmOpen = false ∧ (s.station 3).atTarget) ∧
    (∀ n ∈ [0, 1], ∃ s : State, (s.station 3).lpu.pulse = some (ended .delay true) ∧ (s.station 3).atTarget ∧
      s.sequenceWanted 3 ∧ (s.station 3).lpu.sequence = .lock ∧ (s.station 3).mu.count = n) ∧
    (∀ rewind : Bool, ∃ s : State,
      (s.station 3).lpu.pulse = some { ended .delay true with kind := .release } ∧ (s.station 3).atTarget ∧
      s.sequenceWanted 3 ∧ (s.station 3).lpu.sequence = .release ∧ (s.station 3).lcc.rewindFlag = some rewind) ∧
    (∃ s : State, (s.station 3).lpu.pulse = some (ended .energized false) ∧ (s.station 3).lpu.sequence = .none ∧
      (s.station 3).lpu.confirmOpen = false ∧ (s.station 3).lpu.queued = none) ∧
    (∃ s : State, (s.station 3).lpu.pulse = some (ended .energized true) ∧ (s.station 3).lpu.sequence = .lock ∧
      (s.station 3).lpu.confirmOpen = false ∧ (s.station 3).lpu.queued = some .lock ∧
      0 < s.settings.delayOf .lock) ∧
    (∃ s : State, (s.station 3).lpu.pulse = some (ended .energized true) ∧ (s.station 3).lpu.sequence = .lock ∧
      ¬(s.station 3).atTarget ∧ (s.station 3).lpu.queued = some .lock ∧ s.settings.delayOf .lock = 0) ∧
    (∃ s : State, (s.station 3).lpu.pulse = some { ended .energized false with kind := .release } ∧
      (s.station 3).lpu.sequence = .lock ∧ (s.station 3).atTarget ∧ s.sequenceWanted 3 ∧
      (s.station 3).lpu.queued = some .lock ∧ s.settings.delayOf .lock = 0) := by
  unfold StationState.atTarget State.sequenceWanted
  exact ⟨⟨berth fun t => pulsing .lock (ended .delay true) none (inState .locking t), by decide +kernel⟩,
    ⟨berth fun t => pulsing .lock (ended .delay false) none (latched (inState .locking t)), by decide +kernel⟩,
    fun n h => ⟨berth fun t => counting n (pulsing .lock (ended .delay true) none (latched (inState .locking t))),
      by revert n h; decide +kernel⟩,
    fun rewind => ⟨berth (releasingOpen rewind), by cases rewind <;> decide +kernel⟩,
    ⟨berth fun t => pulsing .none (ended .energized false) none (inState .stowed t), by decide +kernel⟩,
    ⟨delayed (berth fun t => pulsing .lock (ended .energized true) (some .lock) (inState .locking t)),
      by decide +kernel⟩,
    ⟨prompt (berth fun t => pulsing .lock (ended .energized true) (some .lock) (inState .locking t)),
      by decide +kernel⟩,
    ⟨prompt (berth fun t => pulsing .lock { ended .energized false with kind := .release } (some .lock)
      (latched (inState .locking t))), by decide +kernel⟩⟩

/-- A lock sequence of two retries at its confirm timeout after this many attempts, with this pulse. -/
def unconfirmed (attempts : Nat) (p : Option Pulse) (t : StationState) : StationState :=
  let u := attempting .lock (inState .locking t)
  { u with lpu := { u.lpu with attempts := attempts, pulse := p } }

/-- Two attempts made of the three allowed, with the last pulse energized and ended, and three made, as in Table 6-4. -/
theorem witness_ConfirmTimeoutActs :
    (∃ s : State, (s.station 3).lpu.confirmTimer = some { elapsed := 1000, limit := 1000 } ∧
      (s.station 3).lpu.confirmOpen = true ∧
      (s.station 3).lpu.sequence = .lock ∧ (s.station 3).lcc.lineState = .locking ∧ (s.station 3).latch ≠ .closed ∧
      (s.station 3).lpu.attempts ≤ (s.station 3).lpu.retries ∧ (s.station 3).lpu.pulse = some (ended .energized true)) ∧
    (∃ s : State, (s.station 3).lpu.confirmTimer = some { elapsed := 1000, limit := 1000 } ∧
      (s.station 3).lpu.confirmOpen = true ∧
      (s.station 3).lpu.sequence = .lock ∧ (s.station 3).lcc.lineState = .locking ∧ (s.station 3).latch ≠ .closed ∧
      (s.station 3).lpu.attempts ≤ (s.station 3).lpu.retries ∧ (s.station 3).lpu.pulse = none) ∧
    (∃ s : State, (s.station 3).lpu.confirmTimer = some { elapsed := 1000, limit := 1000 } ∧
      (s.station 3).lpu.confirmOpen = true ∧
      (s.station 3).lpu.sequence = .lock ∧ (s.station 3).lcc.lineState = .locking ∧ (s.station 3).latch ≠ .closed ∧
      (s.station 3).lpu.retries < (s.station 3).lpu.attempts ∧ (s.station 3).mu.lost = false) :=
  ⟨⟨berth (unconfirmed 2 (some (ended .energized true))), by decide +kernel⟩,
    ⟨berth (unconfirmed 2 none), by decide +kernel⟩,
    ⟨berth (unconfirmed 3 none), by decide +kernel⟩⟩

/-- A counter of waiting stations at its greatest value, with one waiting in its range. -/
theorem witness_TickCounts : ∃ s : State, s.wrapsWaiting 0 :=
  ⟨counted { tally with kind := .waitTime, value := BitVec.allOnes 32 }
      { berth id with dsa := { Dsa.atReset with waiting := [{ station := 3, cls := 3 }] } },
    by unfold State.wrapsWaiting; decide +kernel⟩

/-- A part at work: station 3 holds the one slot and rewinds, station 4 waits behind it to pay out, the commissioning
lock is set, a report is pending and a frame waits, and the Transmitter's turn is next. -/
def busy : State :=
  { (lockedBerth [0x14, 7] fun t => running 400 (creeping 3 none t)).setStation 4
      (needing (inState .payingOut (State.reset.station 4))) with
    dsa := { Dsa.atReset with slots := 1, holders := [spent], waiting := [{ station := 4, cls := 3 }] }
    pending := [.transmitNextFrame] }

/-- The part at work meets the bounds of its measures. -/
theorem witness_StepKeepsMeasures :
    ∃ s t : State, s.measuresBounded ∧ s.countsBounded ∧ step s = .next t :=
  ⟨busy, after (step busy), by unfold State.measuresBounded StationState.measuresBounded; decide +kernel,
    by unfold State.countsBounded StationState.countBounded; decide +kernel, rfl⟩

/-- The part at work has its effective profiles. -/
theorem witness_StepKeepsEffectiveProfiles :
    ∃ s t : State, s.profilesEffective ∧ step s = .next t :=
  ⟨busy, after (step busy), by unfold State.profilesEffective; decide +kernel, rfl⟩

/-- The part at work has safe drives. -/
theorem witness_StepKeepsDriveOutputsSafe :
    ∃ s t : State, s.demandsSafe ∧ s.slotsMatchPhases ∧ s.zoneObeyed ∧ step s = .next t :=
  ⟨busy, after (step busy), by unfold State.demandsSafe Dhu.demandSafe; decide +kernel,
    by unfold State.slotsMatchPhases; decide +kernel, by unfold State.zoneObeyed; decide +kernel, rfl⟩

/-- The part at work has a full arbiter. -/
theorem witness_StepKeepsArbiterOrder :
    ∃ s t : State, s.slotsBounded ∧ s.noSlotIdle ∧ s.waitingOrdered ∧ step s = .next t :=
  ⟨busy, after (step busy), by unfold State.slotsBounded; decide +kernel, by unfold State.noSlotIdle; decide +kernel,
    by unfold State.waitingOrdered; decide +kernel, rfl⟩

/-- The part at work has a need at its two motion states. -/
theorem witness_StepKeepsNeeds :
    ∃ s t : State, s.needsMatch ∧ step s = .next t :=
  ⟨busy, after (step busy), by unfold State.needsMatch; decide +kernel, rfl⟩

/-- The part at work stands within its snapshots. -/
theorem witness_StepKeepsLockedValues :
    ∃ s t : State, s.berth.locked = true ∧ t.berth.locked = true ∧ (∀ c ∈ s.pending.head?, resetsPart c = false) ∧
      s.lockKept ∧ step s = .next t :=
  ⟨busy, after (step busy), rfl, by decide +kernel, by decide +kernel, fun _ => ⟨resetLimits, 300, rfl, rfl, by decide +kernel,
    by unfold Profile.within; decide +kernel, by decide +kernel⟩, rfl⟩

/-- A station request for stations 3 and 4 under way at its first station. -/
def underWay (code : Byte) (request : StationRequest) (s : State) : State :=
  { s with link := { s.link with
    working := some { code := code, tag := 7, request := request, next := 3, last := 4, done := 0, body := [] } } }

/-- The part at work has a frame and a report in its queues, and a LOCK under way. -/
theorem witness_StepKeepsQueues :
    ∃ s t : State, s.inboundBounded ∧ distinctKeys s.link.reports ∧ s.link.reports ≠ [] ∧ s.requestFits ∧
      s.link.working ≠ none ∧ step s = .next t :=
  ⟨underWay 0x0C .lock busy, after (step (underWay 0x0C .lock busy)), by unfold State.inboundBounded; decide +kernel,
    by unfold distinctKeys; decide +kernel, by decide +kernel, by unfold State.requestFits; decide +kernel,
    by decide +kernel, rfl⟩

/-- A RELEASE under way at a station in FAULT with a record. -/
theorem witness_FaultRecordsContinue :
    ∃ s t : State, s.requestFits ∧ s.link.working ≠ none ∧ exec (.release 1) s = .next t ∧
      (s.station 3).lcc.fault = some stalled ∧ resetsPart (.release 1) = false ∧ clearsRecords (.release 1) = false :=
  ⟨underWay 0x0D (.release true) (berth fun t => faulted (inState .fault t)), _,
    by unfold State.requestFits; decide +kernel, by decide +kernel, rfl, by decide +kernel⟩

/-- An adoption at the stowed sensor. -/
theorem witness_OfflineLeftByConfigureStation :
    ∃ s t : State, s.requestFits ∧ exec (.configureStation 1) s = .next t ∧
      (s.station 3).lcc.lineState = .offline ∧ (t.station 3).lcc.lineState ≠ .offline :=
  ⟨configured (carried true none) stowedHead,
    after (exec (.configureStation 1) (configured (carried true none) stowedHead)),
    by unfold State.requestFits; decide +kernel, rfl, by decide +kernel, by decide +kernel⟩

end Sys2Proof.Tests
end

/-!
PROOF. A report that is pending stays pending while the Drive Slot Arbiter and the Drive Handover Units work: a DHU touches
no part of the link, and the arbiter only counts occurrences, which can add a COUNTER report and drop none (R182, R200).
-/
namespace Sys2Proof.Machine

/-! ### Making a report pending -/

/-- A report other than LINK takes no entry out of the queue (R182). -/
theorem subset_pendReport {e : ReportEntry} (he : ∀ event, e ≠ .link event) (l : List ReportEntry) :
    l ⊆ pendReport e l := by
  induction l with
  | nil => exact List.nil_subset _
  | cons x rest ih =>
    unfold pendReport
    split
    · next same =>
      have hx : x = e := by cases x <;> cases e <;> simp_all [ReportEntry.sameKey]
      rw [hx]
      exact List.Subset.refl _
    · exact List.cons_subset_cons x ih

theorem mem_reports_reportStation (s : State) (i : Station) :
    ReportEntry.station i ∈ (s.reportStation i).link.reports :=
  pendReport_mem _ _

theorem reports_subset_offer (s : State) (n : CounterNo) (kind : CounterKind) (i : Station) :
    s.link.reports ⊆ (s.offer n kind i).link.reports := by
  unfold State.offer
  split
  · dsimp only [State.bump]
    split
    · exact subset_pendReport (by simp) _
    · exact List.Subset.refl _
  · exact List.Subset.refl _

/-- An occurrence drops no pending report (R200). -/
theorem reports_subset_occurrence (s : State) (kind : CounterKind) (i : Station) :
    s.link.reports ⊆ (s.occurrence kind i).link.reports :=
  List.foldlRecOn allCounters (fun s n => s.offer n kind i)
    (motive := fun t : State => s.link.reports ⊆ t.link.reports) (List.Subset.refl _)
    fun t kept n _ => List.Subset.trans kept (reports_subset_offer t n kind i)

/-! ### The Drive Handover Unit leaves the link alone -/

@[simp] theorem State.modHolder_link (s : State) (i : Station) (f : Holder → Holder) :
    (s.modHolder i f).link = s.link := rfl

@[simp] theorem enterRunning_link (s : State) (i : Station) : (enterRunning s i).link = s.link := rfl

@[simp] theorem enterBrakeWait_link (s : State) (i : Station) : (enterBrakeWait s i).link = s.link := by
  dsimp only [enterBrakeWait]
  split <;> simp

@[simp] theorem enterDriveWait_link (s : State) (i : Station) : (enterDriveWait s i).link = s.link := by
  dsimp only [enterDriveWait]
  split <;> simp

@[simp] theorem beginGrant_link (s : State) (i : Station) (need : Need) : (beginGrant s i need).link = s.link := by
  dsimp only [beginGrant]
  split <;> simp

@[simp] theorem resumeHandover_link (s : State) (i : Station) : (resumeHandover s i).link = s.link := by
  unfold resumeHandover
  split <;> simp

@[simp] theorem becomeIdle_link (s : State) (i : Station) : (becomeIdle s i).link = s.link := rfl

@[simp] theorem endSetting_link (s : State) (i : Station) : (endSetting s i).link = s.link := by
  unfold endSetting
  split
  · split <;> simp
  · simp

@[simp] theorem enterSetting_link (s : State) (i : Station) : (enterSetting s i).link = s.link := by
  dsimp only [enterSetting]
  split <;> simp

@[simp] theorem enterStopping_link (s : State) (i : Station) : (enterStopping s i).link = s.link := rfl

@[simp] theorem normalStop_link (s : State) (i : Station) : (normalStop s i).link = s.link := by
  dsimp only [normalStop]
  split
  · rfl
  · split <;> simp

/-! ### The Drive Slot Arbiter drops no report -/

theorem reports_subset_grantHead (s : State) : s.link.reports ⊆ (grantHead s).link.reports := by
  unfold grantHead
  split
  · exact List.Subset.refl _
  · split
    · exact List.Subset.refl _
    · refine List.Subset.trans ?_ (reports_subset_occurrence _ _ _)
      simp

theorem reports_subset_grantRule (n : Nat) (s : State) : s.link.reports ⊆ (grantRule n s).link.reports := by
  induction n generalizing s with
  | zero => exact List.Subset.refl _
  | succ n ih =>
    unfold grantRule
    split
    · exact List.Subset.trans (reports_subset_grantHead s) (ih _)
    · exact List.Subset.refl _

theorem reports_subset_grantAll (s : State) : s.link.reports ⊆ (grantAll s).link.reports :=
  reports_subset_grantRule _ s

@[simp] theorem joinList_link (s : State) (i : Station) (cls : Nat) : (joinList s i cls).link = s.link := rfl

@[simp] theorem leaveList_link (s : State) (i : Station) : (leaveList s i).link = s.link := rfl

@[simp] theorem freeSlot_link (s : State) (i : Station) : (freeSlot s i).link = s.link := rfl

@[simp] theorem rejoin_link (s : State) (i : Station) : (rejoin s i).link = s.link := by
  unfold rejoin
  split <;> rfl

theorem reports_subset_beginYield (s : State) (i : Station) : s.link.reports ⊆ (beginYield s i).link.reports := by
  dsimp only [beginYield]
  rw [normalStop_link]
  exact reports_subset_occurrence (s.modHolder i (Holder.stopAs .yielding)) .slotYield i

theorem reports_subset_preempt (n : Nat) (s : State) : s.link.reports ⊆ (preempt n s).link.reports := by
  induction n generalizing s with
  | zero => exact List.Subset.refl _
  | succ n ih =>
    dsimp only [preempt]
    split
    · exact List.Subset.refl _
    · next yielder forStation _ =>
      have yielded := reports_subset_beginYield (s.modDsa fun d =>
        { d with yields := d.yields ++ [{ yielder := yielder, forStation := forStation, lapsed := false }] }) yielder
      split
      · refine List.Subset.trans yielded (List.Subset.trans ?_ (ih _))
        refine List.Subset.trans ?_ (reports_subset_grantAll _)
        simp
      · exact yielded

theorem reports_subset_arbitrate (s : State) : s.link.reports ⊆ (arbitrate s).link.reports :=
  List.Subset.trans (reports_subset_grantAll s) (reports_subset_preempt 13 _)

theorem reports_subset_settleStop (s : State) (i : Station) : s.link.reports ⊆ (settleStop s i).link.reports := by
  unfold settleStop
  split
  · refine List.Subset.trans ?_ (reports_subset_arbitrate _)
    simp
  · exact List.Subset.refl _

/-! ### Motion needs and changes of line state -/

theorem reports_subset_presentNeed (s : State) (i : Station) (need : Need) :
    s.link.reports ⊆ (presentNeed s i need).link.reports := by
  dsimp only [presentNeed]
  split
  · refine List.Subset.trans ?_ (reports_subset_arbitrate _)
    simp
  · simp

theorem reports_subset_withdrawNeed (s : State) (i : Station) :
    s.link.reports ⊆ (withdrawNeed s i).link.reports := by
  dsimp only [withdrawNeed]
  split
  · exact List.Subset.refl _
  · split
    · refine List.Subset.trans ?_ (reports_subset_arbitrate _)
      simp
    · refine List.Subset.trans ?_ (reports_subset_settleStop _ _)
      simp

/-- A change of line state makes the STATION report pending, and the withdrawal of the old need leaves it so (R2). -/
theorem mem_reports_changeState (s : State) (i : Station) (new : LineState) (reason : Reason) :
    ReportEntry.station i ∈ (changeState s i new reason).link.reports :=
  reports_subset_withdrawNeed _ i (mem_reports_reportStation _ i)

/-- An entry into FAULT makes the STATION report pending (R2, R29). -/
theorem mem_reports_enterFault (s : State) (i : Station) (kind : FaultKind) :
    ReportEntry.station i ∈ (enterFault s i kind).link.reports := by
  rw [enterFault_eq]
  split
  · exact mem_reports_reportStation _ i
  · exact reports_subset_occurrence _ .faultEntry i (mem_reports_reportStation _ i)

end Sys2Proof.Machine

/-!
PROOF. How the request handler serves a station request that names one station (R172, R173): the frame is taken, the
request is applied at that station, and its result is placed as the reply. The lemmas hold for every such request.
-/
namespace Sys2Proof.Machine

/-! ### Bytes -/

/-- Three bytes of a number below 2^24 spell it (R194). -/
theorem ofBe_be24 {x : Nat} (h : x < 2 ^ 24) : ofBe (be24 x) = x := by
  simp [ofBe, be24]
  omega

theorem toNat_byte_station (i : Station) : (BitVec.ofNat 8 i.val).toNat = i.val := by
  simp
  omega

/-- A range of one station and the fields behind it are decoded to that station alone (R172, R173). -/
theorem decodeRange_single {extra : Nat} {fields : List Byte} (request : List Byte → StationRequest) (i : Station)
    (h : fields.length = extra) :
    decodeRange extra request (BitVec.ofNat 8 i.val :: BitVec.ofNat 8 i.val :: fields) =
      .ok { first := i.val, last := i.val,
            request := request (BitVec.ofNat 8 i.val :: BitVec.ofNat 8 i.val :: fields) } := by
  have hi : i.val ≤ 11 := by omega
  simp [decodeRange, rangeValid, byteAt, h, toNat_byte_station, hi, -BitVec.toNat_ofNat]

/-! ### The request under way, and its reply -/

/-- The request for station `i` alone, at its beginning (R173). -/
def workingAt (code tag : Byte) (request : StationRequest) (i : Station) : Working :=
  { code := code, tag := tag, request := request, next := i.val, last := i.val, done := 0, body := [] }

/-- The frame at the head of the inbound queue is taken and its request is under way (R172, R173). -/
def State.serving (s : State) (rest : List (List Byte)) (w : Working) : State :=
  s.modLink fun l => { l with inbound := rest, working := some w }

/-- The request under way is done and its reply placed (R173). -/
def State.replied (s : State) (reply : List Byte) : State :=
  s.modLink fun l => { l with working := none, replySlot := some reply }

@[simp] theorem State.serving_station (s : State) (rest : List (List Byte)) (w : Working) (i : Station) :
    (s.serving rest w).station i = s.station i := rfl

@[simp] theorem State.replied_station (s : State) (reply : List Byte) (i : Station) :
    (s.replied reply).station i = s.station i := rfl

@[simp] theorem State.replied_reports (s : State) (reply : List Byte) :
    (s.replied reply).link.reports = s.link.reports := rfl

/-- A request that changes nothing is taken and answered. -/
theorem State.serving_replied {s : State} (h : s.link.working = none) (rest : List (List Byte)) (w : Working)
    (reply : List Byte) : (s.serving rest w).replied reply = s.answeredWith rest reply := by
  simp [State.serving, State.replied, State.answeredWith, Link.answered, State.modLink, h]

/-- What the station becomes while its request is under way is what the served request leaves (R7, R173). -/
theorem StationBecomes.served {i : Station} {s u : State} {a : StationState} {rest : List (List Byte)} {w : Working}
    (h : StationBecomes i (s.serving rest w) u a) (reply : List Byte) :
    StationServed i s (u.replied reply) rest reply where
  beside := ⟨h.others, ⟨h.berth.zoneFilter, h.berth.slots, h.berth.profiles, h.berth.berth, h.berth.routing,
    h.berth.watch, h.berth.counters, h.berth.timeBase, h.berth.berthTime, h.berth.berthMs, h.berth.windowMs,
    h.berth.pending⟩⟩
  link := by
    have kept : u.link = { (s.serving rest w).link with reports := u.link.reports } := h.link
    simp only [State.replied, State.modLink_link]
    rw [kept]
    rfl

/-! ### One turn -/

theorem runTurns_idle (n : Nat) {s : State} (h : s.link.working = none) : runTurns n s = s := by
  cases n <;> simp [runTurns, h]

theorem oneTurn_request {s : State} {w : Working} {i : Station} (h : w.request ≠ .readStations) :
    oneTurn s w i =
      advance (applyRequest s i w.request).1 w (be8 (applyRequest s i w.request).2.code) := by
  unfold oneTurn
  split
  · contradiction
  · rfl

/-- The turn at the only station of a range places the reply with its result (R173). -/
theorem advance_workingAt (s : State) (code tag : Byte) (request : StationRequest) (i : Station) (result : Result) :
    advance s (workingAt code tag request i) (be8 result.code) =
      s.replied (replyFor code tag (BitVec.ofNat 8 result.code)) := by
  simp [advance, workingAt, finishWorking, placeReply, State.replied, replyPayload, replyFor, be8, FrameResult.code,
    State.modLink]

/-- A request for one station is decoded, applied there and answered, whatever the turns it may take (R172, R173). -/
theorem serveStations_single {s : State} {code tag : Byte} {i : Station} {fields : List Byte}
    {rest : List (List Byte)} {decode : List Byte → Decoded RangeRequest} {request : StationRequest}
    (h : HandlerTakes s (requestFor code tag i fields) rest)
    (hd : decode (BitVec.ofNat 8 i.val :: BitVec.ofNat 8 i.val :: fields) =
      .ok { first := i.val, last := i.val, request := request })
    (hr : request ≠ .readStations) (n : Nat) :
    serveStations s code decode (n + 1) =
      (applyRequest (s.serving rest (workingAt code tag request i)) i request).1.replied (replyFor code tag
        (BitVec.ofNat 8 (applyRequest (s.serving rest (workingAt code tag request i)) i request).2.code)) := by
  obtain ⟨hslot, hworking, hinbound⟩ := h
  have taken : takeStationFrame s code decode = s.serving rest (workingAt code tag request i) := by
    simp [takeStationFrame, State.headFrame, hslot, hworking, hinbound, requestFor, frameCode, frameTag, frameBody, hd,
      dropHead, State.serving, workingAt, State.modLink]
  have idle : s.workingOn code = false := by simp [State.workingOn, hworking]
  have busy : (s.serving rest (workingAt code tag request i)).workingOn code = true := by
    simp [State.workingOn, State.serving, workingAt]
  have turn : runTurns (n + 1) (s.serving rest (workingAt code tag request i)) =
      runTurns n (oneTurn (s.serving rest (workingAt code tag request i)) (workingAt code tag request i) i) := by
    simp [runTurns, State.serving, workingAt]
  simp only [serveStations, idle, Bool.false_eq_true, if_false, taken, busy, if_true, turn]
  rw [oneTurn_request hr, advance_workingAt]
  exact runTurns_idle n rfl

/-- A request that applies nothing at its only station is answered with its result and changes nothing else (R7). -/
theorem serveStations_refused {s : State} {code tag : Byte} {i : Station} {fields : List Byte}
    {rest : List (List Byte)} {decode : List Byte → Decoded RangeRequest} {request : StationRequest} {result : Result}
    (h : HandlerTakes s (requestFor code tag i fields) rest)
    (hd : decode (BitVec.ofNat 8 i.val :: BitVec.ofNat 8 i.val :: fields) =
      .ok { first := i.val, last := i.val, request := request })
    (hr : request ≠ .readStations) (n : Nat)
    (ha : ∀ t : State, (∀ j, t.station j = s.station j) → applyRequest t i request = (t, result)) :
    serveStations s code decode (n + 1) =
      s.answeredWith rest (replyFor code tag (BitVec.ofNat 8 result.code)) := by
  rw [serveStations_single h hd hr n, ha _ (State.serving_station s rest _), State.serving_replied h.2.1]

/-- At an in-service station a request has the result of its own tests (R7, R8). -/
theorem inServiceOnly_inService {s : State} {i : Station} (h : (s.station i).lcc.lineState ≠ .offline)
    (result : Applied) : inServiceOnly s i result = result := by
  simp [inServiceOnly, State.inService, h]

end Sys2Proof.Machine

/-!
PROOF. DEPLOY at an in-service station (O19): its tests in the words of the statement, what the entry of PAYING_OUT makes
of the station away from the limit and at it, and the obligation.
-/
namespace Sys2Proof.Machine

/-! ### The tests of DEPLOY -/

theorem StationState.deployWrongState_iff (a : StationState) : a.deployWrongState = true ↔ ¬a.takesDeploy := by
  cases hl : a.lcc.lineState <;> simp [StationState.deployWrongState, StationState.takesDeploy, hl]

theorem StationState.deployOutOfRange_iff (a : StationState) (target mode : Nat) :
    a.deployOutOfRange target mode = true ↔ ¬a.deployFits target mode := by
  by_cases hl : a.lcc.lineState = .lineOut <;>
    simp [StationState.deployOutOfRange, StationState.deployFits, hl] <;> omega

theorem applyDeploy_wrongState {s : State} {i : Station} (h : ¬(s.station i).takesDeploy) (target mode : Nat) :
    applyDeploy s i target mode = (s, .wrongState) := by
  simp [applyDeploy, (StationState.deployWrongState_iff _).mpr h]

theorem applyDeploy_outOfRange {s : State} {i : Station} {target mode : Nat} (h : (s.station i).takesDeploy)
    (hf : ¬(s.station i).deployFits target mode) : applyDeploy s i target mode = (s, .outOfRange) := by
  simp [applyDeploy, StationState.deployWrongState_iff, StationState.deployOutOfRange_iff, h, hf]

theorem applyDeploy_latchNotOpen {s : State} {i : Station} {target mode : Nat} (h : (s.station i).takesDeploy)
    (hf : (s.station i).deployFits target mode) (hl : (s.station i).latch ≠ .opened) :
    applyDeploy s i target mode = (s, .latchNotOpen) := by
  simp [applyDeploy, StationState.deployWrongState_iff, StationState.deployOutOfRange_iff, h, hf, hl]

theorem applyDeploy_accepted {s : State} {i : Station} {target mode : Nat} (h : (s.station i).takesDeploy)
    (hf : (s.station i).deployFits target mode) (hl : (s.station i).latch = .opened) :
    applyDeploy s i target mode =
      (enterPayingOut (s.modLcc i fun l => { l with lockMode := lockModeOf mode }) i target, .accepted) := by
  simp [applyDeploy, StationState.deployWrongState_iff, StationState.deployOutOfRange_iff, h, hf, hl]

/-! ### The entry of PAYING_OUT -/

/-- The entry of PAYING_OUT before its limit test (R12). -/
def payoutBegun (s : State) (i : Station) (target : Nat) : State :=
  presentNeed (changeState (s.modLcc i fun l => { l with payoutTarget := some target }) i .payingOut .request) i
    { cls := 3, dir := .outward, speed := s.settings.payoutSpeed }

/-- A station in PAYING_OUT with this target and its class-3 outward need (R3, R12). -/
def StationState.payingOut (a : StationState) (target speed : Nat) : StationState :=
  { a with
    lcc := { a.lcc.moved .payingOut .request a.latch with
      payoutTarget := some target, need := some { cls := 3, dir := .outward, speed := speed } }
    mu := { a.mu with correction := none } }

/-- The entry of PAYING_OUT in the words of the statement: with a lock mode stored, every item that the state does not
hold is cleared, and the current profile stands (R4, R12, R64, R77, R130). -/
theorem StationState.payingOut_eq_between (a : StationState) (mode : LockMode) (target speed : Nat) :
    ({ a with lcc := { a.lcc with lockMode := mode } } : StationState).payingOut target speed =
      { a with
        lcc := { a.lcc.between .payingOut .request with
          lockMode := mode
          payoutTarget := some target
          need := some { cls := 3, dir := .outward, speed := speed }
          armExpiry := none, dose := 0, overloadHeld := false }
        mu := { a.mu with correction := none } } := rfl

theorem enterPayingOut_eq (s : State) (i : Station) (target : Nat) :
    enterPayingOut s i target = limitTest (payoutBegun s i target) i := rfl

theorem payoutBegun_becomes (s : State) (i : Station) (target : Nat) :
    StationBecomes i s (payoutBegun s i target) ((s.station i).payingOut target s.settings.payoutSpeed) := by
  have stored := (StationBecomes.refl i s).modLcc fun l => { l with payoutTarget := some target }
  have moved := changeState_becomes (s.modLcc i fun l => { l with payoutTarget := some target }) i .payingOut .request
  rw [State.station_modLcc_same] at moved
  exact (stored.trans moved).presentNeed { cls := 3, dir := .outward, speed := s.settings.payoutSpeed }

theorem mem_reports_payoutBegun (s : State) (i : Station) (target : Nat) :
    ReportEntry.station i ∈ (payoutBegun s i target).link.reports :=
  reports_subset_presentNeed _ i _ (mem_reports_changeState _ i .payingOut .request)

/-- At a count at Cmax the limit test of the entry is a DRUM_LIMIT entry into FAULT (R6). -/
theorem enterPayingOut_at_cmax {s : State} {i : Station} (target : Nat)
    (h : (s.station i).mu.count = (s.station i).cmax) :
    enterPayingOut s i target = enterFault (payoutBegun s i target) i .drumLimit := by
  have begun := (payoutBegun_becomes s i target).station
  have atLimit : ((payoutBegun s i target).station i).atLimit = true := by
    rw [atLimit_of_same begun]
    simpa [StationState.payingOut, StationState.atLimit, Lcc.moved, StationState.cmax] using h
  have inPayingOut : ((payoutBegun s i target).station i).lcc.lineState = .payingOut := by
    rw [begun.lcc]; rfl
  rw [enterPayingOut_eq, limitTest, if_pos atLimit, detect_enters _ _ _ (by simp [inPayingOut]) (by simp [inPayingOut])]

/-- The STATION report is pending after the entry, whether or not its limit test finds the count at Cmax (R2). -/
theorem mem_reports_enterPayingOut (s : State) (i : Station) (target : Nat) :
    ReportEntry.station i ∈ (enterPayingOut s i target).link.reports := by
  by_cases h : (s.station i).mu.count = (s.station i).cmax
  · rw [enterPayingOut_at_cmax target h]
    exact mem_reports_enterFault _ i .drumLimit
  · have begun := (payoutBegun_becomes s i target).station
    rw [enterPayingOut_eq, limitTest_of_not_atLimit]
    · exact mem_reports_payoutBegun s i target
    · rw [atLimit_of_same begun]
      simpa [StationState.payingOut, StationState.atLimit, Lcc.moved, StationState.cmax] using h

/-- The bit of a fault kind, in the words of the statements (Table 9-4). -/
theorem FaultKind.bit_eq_ofNat (kind : FaultKind) : kind.bit = BitVec.ofNat 14 (1 <<< kind.code) := by
  cases kind <;> rfl

/-- The latch position reads nothing of the drive (R5). -/
theorem latch_of_same {a b : StationState} (h : a.SameButDrive b) : b.latch = a.latch := by
  simp only [StationState.latch, h.filters]

/-- The record of an entry into FAULT, in the words of the statements (R29, R139, R140). -/
theorem StationState.recordFor_eq_recordOf {a b : StationState} (kind : FaultKind) (berthTime : Count32)
    (hf : b.lcc.fault = a.lcc.fault) (ht : b.mu.tension = a.mu.tension) (hc : b.mu.count = a.mu.count) :
    b.recordFor kind berthTime = a.recordOf kind b.lcc.lineState berthTime := by
  cases h : a.lcc.fault <;> simp [StationState.recordFor, StationState.recordOf, hf, ht, hc, h, FaultKind.bit_eq_ofNat]

/-- An entry of PAYING_OUT at Cmax, with the latch not CLOSED, leaves the station in FAULT with DRUM_LIMIT (R6, R29). -/
theorem enterPayingOut_faults {s : State} {i : Station} (target : Nat)
    (h : (s.station i).mu.count = (s.station i).cmax) (hl : (s.station i).latch ≠ .closed) :
    ∃ a : StationState, StationBecomes i s (enterPayingOut s i target) a ∧ a.lcc.lineState = .fault ∧
      a.lcc.lastReason = .fault ∧
      a.lcc.fault = some ((s.station i).recordOf .drumLimit .payingOut s.berthTime) := by
  have begun := payoutBegun_becomes s i target
  have openLatch : ((payoutBegun s i target).station i).latch ≠ .closed := by
    rw [latch_of_same begun.station]
    exact hl
  refine ⟨_, begun.trans (enterPayingOut_at_cmax target h ▸ enterFault_becomes _ i .drumLimit (.inr openLatch)),
    rfl, rfl, ?_⟩
  have record := StationState.recordFor_eq_recordOf (a := s.station i) (b := (payoutBegun s i target).station i)
    .drumLimit s.berthTime (by rw [begun.station.lcc]; rfl) (by rw [begun.station.mu]; rfl)
    (by rw [begun.station.mu]; rfl)
  have inPayingOut : ((payoutBegun s i target).station i).lcc.lineState = .payingOut := by
    rw [begun.station.lcc]; rfl
  rw [inPayingOut] at record
  simpa only [StationState.faulted, begun.berth.berthTime] using congrArg some record

/-! ### The command -/

/-- The fields of a DEPLOY frame for one station are its target and lock mode (R12, R173). -/
theorem decode_deploy {target mode : Nat} (ht : target < 2 ^ 24) (hm : mode < 256) (i : Station) :
    decodeRange 4 (fun b => .deploy (numAt b 2 3) (byteAt b 5))
        (BitVec.ofNat 8 i.val :: BitVec.ofNat 8 i.val :: (be24 target ++ be8 mode)) =
      .ok { first := i.val, last := i.val, request := .deploy target mode } := by
  rw [decodeRange_single (extra := 4) (fields := be24 target ++ be8 mode) _ i rfl]
  have hTarget : numAt (BitVec.ofNat 8 i.val :: BitVec.ofNat 8 i.val :: (be24 target ++ be8 mode)) 2 3 = target :=
    ofBe_be24 ht
  have hMode : byteAt (BitVec.ofNat 8 i.val :: BitVec.ofNat 8 i.val :: (be24 target ++ be8 mode)) 5 = mode := by
    simpa [byteAt, be24, be8] using hm
  rw [hTarget, hMode]

/-- DEPLOY is served as a request with a station range and four bytes of fields (R12, R173). -/
theorem exec_deploy (turns : Nat) (s : State) :
    exec (.deploy turns) s =
      .next (serveStations s 0x0B (decodeRange 4 fun b => .deploy (numAt b 2 3) (byteAt b 5)) turns) := rfl

section Command

variable {s : State} {i : Station} {tag : Byte} {target mode : Nat} {rest : List (List Byte)}

/-- A DEPLOY that its tests refuse is answered with their result, and nothing else changes (R7, R12). -/
theorem exec_deploy_refused {result : Result} (ht : target < 2 ^ 24) (hm : mode < 256)
    (h : HandlerTakes s (requestFor 0x0B tag i (be24 target ++ be8 mode)) rest)
    (hs : (s.station i).lcc.lineState ≠ .offline) (n : Nat)
    (ha : ∀ t : State, t.station i = s.station i → applyDeploy t i target mode = (t, result)) :
    exec (.deploy (n + 1)) s = .next (s.answeredWith rest (replyFor 0x0B tag (BitVec.ofNat 8 result.code))) := by
  have refused (t : State) (same : ∀ j, t.station j = s.station j) :
      applyRequest t i (.deploy target mode) = (t, result) :=
    (inServiceOnly_inService (by rwa [same i]) _).trans (ha t (same i))
  rw [exec_deploy, serveStations_refused h (decode_deploy ht hm i) (by simp) n refused]

/-- The state in which an accepted DEPLOY enters PAYING_OUT: its request under way and its lock mode stored (R12). -/
def State.deploying (s : State) (rest : List (List Byte)) (tag : Byte) (i : Station) (target mode : Nat) : State :=
  (s.serving rest (workingAt 0x0B tag (.deploy target mode) i)).modLcc i fun l => { l with lockMode := lockModeOf mode }

/-- An accepted DEPLOY enters PAYING_OUT and is answered ACCEPTED (R12). -/
theorem exec_deploy_accepted (ht : target < 2 ^ 24) (hm : mode < 256)
    (h : HandlerTakes s (requestFor 0x0B tag i (be24 target ++ be8 mode)) rest)
    (hs : (s.station i).lcc.lineState ≠ .offline) (n : Nat) (hd : (s.station i).takesDeploy)
    (hf : (s.station i).deployFits target mode) (hl : (s.station i).latch = .opened) :
    exec (.deploy (n + 1)) s =
      .next ((enterPayingOut (s.deploying rest tag i target mode) i target).replied (replyFor 0x0B tag 0)) := by
  have applied : applyRequest (s.serving rest (workingAt 0x0B tag (.deploy target mode) i)) i (.deploy target mode) =
      (enterPayingOut (s.deploying rest tag i target mode) i target, .accepted) :=
    (inServiceOnly_inService (s := s.serving rest (workingAt 0x0B tag (.deploy target mode) i)) hs _).trans
      (applyDeploy_accepted (s := s.serving rest (workingAt 0x0B tag (.deploy target mode) i)) hd hf hl)
  rw [exec_deploy, serveStations_single h (decode_deploy ht hm i) (by simp) n, applied]
  rfl

theorem deploying_station (s : State) (rest : List (List Byte)) (tag : Byte) (i : Station) (target mode : Nat) :
    (s.deploying rest tag i target mode).station i =
      { s.station i with lcc := { (s.station i).lcc with lockMode := lockModeOf mode } } :=
  State.station_modLcc_same _ _ _

/-- Storing the lock mode touches the station alone (R12). -/
theorem deploying_becomes (s : State) (rest : List (List Byte)) (tag : Byte) (i : Station) (target mode : Nat) :
    StationBecomes i (s.serving rest (workingAt 0x0B tag (.deploy target mode) i)) (s.deploying rest tag i target mode)
      { s.station i with lcc := { (s.station i).lcc with lockMode := lockModeOf mode } } :=
  (StationBecomes.refl i _).modLcc fun l => { l with lockMode := lockModeOf mode }

end Command

/-- Settles O19: the handler's turn reduces DEPLOY to its tests, and the entry of PAYING_OUT is split at its limit test. -/
theorem deployByTheRules : Obligations.DeployByTheRules := by
  unfold Obligations.DeployByTheRules
  intro s i tag target mode n rest ht hm h hs
  refine ⟨fun hd => ?_, fun hd hf => ?_, fun hd hf hl => ?_, fun hd hf hl => ?_⟩
  · exact exec_deploy_refused ht hm h hs n fun t same => applyDeploy_wrongState (same ▸ hd) target mode
  · exact exec_deploy_refused ht hm h hs n fun t same => applyDeploy_outOfRange (same ▸ hd) (same ▸ hf)
  · exact exec_deploy_refused ht hm h hs n fun t same => applyDeploy_latchNotOpen (same ▸ hd) (same ▸ hf) (same ▸ hl)
  · have stored := deploying_becomes s rest tag i target mode
    have found := deploying_station s rest tag i target mode
    refine ⟨_, exec_deploy_accepted ht hm h hs n hd hf hl, ?_⟩
    have reported : ReportEntry.station i ∈ ((enterPayingOut (s.deploying rest tag i target mode) i target).replied
        (replyFor 0x0B tag 0)).link.reports := by
      rw [State.replied_reports]
      exact mem_reports_enterPayingOut _ i target
    by_cases hc : (s.station i).mu.count = (s.station i).cmax
    · obtain ⟨a, becomes, hstate, hreason, hrecord⟩ := enterPayingOut_faults (s := s.deploying rest tag i target mode)
        (i := i) target (by rw [found]; exact hc) (by rw [found]; exact fun k => nomatch hl.symm.trans k)
      refine ⟨(stored.trans becomes).served _, reported, fun away => absurd hc away, fun _ => ?_⟩
      rw [State.replied_station, becomes.station.lcc]
      rw [found] at hrecord
      exact ⟨hstate, hreason, hrecord⟩
    · have becomes := enterPayingOut_becomes (s.deploying rest tag i target mode) i target (by rw [found]; exact hc)
      refine ⟨(stored.trans becomes).served _, reported, fun _ => ?_, fun atCmax => absurd atCmax hc⟩
      have station := becomes.station
      rw [found] at station
      rw [State.replied_station]
      exact StationState.payingOut_eq_between (s.station i) (lockModeOf mode) target s.settings.payoutSpeed ▸ station

end Sys2Proof.Machine

/-!
PROOF. What the Line Cycle Controller's work at a station leaves alone there: a detection, a change of line state, an entry
or an attempt sequence may touch the station's context, its pulses, its drive and its stow correction, and nothing else of
its measurement, its configuration or its filters; and it takes no report out of the Report Queue. The one exception is an
arrival at STOWED, which sets the count (R39, R40), so the release that confirms at once is kept out by the latch position.
-/
namespace Sys2Proof.Machine

/-! ### The frame as a relation -/

/-- What the LCC's work at station `i` keeps: there the measurement but for the stow correction and the release
measurement, the configuration and the filters; beside it all but drives, slots, counts and reports; and every report that
is pending. -/
structure LccWork (i : Station) (s t : State) : Prop where
  beside : KeptBeside i s t
  link : LinkKept s t
  mu : (t.station i).mu = { (s.station i).mu with
    correction := (t.station i).mu.correction, releaseMeasure := (t.station i).mu.releaseMeasure }
  config : (t.station i).config = (s.station i).config
  filters : (t.station i).filters = (s.station i).filters
  reports : s.link.reports ⊆ t.link.reports

theorem KeptBeside.trans {i : Station} {s t u : State} (h : KeptBeside i s t) (k : KeptBeside i t u) :
    KeptBeside i s u :=
  ⟨fun j hj => (h.others j hj).trans (k.others j hj), h.berth.trans k.berth⟩

/-- A station that becomes a state with its own measurement, configuration and filters was worked on by the LCC alone. -/
theorem StationBecomes.lccWork {i : Station} {s t : State} {a : StationState} (h : StationBecomes i s t a)
    (mu : a.mu = { (s.station i).mu with correction := a.mu.correction, releaseMeasure := a.mu.releaseMeasure })
    (config : a.config = (s.station i).config) (filters : a.filters = (s.station i).filters)
    (reports : s.link.reports ⊆ t.link.reports) : LccWork i s t where
  beside := h.keptBeside
  link := h.link
  mu := by rw [h.station.mu, mu]
  config := h.station.config.trans config
  filters := h.station.filters.trans filters
  reports := reports

theorem LccWork.refl (i : Station) (s : State) : LccWork i s s :=
  (StationBecomes.refl i s).lccWork rfl rfl rfl (List.Subset.refl _)

theorem LccWork.trans {i : Station} {s t u : State} (h : LccWork i s t) (k : LccWork i t u) : LccWork i s u where
  beside := h.beside.trans k.beside
  link := h.link.trans k.link
  mu := by rw [k.mu, h.mu]
  config := k.config.trans h.config
  filters := k.filters.trans h.filters
  reports := List.Subset.trans h.reports k.reports

theorem LccWork.ite {i : Station} {s t u : State} {p : Prop} [Decidable p] (h : LccWork i s t) (k : LccWork i s u) :
    LccWork i s (if p then t else u) := by
  split
  · exact h
  · exact k

/-- The latch position is read from the filters, which the LCC does not touch (R5). -/
theorem LccWork.latch {i : Station} {s t : State} (h : LccWork i s t) : (t.station i).latch = (s.station i).latch := by
  simp only [StationState.latch, h.filters]

/-! ### The single updates -/

/-- Drive work that drops no report is work of the LCC. -/
theorem DriveOnly.lccWork {s t : State} (h : DriveOnly s t) (i : Station) (reports : s.link.reports ⊆ t.link.reports) :
    LccWork i s t :=
  ((StationBecomes.refl i s).drive h).lccWork rfl rfl rfl reports

theorem LccWork.modLcc (s : State) (i : Station) (f : Lcc → Lcc) : LccWork i s (s.modLcc i f) :=
  ((StationBecomes.refl i s).modLcc f).lccWork rfl rfl rfl (List.Subset.refl _)

theorem LccWork.modLpu (s : State) (i : Station) (f : Lpu → Lpu) : LccWork i s (s.modLpu i f) :=
  ((StationBecomes.refl i s).modLpu f).lccWork rfl rfl rfl (List.Subset.refl _)

theorem LccWork.reportStation (s : State) (i j : Station) : LccWork i s (s.reportStation j) :=
  ((StationBecomes.refl i s).reportStation j).lccWork rfl rfl rfl (subset_pendReport (by simp) _)

theorem LccWork.occurrence (s : State) (kind : CounterKind) (i j : Station) : LccWork i s (s.occurrence kind j) :=
  (DriveOnly.occurrence s kind j).lccWork i (reports_subset_occurrence s kind j)

theorem reports_subset_offerSample (s : State) (n : CounterNo) (i : Station) (tension : Nat) :
    s.link.reports ⊆ (s.offerSample n i tension).link.reports := by
  dsimp only [State.offerSample]
  split
  · split
    · dsimp only [State.bump]
      split
      · exact subset_pendReport (by simp) _
      · exact List.Subset.refl _
    · exact List.Subset.refl _
  · exact List.Subset.refl _

/-- A sample offered to the Duty Counters drops no pending report (R200). -/
theorem reports_subset_sampleOccurrence (s : State) (i : Station) (tension : Nat) :
    s.link.reports ⊆ (s.sampleOccurrence i tension).link.reports :=
  List.foldlRecOn allCounters (fun s n => s.offerSample n i tension)
    (motive := fun t : State => s.link.reports ⊆ t.link.reports) (List.Subset.refl _)
    fun t kept n _ => List.Subset.trans kept (reports_subset_offerSample t n i tension)

theorem LccWork.sampleOccurrence (s : State) (i : Station) (tension : Nat) :
    LccWork i s (s.sampleOccurrence i tension) :=
  (CountsOnly.sampleOccurrence s i tension).driveOnly.lccWork i (reports_subset_sampleOccurrence s i tension)

/-! ### Motion needs and changes of line state -/

theorem LccWork.presentNeed (s : State) (i : Station) (need : Need) : LccWork i s (presentNeed s i need) :=
  ((StationBecomes.refl i s).presentNeed need).lccWork rfl rfl rfl (reports_subset_presentNeed s i need)

theorem LccWork.changeSpeed (s : State) (i : Station) (speed : Nat) : LccWork i s (changeSpeed s i speed) :=
  ((StationBecomes.refl i s).changeSpeed speed).lccWork rfl rfl rfl (by simp [Machine.changeSpeed])

theorem LccWork.changeState (s : State) (i : Station) (new : LineState) (reason : Reason) :
    LccWork i s (changeState s i new reason) :=
  (changeState_becomes s i new reason).lccWork rfl rfl rfl
    (List.Subset.trans (subset_pendReport (e := .station i) (by simp) s.link.reports)
      (reports_subset_withdrawNeed (recordMove s i new reason) i))

/-! ### FAULT -/

@[simp] theorem hardStop_link (s : State) (i : Station) : (hardStop s i).link = s.link := by
  dsimp only [hardStop]
  split
  · rfl
  · split <;> simp [apply_ite State.link]

theorem reports_subset_stopForFault (s : State) (i : Station) :
    s.link.reports ⊆ (stopForFault s i).link.reports := by
  dsimp only [stopForFault]
  split
  · exact List.Subset.trans (by simp) (reports_subset_arbitrate _)
  · exact List.Subset.trans (by simp) (reports_subset_settleStop _ _)

theorem LccWork.addFurther (s : State) (i : Station) (kind : FaultKind) : LccWork i s (addFurther s i kind) :=
  (LccWork.modLcc s i _).trans (LccWork.reportStation _ i i)

theorem reports_subset_faultEntered (s : State) (i : Station) (kind : FaultKind) :
    s.link.reports ⊆ (faultEntered s i kind).link.reports := by
  refine List.Subset.trans ?_ (reports_subset_occurrence _ .faultEntry i)
  exact List.Subset.trans (reports_subset_stopForFault ((s.modLcc i _).modMu i _) i)
    (subset_pendReport (e := .station i) (by simp) _)

theorem LccWork.enterFault (s : State) (i : Station) (kind : FaultKind) : LccWork i s (enterFault s i kind) := by
  have entered : LccWork i s (faultEntered s i kind) :=
    (faultEntered_becomes s i kind).lccWork rfl rfl rfl (reports_subset_faultEntered s i kind)
  rw [enterFault_eq]
  exact (entered.trans (LccWork.addFurther _ i .sensorLost)).ite entered

theorem LccWork.detect (s : State) (i : Station) (kind : FaultKind) : LccWork i s (detect s i kind) := by
  unfold Machine.detect
  split
  · exact LccWork.refl i s
  · exact LccWork.addFurther s i kind
  · exact LccWork.enterFault s i kind

/-! ### Entries -/

theorem LccWork.limitTest (s : State) (i : Station) : LccWork i s (limitTest s i) :=
  (LccWork.detect s i .drumLimit).ite (LccWork.refl i s)

theorem LccWork.lostAtEntry (s : State) (i : Station) : LccWork i s (lostAtEntry s i) :=
  (LccWork.detect s i .sensorLost).ite (LccWork.refl i s)

theorem LccWork.setCurrent (s : State) (i : Station) (e : ProfileNo) : LccWork i s (setCurrent s i e) :=
  (LccWork.modLcc s i _).trans (LccWork.reportStation _ i i)

theorem LccWork.enterHolding (s : State) (i : Station) (reason : Reason) : LccWork i s (enterHolding s i reason) :=
  LccWork.changeState s i .holding reason

theorem LccWork.enterLineOut (s : State) (i : Station) (reason : Reason) : LccWork i s (enterLineOut s i reason) :=
  LccWork.changeState s i .lineOut reason

theorem LccWork.enterTakingUp (s : State) (i : Station) : LccWork i s (enterTakingUp s i) :=
  (((LccWork.modLcc s i _).trans (LccWork.changeState _ i .takingUp .lockConfirmed)).trans
    (LccWork.presentNeed _ i _)).trans ((LccWork.limitTest _ i).trans (LccWork.lostAtEntry _ i))

theorem LccWork.enterAdjusting (s : State) (i : Station) (dir : Dir) (cls : Nat) (aim : ProfileNo) (reason : Reason) :
    LccWork i s (enterAdjusting s i dir cls aim reason) :=
  (((LccWork.changeState s i .adjusting reason).trans (LccWork.modLcc _ i _)).trans
    (LccWork.occurrence _ .adjustStart i i)).trans ((LccWork.presentNeed _ i _).trans (LccWork.limitTest _ i))

theorem LccWork.creepTest (s : State) (i : Station) : LccWork i s (creepTest s i) :=
  ((LccWork.modLcc s i _).trans (LccWork.changeSpeed _ i _)).ite (LccWork.refl i s)

/-! ### Attempt sequences -/

theorem LccWork.energize (s : State) (i : Station) : LccWork i s (energize s i) :=
  (LccWork.modLpu s i _).trans (LccWork.occurrence _ .latchPulse i i)

theorem LccWork.beginPulse (s : State) (i : Station) (kind : PulseKind) : LccWork i s (beginPulse s i kind) :=
  ((LccWork.modLpu s i _).trans (LccWork.energize _ i)).ite (LccWork.modLpu s i _)

theorem LccWork.askPulse (s : State) (i : Station) (kind : PulseKind) : LccWork i s (askPulse s i kind) :=
  (LccWork.modLpu s i _).ite (LccWork.beginPulse s i kind)

theorem LccWork.startSequence (s : State) (i : Station) (sequence : Sequence) :
    LccWork i s (startSequence s i sequence) :=
  (LccWork.modLpu s i _).trans (LccWork.askPulse _ i _)

/-- A confirmation with the latch not OPEN is one of a lock sequence, which brings no arrival (R18, R122). -/
theorem LccWork.confirmTest {s : State} {i : Station} (h : (s.station i).latch ≠ .opened) :
    LccWork i s (confirmTest s i) := by
  unfold Machine.confirmTest
  split
  · next confirms =>
    have target : (s.station i).lpu.sequence.target = some (s.station i).latch := by
      simp only [StationState.confirmsNow, Bool.and_eq_true, decide_eq_true_eq] at confirms
      exact confirms.2
    refine (LccWork.modLpu s i Lpu.confirmed).trans ?_
    unfold reportConfirmed
    split
    · exact LccWork.enterTakingUp _ i
    · next release _ =>
      rw [release] at target
      exact absurd (Option.some.inj target).symm h
    · exact LccWork.refl i _
  · exact LccWork.refl i s

/-- An entry of RELEASING with the latch not OPEN waits for its release to confirm (R24). -/
theorem LccWork.enterReleasing {s : State} {i : Station} (h : (s.station i).latch ≠ .opened) (reason : Reason)
    (rewind : Bool) : LccWork i s (enterReleasing s i reason rewind) := by
  have begun := (((LccWork.modLcc s i fun l => { l with rewindFlag := some rewind }).trans
    (LccWork.changeState _ i .releasing reason)).trans (LccWork.startSequence _ i .release)).trans
      (LccWork.lostAtEntry _ i)
  exact begun.trans (LccWork.confirmTest (by rw [begun.latch]; exact h))

/-! ### The count -/

theorem LccWork.countChanged (s : State) (i : Station) : LccWork i s (countChanged s i) := by
  dsimp only [Machine.countChanged]
  refine (LccWork.detect s i .drumLimit).ite ?_
  split
  · exact (LccWork.enterLineOut s i .targetReached).ite (LccWork.refl i s)
  · exact (LccWork.detect s i .takeupLimit).ite (LccWork.refl i s)
  · exact LccWork.creepTest s i
  · exact LccWork.refl i s

theorem LccWork.inwardDiscarded (s : State) (i : Station) : LccWork i s (inwardDiscarded s i) := by
  unfold Machine.inwardDiscarded
  split
  · exact ((LccWork.modLcc s i _).trans (LccWork.detect _ i .stowNotFound)).ite (LccWork.modLcc s i _)
  · exact LccWork.refl i s

/-! ### A sample event -/

theorem LccWork.latchOverload (s : State) (i : Station) : LccWork i s (latchOverload s i) :=
  (LccWork.refl i s).ite ((LccWork.modLcc s i _).trans (LccWork.reportStation _ i i))

/-- An overload event releases the line only with the latch not OPEN (R75). -/
theorem LccWork.overloadEvent (s : State) (i : Station) : LccWork i s (overloadEvent s i) := by
  have counted := (LccWork.modLcc s i fun l => { l with dose := 0 }).trans (LccWork.occurrence _ .overloadEvent i i)
  dsimp only [Machine.overloadEvent]
  split
  · next releases =>
    simp only [Bool.and_eq_true, decide_eq_true_eq] at releases
    exact counted.trans (LccWork.enterReleasing (by rw [counted.latch]; exact releases.2) _ _)
  · exact counted.trans (LccWork.latchOverload _ i)

theorem LccWork.doseWork (s : State) (i : Station) (e : ProfileNo) : LccWork i s (doseWork s i e) :=
  ((LccWork.modLcc s i _).trans (LccWork.overloadEvent _ i)).ite (LccWork.modLcc s i _)

theorem LccWork.regulateHolding (s : State) (i : Station) (e : ProfileNo) : LccWork i s (regulateHolding s i e) :=
  (LccWork.enterAdjusting s i _ _ e _).ite ((LccWork.enterAdjusting s i _ _ e _).ite ((LccWork.refl i s).ite
    ((LccWork.setCurrent s i e).ite ((LccWork.enterAdjusting s i _ _ e _).ite (LccWork.enterAdjusting s i _ _ e _)))))

theorem LccWork.settleRetension (s : State) (i : Station) (e : ProfileNo) : LccWork i s (settleRetension s i e) :=
  (LccWork.setCurrent s i e).trans (LccWork.enterHolding _ i .settled)

theorem LccWork.continueRun (s : State) (i : Station) (e : ProfileNo) : LccWork i s (continueRun s i e) :=
  (LccWork.modLcc s i _).trans (LccWork.changeSpeed _ i _)

theorem LccWork.testAdjusting (s : State) (i : Station) (e : ProfileNo) : LccWork i s (testAdjusting s i e) := by
  have run := LccWork.continueRun s i e
  have settled := LccWork.settleRetension s i e
  dsimp only [Machine.testAdjusting]
  split
  · exact run.ite (settled.ite (LccWork.enterAdjusting s i _ _ e _))
  · exact run.ite (settled.ite (LccWork.enterAdjusting s i _ _ e _))
  · exact LccWork.refl i s

theorem LccWork.testTakeup (s : State) (i : Station) (e : ProfileNo) : LccWork i s (testTakeup s i e) :=
  ((LccWork.setCurrent s i e).trans (LccWork.enterHolding _ i .takeupDone)).ite (LccWork.refl i s)

theorem LccWork.stateTest (s : State) (i : Station) (e : ProfileNo) : LccWork i s (stateTest s i e) := by
  unfold Machine.stateTest
  split
  · exact LccWork.testTakeup s i e
  · exact LccWork.regulateHolding s i e
  · exact LccWork.testAdjusting s i e
  · exact LccWork.refl i s

/-- What the LCC does at a sample event leaves the measurement alone (R27, R50, R66). -/
theorem LccWork.lccSample (s : State) (i : Station) : LccWork i s (lccSample s i) := by
  dsimp only [Machine.lccSample]
  split
  · exact (LccWork.detect s i .lineSnag).ite (LccWork.refl i s)
  · split
    · next e _ _ => exact ((LccWork.doseWork s i e).trans (LccWork.stateTest _ i e)).ite (LccWork.doseWork s i e)
    · exact LccWork.refl i s

end Sys2Proof.Machine

/-!
PROOF. A good sample record at an in-service station (O30): the record is decoded to the tension and the flag of the
statement, they are stored, and what the LCC and the Duty Counters then do leaves them alone.
-/
namespace Sys2Proof.Machine

/-! ### A good sample -/

/-- The state with a sample stored, before its alarm changes and its sample event (R47, R48, R53; log 29). -/
def sampleStored (s : State) (i : Station) (tension : Nat) (saturated : Bool) : State :=
  (s.modMu i fun m => { m with
    tension := tension, saturated := saturated, age := 0, ageTimeout := s.settings.sampleTimeout,
    lost := false }).dropHanded i .sensorLost

/-- The state with a sample stored and its alarm changes reported (R48, R50). -/
def sampleReported (s : State) (i : Station) (tension : Nat) (saturated : Bool) : State :=
  if decide ((s.station i).mu.saturated ≠ saturated) || (s.station i).sampleLostAlarm then
    (sampleStored s i tension saturated).reportStation i
  else sampleStored s i tension saturated

theorem goodSample_eq (s : State) (i : Station) (tension : Nat) (saturated : Bool) :
    goodSample s i tension saturated =
      (lccSample (sampleReported s i tension saturated) i).sampleOccurrence i tension := rfl

theorem sampleStored_becomes (s : State) (i : Station) (tension : Nat) (saturated : Bool) :
    StationBecomes i s (sampleStored s i tension saturated)
      { s.station i with
        mu := { (s.station i).mu with
          tension := tension, saturated := saturated, age := 0, ageTimeout := s.settings.sampleTimeout, lost := false }
        handed := (s.station i).handed.filter fun k => !decide (k = .sensorLost) } :=
  ((StationBecomes.refl i s).modMu _ fun _ _ => rfl).modHanded _

theorem sampleReported_work (s : State) (i : Station) (tension : Nat) (saturated : Bool) :
    LccWork i (sampleStored s i tension saturated) (sampleReported s i tension saturated) :=
  (LccWork.reportStation _ i i).ite (LccWork.refl i _)

/-- The sample event works on the state with the sample reported (R50). -/
theorem goodSample_work (s : State) (i : Station) (tension : Nat) (saturated : Bool) :
    LccWork i (sampleReported s i tension saturated) (goodSample s i tension saturated) := by
  rw [goodSample_eq]
  exact (LccWork.lccSample _ i).trans (LccWork.sampleOccurrence _ i tension)

/-- What a good sample leaves of its station's measurement (R47, R48, R53). -/
theorem goodSample_mu (s : State) (i : Station) (tension : Nat) (saturated : Bool) :
    ((goodSample s i tension saturated).station i).mu = { (s.station i).mu with
      tension := tension, saturated := saturated, age := 0, ageTimeout := s.settings.sampleTimeout, lost := false
      correction := ((goodSample s i tension saturated).station i).mu.correction
      releaseMeasure := ((goodSample s i tension saturated).station i).mu.releaseMeasure } := by
  have stored := (sampleStored_becomes s i tension saturated).station.mu
  have work := (sampleReported_work s i tension saturated).trans (goodSample_work s i tension saturated)
  refine work.mu.trans ?_
  rw [stored]

/-- What a good sample leaves beside the measurement (R48, R50). -/
theorem goodSample_keeps (s : State) (i : Station) (tension : Nat) (saturated : Bool) :
    KeptBeside i s (goodSample s i tension saturated) ∧ LinkKept s (goodSample s i tension saturated) ∧
      ((goodSample s i tension saturated).station i).config = (s.station i).config ∧
      ((goodSample s i tension saturated).station i).filters = (s.station i).filters := by
  have stored := sampleStored_becomes s i tension saturated
  have work := (sampleReported_work s i tension saturated).trans (goodSample_work s i tension saturated)
  exact ⟨stored.keptBeside.trans work.beside, stored.link.trans work.link, work.config.trans stored.station.config,
    work.filters.trans stored.station.filters⟩

/-- A change of the saturated flag and the end of the SAMPLE_LOST alarm are reported (R48, R51). -/
theorem mem_reports_goodSample {s : State} {i : Station} {tension : Nat} {saturated : Bool}
    (h : saturated ≠ (s.station i).mu.saturated ∨ (s.station i).sampleLostAlarm = true) :
    ReportEntry.station i ∈ (goodSample s i tension saturated).link.reports := by
  apply (goodSample_work s i tension saturated).reports
  have moved : (decide ((s.station i).mu.saturated ≠ saturated) || (s.station i).sampleLostAlarm) = true := by
    rcases h with flag | lost
    · simp [flag.symm]
    · simp [lost]
  rw [sampleReported, if_pos moved]
  exact mem_reports_reportStation _ i

/-! ### The record -/

/-- A record with its check byte (R46). -/
def sampleRecord (status high low : Byte) : List Byte := [status, high, low, status ^^^ high ^^^ low]

theorem decodeSample_ok (high low : Byte) :
    decodeSample (sampleRecord 0 high low) = .ok (high.toNat * 256 + low.toNat) := by
  simp [decodeSample, sampleRecord]

theorem decodeSample_overRange (high low : Byte) :
    decodeSample (sampleRecord 1 high low) = .overRange := by
  simp [decodeSample, sampleRecord]

/-- The tension and flag of an OK record, in the words of the statement (R47). -/
theorem tensionOf_eq_ofRecord (c : StationConfig) (high low : Byte) :
    tensionOf c.zero c.span (high.toNat * 256 + low.toNat) =
      (c.tensionOfRecord 0 high low, c.recordSaturates 0 high low) := by
  unfold tensionOf StationConfig.tensionOfRecord StationConfig.recordSaturates Config.tensionMax
  generalize high.toNat * 256 + low.toNat = raw
  generalize (raw - c.zero) * c.span / 4096 = x
  by_cases below : raw ≤ c.zero
  · simp [below]
  · by_cases large : 10000 < x
    · simp [below, large, not_le.mp below, large.le]
    · simp [below, large, not_lt.mp large]

/-- A good record is a good sample with the tension and the flag of the statement (R47, R48). -/
theorem takeRecord_good {s : State} {i : Station} {c : StationConfig} {status : Byte} (high low : Byte)
    (hc : (s.station i).config = some c) (h : status.toNat ≤ 1) :
    takeRecord s i (sampleRecord status high low) =
      goodSample s i (c.tensionOfRecord status high low) (c.recordSaturates status high low) := by
  have okOrOverRange : status = 0 ∨ status = 1 := by bv_omega
  obtain rfl | rfl := okOrOverRange
  · rw [takeRecord, decodeSample_ok, hc]
    simp only [tensionOf_eq_ofRecord]
  · rw [takeRecord, decodeSample_overRange]
    simp [StationConfig.tensionOfRecord, StationConfig.recordSaturates, Config.tensionMax]

/-- The four bytes held of a record (R46). -/
def State.holdRecord (s : State) (i : Station) (record : List Byte) : State :=
  s.modMu i fun m => { m with sampleHeld := record }

theorem holdRecord_station (s : State) (i : Station) (record : List Byte) :
    (s.holdRecord i record).station i =
      { s.station i with mu := { (s.station i).mu with sampleHeld := record } } :=
  State.station_modMu_same _ _ _

theorem holdRecord_becomes (s : State) (i : Station) (record : List Byte) :
    StationBecomes i s (s.holdRecord i record)
      { s.station i with mu := { (s.station i).mu with sampleHeld := record } } :=
  (StationBecomes.refl i s).modMu _ fun _ _ => rfl

/-- The run that brings a record's fourth byte to an in-service station hands the record over (R46). -/
theorem exec_sampleRecordReceived_completes {s : State} {i : Station} {bytes record : List Byte}
    (hs : (s.station i).lcc.lineState ≠ .offline) (held : (s.station i).mu.sampleHeld.length < 4)
    (completes : (s.station i).mu.sampleHeld ++ bytes = record) (four : record.length = 4) :
    exec (.sampleRecordReceived i bytes) s = .next (takeRecord (s.holdRecord i record) i record) := by
  have whole : record.take 4 = record := List.take_of_length_le four.le
  have inService : s.inService i = true := by simp [State.inService, hs]
  have arm : exec (.sampleRecordReceived i bytes) s = .next (takeSampleBytes s i bytes) := rfl
  simp only [arm, takeSampleBytes, completes, whole, held, four, inService, State.holdRecord, and_self, if_true]

/-- Settles O30: the record is decoded and stored, and the rest of the step is the LCC's work, which keeps it. -/
theorem goodRecordStored : Obligations.GoodRecordStored := by
  unfold Obligations.GoodRecordStored
  intro s i c bytes status high low hs hc held completes good
  have holds := holdRecord_becomes s i (sampleRecord status high low)
  have found := holdRecord_station s i (sampleRecord status high low)
  have taken := exec_sampleRecordReceived_completes (record := sampleRecord status high low) hs held completes rfl
  rw [takeRecord_good high low (by rw [found]; exact hc) good] at taken
  generalize s.holdRecord i (sampleRecord status high low) = u at holds found taken
  obtain ⟨beside, link, config, filters⟩ :=
    goodSample_keeps u i (c.tensionOfRecord status high low) (c.recordSaturates status high low)
  have sampled := goodSample_mu u i (c.tensionOfRecord status high low) (c.recordSaturates status high low)
  have settings : u.settings = s.settings := congrArg BerthSettings.config holds.berth.berth
  rw [found] at config filters sampled
  refine ⟨_, taken, holds.keptBeside.trans beside, holds.link.trans link, ?_, config, filters, fun alarms =>
    mem_reports_goodSample (by rw [found]; exact alarms)⟩
  generalize goodSample u i _ _ = t at sampled ⊢
  have record : (t.station i).mu.sampleHeld = sampleRecord status high low := by rw [sampled]
  rw [record, ← settings]
  exact sampled

end Sys2Proof.Machine

/-!
PROOF. A change of the encoder levels (O38): the quarter position is stored, a step between Q3 and Q0 at an in-service
station moves the accumulator and the count, and what the LCC then does at its limits leaves them alone.
-/
namespace Sys2Proof.Machine

/-! ### The quarter positions -/

theorem Quarter.ofLevels_eq (a b : Bool) :
    Quarter.ofLevels a b = if a then (if b then .q2 else .q1) else (if b then .q3 else .q0) := by
  cases a <;> cases b <;> rfl

theorem Quarter.ofLevels_eq_q0 {a b : Bool} : Quarter.ofLevels a b = .q0 ↔ a = false ∧ b = false := by
  cases a <;> cases b <;> simp [Quarter.ofLevels]

theorem Quarter.ofLevels_eq_q3 {a b : Bool} : Quarter.ofLevels a b = .q3 ↔ a = false ∧ b = true := by
  cases a <;> cases b <;> simp [Quarter.ofLevels]

/-- Only a step between Q3 and Q0 makes a cycle (R37). -/
theorem Quarter.cycle_none {old new : Quarter} (out : ¬(old = .q3 ∧ new = .q0)) (inward : ¬(old = .q0 ∧ new = .q3)) :
    old.cycle new = none := by
  unfold Quarter.cycle
  split <;> simp_all

/-! ### The cycles -/

/-- The station's quarter position follows the levels (R36, R37). -/
def State.atQuarter (s : State) (i : Station) (q : Quarter) : State := s.modMu i fun m => { m with quarter := q }

theorem atQuarter_station (s : State) (i : Station) (q : Quarter) :
    (s.atQuarter i q).station i = { s.station i with mu := { (s.station i).mu with quarter := q } } :=
  State.station_modMu_same _ _ _

theorem atQuarter_becomes (s : State) (i : Station) (q : Quarter) :
    StationBecomes i s (s.atQuarter i q)
      { s.station i with mu := { (s.station i).mu with quarter := q } } :=
  (StationBecomes.refl i s).modMu _ fun _ _ => rfl

/-- A cycle leaves these values of the accumulator, the count and the reference mark, and the rest of the measurement but
for the stow correction and the release measurement (R37, R38). -/
structure CycleLeaves (i : Station) (s t : State) (accumulator : Int) (count : Nat) (referenced : Bool) : Prop where
  beside : KeptBeside i s t
  link : LinkKept s t
  mu : (t.station i).mu = { (s.station i).mu with
    accumulator := accumulator, count := count, referenced := referenced
    correction := (t.station i).mu.correction, releaseMeasure := (t.station i).mu.releaseMeasure }

/-- What the LCC does about a cycle leaves its values standing. -/
theorem StationBecomes.cycleLeaves {i : Station} {s t u : State} {accumulator : Int} {count : Nat} {referenced : Bool}
    (h : StationBecomes i s t { s.station i with
      mu := { (s.station i).mu with accumulator := accumulator, count := count, referenced := referenced } })
    (work : LccWork i t u) : CycleLeaves i s u accumulator count referenced where
  beside := h.keptBeside.trans work.beside
  link := h.link.trans work.link
  mu := by
    refine work.mu.trans ?_
    rw [h.station.mu]

/-- An outward cycle in STOWED is not counted and takes the reference away (R38, R41). -/
theorem outwardCycle_stowed {s : State} {i : Station} (h : (s.station i).lcc.lineState = .stowed) :
    CycleLeaves i s (outwardCycle s i) ((s.station i).mu.accumulator + 1) (s.station i).mu.count false := by
  have moved := (StationBecomes.refl i s).modMu (fun m => { m with accumulator := m.accumulator + 1 }) fun _ _ => rfl
  have lost := moved.modMu (fun m => { m with referenced := false }) fun _ _ => rfl
  dsimp only [outwardCycle]
  rw [if_pos h]
  split
  · exact lost.cycleLeaves (LccWork.reportStation _ i i)
  · next unreferenced =>
    rw [← Bool.eq_false_of_not_eq_true unreferenced]
    exact moved.cycleLeaves (LccWork.refl i _)

/-- The loss of the reference is reported (R41). -/
theorem mem_reports_outwardCycle {s : State} {i : Station} (h : (s.station i).lcc.lineState = .stowed)
    (referenced : (s.station i).mu.referenced = true) : ReportEntry.station i ∈ (outwardCycle s i).link.reports := by
  dsimp only [outwardCycle]
  rw [if_pos h, if_pos referenced]
  exact mem_reports_reportStation _ i

/-- An outward cycle outside STOWED is counted up to Cmax (R38). -/
theorem outwardCycle_outsideStowed {s : State} {i : Station} (h : (s.station i).lcc.lineState ≠ .stowed) :
    CycleLeaves i s (outwardCycle s i) ((s.station i).mu.accumulator + 1)
      (if (s.station i).cmax ≤ (s.station i).mu.count then (s.station i).mu.count else (s.station i).mu.count + 1)
      (s.station i).mu.referenced := by
  have moved := (StationBecomes.refl i s).modMu (fun m => { m with accumulator := m.accumulator + 1 }) fun _ _ => rfl
  have counted := moved.modMu (fun m => { m with count := m.count + 1 }) fun _ _ => rfl
  dsimp only [outwardCycle]
  rw [if_neg h]
  split
  · exact moved.cycleLeaves (LccWork.refl i _)
  · exact counted.cycleLeaves (LccWork.countChanged _ i)

/-- What an outward cycle leaves of the accumulator, the count and the reference mark (R37, R38, R41). -/
theorem outwardCycle_leaves (s : State) (i : Station) :
    CycleLeaves i s (outwardCycle s i) ((s.station i).mu.accumulator + 1)
      (if (s.station i).lcc.lineState = .stowed ∨ (s.station i).cmax ≤ (s.station i).mu.count then
        (s.station i).mu.count else (s.station i).mu.count + 1)
      (if (s.station i).lcc.lineState = .stowed then false else (s.station i).mu.referenced) := by
  by_cases stowed : (s.station i).lcc.lineState = .stowed
  · rw [if_pos (.inl stowed), if_pos stowed]
    exact outwardCycle_stowed stowed
  · simp only [stowed, false_or, if_false]
    exact outwardCycle_outsideStowed stowed

/-- An inward cycle is counted down to 0 (R38). -/
theorem inwardCycle_leaves (s : State) (i : Station) :
    CycleLeaves i s (inwardCycle s i) ((s.station i).mu.accumulator - 1) ((s.station i).mu.count - 1)
      (s.station i).mu.referenced := by
  have moved := (StationBecomes.refl i s).modMu (fun m => { m with accumulator := m.accumulator - 1 }) fun _ _ => rfl
  have counted := moved.modMu (fun m => { m with count := m.count - 1 }) fun _ _ => rfl
  dsimp only [inwardCycle]
  split
  · next clamped =>
    have stands : (s.station i).mu.count - 1 = (s.station i).mu.count := by rw [clamped]
    rw [stands]
    exact moved.cycleLeaves (LccWork.inwardDiscarded _ i)
  · exact counted.cycleLeaves (LccWork.countChanged _ i)

/-! ### The command -/

/-- A cycle that follows the stored quarter position leaves it stored. -/
theorem CycleLeaves.afterQuarter {i : Station} {s t : State} {q : Quarter} {accumulator : Int} {count : Nat}
    {referenced : Bool} (h : CycleLeaves i (s.atQuarter i q) t accumulator count referenced) :
    KeptBeside i s t ∧ LinkKept s t ∧ (t.station i).mu.quarter = q ∧ (t.station i).mu.accumulator = accumulator ∧
      (t.station i).mu.count = count ∧ (t.station i).mu.referenced = referenced := by
  have stored := atQuarter_becomes s i q
  refine ⟨stored.keptBeside.trans h.beside, stored.link.trans h.link, ?_, ?_, ?_, ?_⟩ <;> rw [h.mu]
  rw [atQuarter_station]

theorem exec_encoderEdge (i : Station) (a b : Bool) (s : State) :
    exec (.encoderEdge i a b) s = .next (encoderMoves s i a b) := rfl

section Edge

variable {s : State} {i : Station}

theorem encoderMoves_outward (hs : (s.station i).lcc.lineState ≠ .offline) (hq : (s.station i).mu.quarter = .q3) :
    encoderMoves s i false false = outwardCycle (s.atQuarter i .q0) i := by
  simp [encoderMoves, State.inService, hs, hq, Quarter.ofLevels, Quarter.cycle, State.atQuarter]

theorem encoderMoves_inward (hs : (s.station i).lcc.lineState ≠ .offline) (hq : (s.station i).mu.quarter = .q0) :
    encoderMoves s i false true = inwardCycle (s.atQuarter i .q3) i := by
  simp [encoderMoves, State.inService, hs, hq, Quarter.ofLevels, Quarter.cycle, State.atQuarter]

/-- A change that makes no cycle, or one at an OFFLINE station, moves the quarter position alone (R36, R37). -/
theorem encoderMoves_still {a b : Bool}
    (h : (s.station i).lcc.lineState = .offline ∨ ¬((s.station i).mu.quarter = .q3 ∧ a = false ∧ b = false ∨
      (s.station i).mu.quarter = .q0 ∧ a = false ∧ b = true)) :
    encoderMoves s i a b = s.atQuarter i (Quarter.ofLevels a b) := by
  rcases h with offline | noCycle
  · simp [encoderMoves, State.inService, offline, State.atQuarter]
  · have still := Quarter.cycle_none (old := (s.station i).mu.quarter) (new := Quarter.ofLevels a b)
      (by rw [Quarter.ofLevels_eq_q0]; exact fun out => noCycle (.inl out))
      (by rw [Quarter.ofLevels_eq_q3]; exact fun back => noCycle (.inr back))
    simp [encoderMoves, still, State.atQuarter]

end Edge

/-- Settles O38: a change is an outward cycle, an inward cycle or none, and the cycles' own lemmas say what each leaves. -/
theorem encoderEdgeCounts : Obligations.EncoderEdgeCounts := by
  unfold Obligations.EncoderEdgeCounts
  intro s i a b
  refine ⟨_, exec_encoderEdge i a b s, ?_⟩
  rw [← Quarter.ofLevels_eq]
  by_cases still : (s.station i).lcc.lineState = .offline ∨ ¬((s.station i).mu.quarter = .q3 ∧ a = false ∧ b = false ∨
      (s.station i).mu.quarter = .q0 ∧ a = false ∧ b = true)
  · have stored := atQuarter_becomes s i (Quarter.ofLevels a b)
    have quarter : ((s.atQuarter i (Quarter.ofLevels a b)).station i).mu.quarter = Quarter.ofLevels a b := by
      rw [atQuarter_station]
    rw [encoderMoves_still still, quarter]
    refine ⟨stored.keptBeside, stored.link, rfl, fun hs q ha hb => ?_, fun hs q ha hb => ?_, fun _ => rfl⟩
    · exact absurd still (by simp [hs, q, ha, hb])
    · exact absurd still (by simp [hs, q, ha, hb])
  · obtain ⟨hs, cycle⟩ := not_or.mp still
    have found := atQuarter_station s i
    obtain ⟨q, rfl, rfl⟩ | ⟨q, rfl, rfl⟩ := not_not.mp cycle
    · rw [encoderMoves_outward hs q]
      have leaves := (outwardCycle_leaves (s.atQuarter i .q0) i).afterQuarter
      rw [found] at leaves
      obtain ⟨beside, link, quarter, accumulator, count, referenced⟩ := leaves
      refine ⟨beside, link, quarter, fun _ _ _ _ => ⟨accumulator, count, referenced, fun stowed marked => ?_⟩,
        fun _ _ _ up => absurd up (by decide), fun noCycle => absurd noCycle still⟩
      exact mem_reports_outwardCycle (by rw [found]; exact stowed) (by rw [found]; exact marked)
    · rw [encoderMoves_inward hs q]
      have leaves := (inwardCycle_leaves (s.atQuarter i .q3) i).afterQuarter
      rw [found] at leaves
      obtain ⟨beside, link, quarter, accumulator, count, referenced⟩ := leaves
      exact ⟨beside, link, quarter, fun _ _ _ down => absurd down (by decide),
        fun _ _ _ _ => ⟨accumulator, count, referenced⟩, fun noCycle => absurd noCycle still⟩

end Sys2Proof.Machine

/-!
PROOF. SET_CONDITION (O14): how the request handler serves a berth request whose body is decoded, what working through the
stations makes of the effective profiles and the STATION reports, and the obligation.
-/
namespace Sys2Proof.Machine

/-! ### A berth request with a decoded body -/

/-- The head frame of the inbound queue is taken (R172). -/
def State.taking (s : State) (rest : List (List Byte)) : State := s.modLink fun l => { l with inbound := rest }

/-- A reply is placed in the reply slot (R172). -/
def State.answering (s : State) (reply : List Byte) : State := s.modLink fun l => { l with replySlot := some reply }

/-- A request that changes nothing is taken and answered. -/
theorem State.taking_answering (s : State) (rest : List (List Byte)) (reply : List Byte) :
    (s.taking rest).answering reply = s.answeredWith rest reply := rfl

/-- A berth request is decoded, applied and answered with its result (R172, R174). -/
theorem serveBerth_decoded {α : Type} {s : State} {code tag : Byte} {body : List Byte} {rest : List (List Byte)}
    {decode : List Byte → Decoded α} {apply : State → α → Applied} {a : α} {t : State} {result : Result}
    (h : HandlerTakes s (code :: tag :: body) rest) (hd : decode body = .ok a)
    (ha : apply (s.taking rest) a = (t, result)) :
    serveBerth s code decode apply = t.answering (berthReply code tag (BitVec.ofNat 8 result.code)) := by
  obtain ⟨hslot, hworking, hinbound⟩ := h
  have taken : dropHead s = s.taking rest := by simp [dropHead, State.taking, State.modLink, hinbound]
  have head : s.headFrame = some (code :: tag :: body) := by simp [State.headFrame, hslot, hworking, hinbound]
  simp [serveBerth, takeFrame, head, frameCode, frameTag, frameBody, hd, taken, ha, replyTo, placeReply, replyPayload,
    berthReply, FrameResult.code, be8, State.answering]

/-! ### One station -/

/-- The station with its effective profile as R62 has it under this ceiling entry. -/
def StationState.underCeiling (a : StationState) (ceiling : ProfileNo) : StationState :=
  { a with lcc := { a.lcc with
      effective := match a.config with
        | some c => some (min c.requested ceiling)
        | none => a.lcc.effective } }

theorem StationState.underCeiling_none {a : StationState} (h : a.config = none) (ceiling : ProfileNo) :
    a.underCeiling ceiling = a := by
  cases a
  cases h
  rfl

theorem StationState.underCeiling_some {a : StationState} {c : StationConfig} (h : a.config = some c)
    (ceiling : ProfileNo) :
    a.underCeiling ceiling = { a with lcc := { a.lcc with effective := some (min c.requested ceiling) } } := by
  simp [StationState.underCeiling, h]

/-- The ceiling entry changes the effective profile of an in-service station, which is reported (R63). -/
def StationState.ceilingReported (a : StationState) (ceiling : ProfileNo) : Prop :=
  (a.underCeiling ceiling).lcc.effective ≠ a.lcc.effective ∧ a.lcc.lineState ≠ .offline

/-- A station's recomputation leaves it as it is, changes and reports it in service, or changes it OFFLINE (R62, R63). -/
theorem recomputeEffective_cases (s : State) (i : Station) :
    ((s.station i).underCeiling s.ceilingNow = s.station i ∧ recomputeEffective s i = s) ∨
    ((s.station i).ceilingReported s.ceilingNow ∧ recomputeEffective s i =
      (s.setStation i ((s.station i).underCeiling s.ceilingNow)).reportStation i) ∨
    ((s.station i).lcc.lineState = .offline ∧ recomputeEffective s i =
      s.setStation i ((s.station i).underCeiling s.ceilingNow)) := by
  cases hc : (s.station i).config with
  | none => exact .inl ⟨StationState.underCeiling_none hc _, recomputeEffective_none s i hc⟩
  | some c =>
    rw [StationState.ceilingReported, StationState.underCeiling_some hc]
    by_cases he : (s.station i).lcc.effective = some (min c.requested s.ceilingNow)
    · exact .inl ⟨by rw [← he], by simp [recomputeEffective, hc, he]⟩
    · by_cases hs : (s.station i).lcc.lineState = .offline
      · exact .inr (.inr ⟨hs, by simp [recomputeEffective, hc, he, hs, State.inService, State.modLcc]⟩)
      · exact .inr (.inl ⟨⟨fun k => he k.symm, hs⟩,
          by simp [recomputeEffective, hc, he, hs, State.inService, State.modLcc]⟩)

/-! ### Reports made for stations -/

theorem ReportsFor.congr {made made' : Station → Prop} {before after : List ReportEntry}
    (h : ReportsFor made before after) (e : ∀ i, made i ↔ made' i) : ReportsFor made' before after :=
  (funext fun i => propext (e i) : made = made') ▸ h

/-- With no report made the queue stands. -/
theorem ReportsFor.refl {made : Station → Prop} (h : ∀ i, ¬made i) (l : List ReportEntry) : ReportsFor made l l :=
  ⟨List.prefix_refl l, by simp [h]⟩

theorem mem_pendReport_station_iff {i : Station} {r : ReportEntry} {l : List ReportEntry} :
    r ∈ pendReport (.station i) l ↔ r ∈ l ∨ r = .station i := by
  refine ⟨fun h => (mem_pendReport h).symm, fun h => ?_⟩
  rcases h with h | rfl
  · exact subset_pendReport (by simp) l h
  · exact pendReport_mem _ l

/-- One more STATION report (R182). -/
theorem ReportsFor.pendReport {made : Station → Prop} {before after : List ReportEntry}
    (h : ReportsFor made before after) (i : Station) :
    ReportsFor (fun j => made j ∨ j = i) before (pendReport (.station i) after) := by
  obtain ⟨kept, pending⟩ := h
  refine ⟨kept.trans (prefix_pendReport_station i after), fun r => ?_⟩
  simp only [mem_pendReport_station_iff, pending, or_and_right, exists_or, exists_eq_left, or_assoc]

/-! ### Every station -/

/-- In `t` the effective profiles of the listed stations of `s` are recomputed and their changes in service reported, and
nothing else differs (R62, R63). -/
structure Recomputed (l : List Station) (s t : State) : Prop where
  station : ∀ i, t.station i = if i ∈ l then (s.station i).underCeiling s.ceilingNow else s.station i
  reports : ReportsFor (fun i => i ∈ l ∧ (s.station i).ceilingReported s.ceilingNow) s.link.reports t.link.reports
  rest : t = { s with stations := t.stations, link := { s.link with reports := t.link.reports } }

theorem Recomputed.refl (s : State) : Recomputed [] s s :=
  ⟨by simp, ReportsFor.refl (by simp) _, rfl⟩

theorem Recomputed.ceilingNow {l : List Station} {s t : State} (h : Recomputed l s t) :
    t.ceilingNow = s.ceilingNow := by
  rw [h.rest]
  rfl

/-- The stations of the list and one more. -/
theorem Recomputed.snoc {l : List Station} {s t : State} {i : Station} (h : Recomputed l s t) (new : i ∉ l) :
    Recomputed (l ++ [i]) s (recomputeEffective t i) := by
  have fresh : t.station i = s.station i := by rw [h.station, if_neg new]
  have outcome := recomputeEffective_cases t i
  rw [fresh, h.ceilingNow] at outcome
  have stored (j : Station) : (t.setStation i ((s.station i).underCeiling s.ceilingNow)).station j =
      if j ∈ l ++ [i] then (s.station j).underCeiling s.ceilingNow else s.station j := by
    rw [State.station_setStation, h.station]
    by_cases hj : j = i <;> simp [hj]
  have restStored : t.setStation i ((s.station i).underCeiling s.ceilingNow) = { s with
      stations := (t.setStation i ((s.station i).underCeiling s.ceilingNow)).stations
      link := { s.link with reports := t.link.reports } } :=
    congrArg (State.setStation · i ((s.station i).underCeiling s.ceilingNow)) h.rest
  obtain ⟨same, he⟩ | ⟨reported, he⟩ | ⟨offline, he⟩ := outcome
  · rw [he]
    refine ⟨fun j => ?_, h.reports.congr fun j => ?_, h.rest⟩
    · rw [h.station]
      by_cases hj : j = i <;> simp [hj, same]
    · by_cases hj : j = i <;> simp [hj, new, StationState.ceilingReported, same]
  · rw [he]
    refine ⟨stored, (h.reports.pendReport i).congr fun j => ?_, congrArg (State.reportStation · i) restStored⟩
    by_cases hj : j = i <;> simp [hj, reported]
  · rw [he]
    refine ⟨stored, h.reports.congr fun j => ?_, restStored⟩
    by_cases hj : j = i <;> simp [hj, new, StationState.ceilingReported, offline]

/-- The stations of two lists, worked through one after the other. -/
theorem Recomputed.foldl {s : State} (l : List Station) : ∀ {done : List Station} {t : State},
    Recomputed done s t → (done ++ l).Nodup → Recomputed (done ++ l) s (l.foldl recomputeEffective t) := by
  induction l with
  | nil => intro done t h _; simpa using h
  | cons i l ih =>
    intro done t h distinct
    have new : i ∉ done := fun k => (List.nodup_append.mp distinct).2.2 i k i List.mem_cons_self rfl
    rw [List.append_cons] at distinct ⊢
    exact ih (h.snoc new) distinct

theorem mem_allStations (i : Station) : i ∈ allStations := by
  revert i
  decide

theorem recomputeAll_recomputed (s : State) : Recomputed allStations s (recomputeAll s) :=
  (Recomputed.refl s).foldl allStations (by decide)

/-- Every station's effective profile is as R62 has it (R60, R61). -/
theorem recomputeAll_station (s : State) (i : Station) :
    (recomputeAll s).station i = (s.station i).underCeiling s.ceilingNow := by
  rw [(recomputeAll_recomputed s).station, if_pos (mem_allStations i)]

/-- Exactly the in-service stations whose effective profile changes are reported (R63, R182). -/
theorem recomputeAll_reports (s : State) :
    ReportsFor (fun i => (s.station i).ceilingReported s.ceilingNow) s.link.reports (recomputeAll s).link.reports :=
  (recomputeAll_recomputed s).reports.congr fun i => by simp [mem_allStations]

/-! ### The command -/

theorem decodeSetCondition_be8 {cls : Nat} (h : cls < 256) : decodeSetCondition (be8 cls) = .ok cls := by
  simpa [decodeSetCondition, ofLength, byteAt, be8] using h

theorem conditionNo_val (k : ConditionClass) : conditionNo k.val = k :=
  Fin.ext (Nat.mod_eq_of_lt k.isLt)

/-- SET_CONDITION is served as a berth request (R60, R174). -/
theorem exec_setCondition (s : State) :
    exec .setCondition s = .next (serveBerth s 0x09 decodeSetCondition applySetCondition) := rfl

theorem applySetCondition_outOfRange {cls : Nat} (h : 3 < cls) (s : State) :
    applySetCondition s cls = (s, .outOfRange) := if_pos h

/-- The condition class is stored, before any effective profile follows (R60). -/
def State.withCondition (s : State) (k : ConditionClass) : State :=
  { s with profiles := { s.profiles with condition := k } }

theorem applySetCondition_accepted (s : State) (k : ConditionClass) :
    applySetCondition s k.val = (recomputeAll (s.withCondition k), .accepted) := by
  rw [applySetCondition, if_neg (by omega), conditionNo_val]
  rfl

/-- Under the class in force an effective profile that is as R62 has it stands. -/
theorem State.profilesEffective.underCeiling {s : State} (h : s.profilesEffective) (i : Station) :
    (s.station i).underCeiling s.ceilingNow = s.station i := by
  cases hc : (s.station i).config with
  | none => exact StationState.underCeiling_none hc _
  | some c =>
    have effective := h i
    rw [hc, Option.map_some] at effective
    rw [StationState.underCeiling_some hc, ← effective]

section Command

variable {s : State} {tag : Byte} {rest : List (List Byte)}

/-- A class outside 0..3 is refused, and nothing else changes (R60). -/
theorem exec_setCondition_outOfRange {cls : Nat} (hcls : cls < 256) (h : HandlerTakes s (0x09 :: tag :: be8 cls) rest)
    (out : 3 < cls) : exec .setCondition s = .next (s.answeredWith rest (berthReply 0x09 tag 3)) := by
  rw [exec_setCondition, serveBerth_decoded h (decodeSetCondition_be8 hcls) (applySetCondition_outOfRange out _),
    State.taking_answering]
  rfl

/-- A class in range is stored, the effective profiles follow, and the request is answered ACCEPTED (R60). -/
theorem exec_setCondition_accepted (k : ConditionClass) (h : HandlerTakes s (0x09 :: tag :: be8 k.val) rest) :
    exec .setCondition s = .next ((recomputeAll ((s.taking rest).withCondition k)).answering (berthReply 0x09 tag 0)) := by
  rw [exec_setCondition, serveBerth_decoded h (decodeSetCondition_be8 (by omega)) (applySetCondition_accepted _ k)]
  rfl

end Command

/-- Settles O14: a class in range comes to `recomputeAll` on the state that stores it, whose own lemmas say what it does to
the stations, the reports and the rest. -/
theorem setConditionByTheRules : Obligations.SetConditionByTheRules := by
  unfold Obligations.SetConditionByTheRules
  intro s tag cls rest hcls h
  refine ⟨exec_setCondition_outOfRange hcls h, fun k hk => ?_⟩
  subst hk
  refine ⟨_, exec_setCondition_accepted k h, ?_⟩
  have others := (recomputeAll_recomputed ((s.taking rest).withCondition k)).rest
  have profiles := congrArg State.profiles others
  have station := recomputeAll_station ((s.taking rest).withCondition k)
  have reports := recomputeAll_reports ((s.taking rest).withCondition k)
  generalize recomputeAll ((s.taking rest).withCondition k) = t at others profiles station reports ⊢
  rw [← profiles] at others
  refine ⟨profiles, station, reports.congr fun i => ?_, fun inForce asR62 i => ?_,
    congrArg (State.answering · (berthReply 0x09 tag 0)) others⟩
  · change _ ↔ (t.station i).lcc.effective ≠ _ ∧ _
    rw [station]
    rfl
  · have stands := asR62.underCeiling i
    subst inForce
    exact congrArg (fun a => a.lcc.effective) ((station i).trans stands)

end Sys2Proof.Machine

/-!
PROOF. What a grant and a normal stop leave of the arbiter, of the counters and of the other stations (R87, R98, R101,
R106): rules for the operations from which the Drive Slot Arbiter is built.
-/
namespace Sys2Proof.Machine

/-! ### An occurrence -/

@[simp] theorem State.occurrence_station (s : State) (kind : CounterKind) (i j : Station) :
    (s.occurrence kind i).station j = s.station j :=
  (CountsOnly.occurrence s kind i).station j

@[simp] theorem State.occurrence_dsa (s : State) (kind : CounterKind) (i : Station) : (s.occurrence kind i).dsa = s.dsa :=
  (CountsOnly.occurrence s kind i).dsa

@[simp] theorem State.occurrence_zoneHold (s : State) (kind : CounterKind) (i : Station) :
    (s.occurrence kind i).zoneHold = s.zoneHold :=
  congrArg Filter.level (CountsOnly.occurrence s kind i).berth.zoneFilter

@[simp] theorem State.occurrence_settings (s : State) (kind : CounterKind) (i : Station) :
    (s.occurrence kind i).settings = s.settings :=
  congrArg BerthSettings.config (CountsOnly.occurrence s kind i).berth.berth

theorem State.bump_modDsa (s : State) (f : Dsa → Dsa) (n : CounterNo) :
    (s.modDsa f).bump n = (s.bump n).modDsa f := by
  by_cases wraps : (s.counters.get n).value = BitVec.allOnes 32
  · simp only [State.bump, State.modDsa_counters, wraps, decide_true, if_true]
    rfl
  · simp only [State.bump, State.modDsa_counters, wraps, decide_false, Bool.false_eq_true, if_false]
    rfl

/-- Counting an occurrence reads and writes the counters and the link only, so the arbiter's own update may come before it
or after it. -/
theorem State.occurrence_modDsa (s : State) (f : Dsa → Dsa) (kind : CounterKind) (i : Station) :
    (s.modDsa f).occurrence kind i = (s.occurrence kind i).modDsa f := by
  unfold State.occurrence
  refine List.foldl_hom (State.modDsa · f) fun t n => ?_
  by_cases takes : (t.counters.get n).takes kind i = true <;> simp [State.offer, takes, State.bump_modDsa]

theorem State.bump_counters (s : State) (n : CounterNo) :
    (s.bump n).counters = (s.modCounter n fun c => { c with value := c.value + 1 }).counters := by
  dsimp only [State.bump]
  split_ifs <;> rfl

theorem State.offer_counter (s : State) (n m : CounterNo) (kind : CounterKind) (i : Station) :
    (s.offer n kind i).counters.get m =
      if m = n ∧ (s.counters.get m).takes kind i = true then
        { s.counters.get m with value := (s.counters.get m).value + 1 }
      else s.counters.get m := by
  unfold State.offer
  by_cases hm : m = n
  · subst hm
    by_cases ht : (s.counters.get m).takes kind i = true
    · rw [if_pos ht, State.bump_counters, State.modCounter_counter_same, if_pos ⟨rfl, ht⟩]
    · rw [if_neg ht, if_neg fun h => ht h.2]
  · rw [if_neg (c := m = n ∧ _) fun h => hm h.1]
    split_ifs
    · rw [State.bump_counters, State.modCounter_counter, if_neg hm]
    · rfl

/-- An occurrence adds 1 at exactly the counters that take it (R196). -/
theorem State.occurrence_counter (s : State) (kind : CounterKind) (i : Station) (m : CounterNo) :
    (s.occurrence kind i).counters.get m =
      if (s.counters.get m).takes kind i = true then
        { s.counters.get m with value := (s.counters.get m).value + 1 }
      else s.counters.get m := by
  fin_cases m <;> simp [State.occurrence, allCounters, State.offer_counter]

/-- One SLOT_GRANT counted on the counters as they stand is what R98 asks of a grant. -/
theorem GrantCounted.of_occurrence {s t : State} (h : t.counters = s.counters) (i : Station) :
    GrantCounted i s (t.occurrence .slotGrant i) := by
  intro n
  refine ⟨fun _ => ?_, fun kind => ?_⟩
  · rw [State.occurrence_counter, State.occurrence_counter, h]
  · rw [State.occurrence_counter, h, if_neg]
    simp [Counter.takes, kind]

/-! ### A normal stop works at its own station -/

theorem State.setStation_self (s : State) (i : Station) : s.setStation i (s.station i) = s := by
  have same : s.stations.set i.val (s.station i) i.isLt = s.stations := Vector.set_getElem_self i.isLt
  simp only [State.setStation, same]

theorem State.setStation_setStation (s : State) (i : Station) (a b : StationState) :
    (s.setStation i a).setStation i b = s.setStation i b := by
  simp [State.setStation]

/-- A normal stop asked of a DHU changes its station and nothing else (R106, Table 5-4). -/
theorem normalStop_eq (s : State) (i : Station) : normalStop s i = s.setStation i ((normalStop s i).station i) := by
  by_cases hr : (s.station i).dhu.stopRequest = .none
  · cases hp : (s.station i).dhu.phase
    case brakeWait =>
      cases hb : (s.station i).filters.brakeOpen.level <;>
        simp [normalStop, hr, hp, hb, enterSetting, endSetting, becomeIdle, State.modDhu, State.modMu,
          State.setStation_setStation]
    all_goals
      simp [normalStop, hr, hp, becomeIdle, enterStopping, State.modDhu, State.modMu, State.setStation_setStation,
        State.setStation_self]
  · simp [normalStop, hr, State.setStation_self]

theorem normalStop_station_ne (s : State) {i j : Station} (h : j ≠ i) : (normalStop s i).station j = s.station j := by
  rw [normalStop_eq]
  exact State.station_setStation_ne s _ h

@[simp] theorem normalStop_dsa (s : State) (i : Station) : (normalStop s i).dsa = s.dsa := by
  rw [normalStop_eq, State.setStation_dsa]

@[simp] theorem normalStop_counters (s : State) (i : Station) : (normalStop s i).counters = s.counters := by
  rw [normalStop_eq, State.setStation_counters]

/-- A normal stop that does not complete at once leaves the drum under way (Table 5-4). -/
theorem StationState.stopAsked_phase {a : StationState} (c : BerthConfig) (hp : a.dhu.phase ≠ .idle) :
    (a.stopAsked c).dhu.phase ≠ .idle := by
  unfold StationState.stopAsked
  split <;> simp [hp]

/-! ### A grant works at its own station and its holder record -/

/-- The holder record of station `i` reaches RUNNING: its slice starts if it never has (R89). -/
def Dsa.startsSlice (d : Dsa) (i : Station) (sliceTime : Nat) : Dsa :=
  { d with holders := d.holders.map fun h => if h.station = i then h.startSlice sliceTime else h }

theorem enterRunning_dsa (s : State) (i : Station) :
    (enterRunning s i).dsa = s.dsa.startsSlice i s.settings.sliceTime := rfl

theorem enterBrakeWait_dsa (s : State) (i : Station) :
    (enterBrakeWait s i).dsa =
      if (s.station i).filters.brakeOpen.level = true then s.dsa.startsSlice i s.settings.sliceTime else s.dsa := by
  dsimp only [enterBrakeWait]
  split_ifs <;> rfl

theorem enterDriveWait_dsa (s : State) (i : Station) :
    (enterDriveWait s i).dsa =
      if (s.station i).filters.driveReady.level = true ∧ (s.station i).filters.brakeOpen.level = true then
        s.dsa.startsSlice i s.settings.sliceTime
      else s.dsa := by
  by_cases ready : (s.station i).filters.driveReady.level = true
  · simp [enterDriveWait, ready, enterBrakeWait_dsa, State.settings]
  · simp [enterDriveWait, ready]

/-- A grant that reaches RUNNING at once starts the holder's slice; nothing else of the arbiter changes (R89, R101). -/
theorem beginGrant_dsa (s : State) (i : Station) (need : Need) :
    (beginGrant s i need).dsa =
      if s.runsAtGrant i then s.dsa.startsSlice i s.settings.sliceTime else s.dsa := by
  by_cases held : s.zoneHold = true
  · simp [beginGrant, held]
  · simp [beginGrant, held, enterDriveWait_dsa, State.settings, State.runsAtGrant]

@[simp] theorem beginGrant_counters (s : State) (i : Station) (need : Need) :
    (beginGrant s i need).counters = s.counters := by
  dsimp only [beginGrant, enterDriveWait, enterBrakeWait, enterRunning, State.modHolder]
  split_ifs <;> simp

theorem beginGrant_station_ne (s : State) {i j : Station} (need : Need) (h : j ≠ i) :
    (beginGrant s i need).station j = s.station j := by
  dsimp only [beginGrant, enterDriveWait, enterBrakeWait, enterRunning, State.modHolder]
  split_ifs <;> simp [State.station_modDhu_ne _ _ h, State.station_modMu_ne _ _ h]

/-! ### Who holds a slot -/

/-- An update of one station's records that leaves them that station's changes nothing of who holds a slot. -/
theorem any_holder_update (l : List Holder) (i j : Station) {f : Holder → Holder}
    (h : ∀ k, (f k).station = k.station) :
    ((l.map fun k => if k.station = j then f k else k).any fun k => decide (k.station = i)) =
      l.any fun k => decide (k.station = i) := by
  have same : (fun k : Holder => decide ((if k.station = j then f k else k).station = i)) =
      fun k => decide (k.station = i) := by
    funext k
    split_ifs <;> simp [h]
  rw [List.any_map, Function.comp_def, same]

theorem Holder.startSlice_station (c : Nat) (h : Holder) : (h.startSlice c).station = h.station := by
  unfold Holder.startSlice
  split_ifs <;> rfl

theorem holds_stopAs (s : State) (i j : Station) (kind : StopKind) :
    (s.modHolder j (Holder.stopAs kind)).dsa.holds i = s.dsa.holds i :=
  any_holder_update _ i j fun _ => rfl

theorem holds_beginGrant (s : State) (i j : Station) (need : Need) :
    (beginGrant s j need).dsa.holds i = s.dsa.holds i := by
  rw [beginGrant_dsa]
  split_ifs
  · exact any_holder_update _ i j (Holder.startSlice_station _)
  · rfl

theorem foldl_betterYielder_mem {k : Holder} (l : List Holder) :
    ∀ {best : Option Holder}, l.foldl betterYielder best = some k → best = some k ∨ k ∈ l := by
  induction l with
  | nil => exact .inl
  | cons x l ih =>
    intro best h
    rcases ih h with better | later
    · have picked : best = some k ∨ x = k := by
        unfold betterYielder at better
        split at better
        · exact .inr (Option.some.inj better)
        · split_ifs at better
          · exact .inr (Option.some.inj better)
          · exact .inl better
      exact picked.imp id fun e => by simp [e]
    · exact .inr (List.mem_cons_of_mem x later)

/-- The yielder that the preemption test names holds a slot (R91). -/
theorem preemptChoice_holds {d : Dsa} {yielder forStation : Station}
    (h : preemptChoice d = some (yielder, forStation)) : d.holds yielder = true := by
  unfold preemptChoice at h
  split at h
  · contradiction
  · split_ifs at h
    obtain ⟨k, chosen, named⟩ := Option.map_eq_some_iff.mp h
    have candidate : k ∈ d.holders.filter Holder.isCandidate :=
      (foldl_betterYielder_mem _ chosen).resolve_left (by simp)
    simp only [Dsa.holds, List.any_eq_true, decide_eq_true_eq]
    exact ⟨k, List.mem_of_mem_filter candidate, congrArg Prod.fst named⟩

/-! ### The grant to the entry at the head of the list -/

section GrantHead

variable {s : State} {e : WaitEntry} {rest : List WaitEntry} {need : Need}

/-- The arbiter between the entry's leaving of the list and the start of its handover (R87). -/
def Dsa.grantTo (d : Dsa) (e : WaitEntry) (rest : List WaitEntry) : Dsa :=
  { d with
    waiting := rest
    grantSeq := d.grantSeq + 1
    holders := d.holders ++
      [{ station := e.station, cls := e.cls, grant := d.grantSeq + 1, slice := .absent, stopKind := .none }]
    yields := lapseFor e.station d.yields }

/-- A grant in three parts: the arbiter's bookkeeping, the start of the handover and the count (R87, R98, R101). -/
theorem grantHead_eq (hw : s.dsa.waiting = e :: rest) (hn : (s.station e.station).lcc.need = some need) :
    grantHead s =
      (beginGrant (s.modDsa (Dsa.grantTo · e rest)) e.station need).occurrence .slotGrant e.station := by
  simp only [grantHead, hw, hn]
  rfl

theorem grantHead_station_ne (hw : s.dsa.waiting = e :: rest) (hn : (s.station e.station).lcc.need = some need)
    {j : Station} (hj : j ≠ e.station) : (grantHead s).station j = s.station j := by
  rw [grantHead_eq hw hn, State.occurrence_station, beginGrant_station_ne _ _ hj, State.modDsa_station]

theorem grantHead_dhu (hw : s.dsa.waiting = e :: rest) (hn : (s.station e.station).lcc.need = some need) :
    ((grantHead s).station e.station).dhu = s.granted e.station (s.station e.station).dhu need := by
  rw [grantHead_eq hw hn, State.occurrence_station, beginGrant_dhu]
  rfl

/-- The holder records of other stations stand as one of them is started. -/
theorem map_startSlice_of_ne {i : Station} {c : Nat} {l : List Holder} (h : ∀ k ∈ l, k.station ≠ i) :
    l.map (fun k => if k.station = i then k.startSlice c else k) = l :=
  (List.map_congr_left fun k hk => if_neg (h k hk)).trans (List.map_id'' (fun _ => rfl) l)

/-- The arbiter after the grant (R87, R89, R92). -/
theorem grantHead_dsa (hw : s.dsa.waiting = e :: rest) (hn : (s.station e.station).lcc.need = some need)
    (once : s.runsAtGrant e.station → ∀ h ∈ s.dsa.holders, h.station ≠ e.station) :
    (grantHead s).dsa = { s.dsa with
      waiting := rest
      grantSeq := s.dsa.grantSeq + 1
      holders := s.dsa.holders ++ [s.newHolder e]
      yields := lapseFor e.station s.dsa.yields } := by
  rw [grantHead_eq hw hn, State.occurrence_dsa, beginGrant_dsa]
  by_cases runs : s.runsAtGrant e.station
  · rw [if_pos (show (s.modDsa (Dsa.grantTo · e rest)).runsAtGrant e.station from runs)]
    simp only [State.modDsa_dsa, Dsa.startsSlice, Dsa.grantTo, List.map_append, map_startSlice_of_ne (once runs)]
    simp only [List.map_cons, List.map_nil, State.newHolder, if_pos runs, if_true, Holder.startSlice, and_self]
    rfl
  · rw [if_neg (show ¬(s.modDsa (Dsa.grantTo · e rest)).runsAtGrant e.station from runs)]
    simp only [State.modDsa_dsa, Dsa.grantTo, State.newHolder, if_neg runs]

theorem grantHead_counted (hw : s.dsa.waiting = e :: rest) (hn : (s.station e.station).lcc.need = some need) :
    GrantCounted e.station s (grantHead s) := by
  have same : (beginGrant (s.modDsa (Dsa.grantTo · e rest)) e.station need).counters = s.counters := by
    rw [beginGrant_counters, State.modDsa_counters]
  rw [grantHead_eq hw hn]
  exact GrantCounted.of_occurrence same e.station

end GrantHead

/-! ### The grant rule and the preemption test where they have nothing left to do -/

/-- With every slot taken, or nobody waiting, the grant rule is at its end (R87). -/
theorem grantRule_done {s : State} (h : s.dsa.waiting = [] ∨ s.dsa.slots ≤ s.dsa.holders.length) (n : Nat) :
    grantRule n s = s := by
  cases n with
  | zero => rfl
  | succ n =>
    refine if_neg ?_
    rintro ⟨free, waits⟩
    exact h.elim waits (by omega)

/-- With no class-0 entry waiting the preemption test asks nobody to yield (R91). -/
theorem preempt_done {s : State} (h : ∀ k ∈ s.dsa.waiting, 1 ≤ k.cls) (n : Nat) : preempt n s = s := by
  have noChoice : preemptChoice s.dsa = none := by
    unfold preemptChoice
    split
    · rfl
    · next e rest hw =>
      have urgent : 1 ≤ e.cls := h e (by simp [hw])
      exact if_neg fun k => by omega
  cases n <;> simp [preempt, noChoice]

theorem arbitrate_noneWaiting {s : State} (h : s.dsa.waiting = []) : arbitrate s = s := by
  have granted : grantAll s = s := grantRule_done (.inl h) _
  rw [arbitrate, granted]
  exact preempt_done (by simp [h]) _

/-- With one slot to give, or one entry to give it to, and no class-0 entry left to wait, the arbiter's work is the grant
to the head of the list (R87, R91). -/
theorem arbitrate_grantsHead {s : State} {e : WaitEntry} {rest : List WaitEntry} {need : Need}
    (hw : s.dsa.waiting = e :: rest) (hn : (s.station e.station).lcc.need = some need)
    (once : s.runsAtGrant e.station → ∀ h ∈ s.dsa.holders, h.station ≠ e.station)
    (free : s.dsa.holders.length < s.dsa.slots) (last : rest = [] ∨ s.dsa.holders.length + 1 = s.dsa.slots)
    (classes : ∀ k ∈ rest, 1 ≤ k.cls) : arbitrate s = grantHead s := by
  have after := grantHead_dsa hw hn once
  have full : (grantHead s).dsa.waiting = [] ∨ (grantHead s).dsa.slots ≤ (grantHead s).dsa.holders.length := by
    rw [after]
    exact last.imp id fun h => by simp [h]
  have granted : grantAll s = grantHead s :=
    calc grantRule s.dsa.waiting.length s = grantRule (rest.length + 1) s := by rw [hw, List.length_cons]
      _ = grantRule rest.length (grantHead s) := if_pos ⟨free, by simp [hw]⟩
      _ = grantHead s := grantRule_done full _
  rw [arbitrate, granted]
  exact preempt_done (by rw [after]; exact classes) _

end Sys2Proof.Machine

/-!
PROOF. A slot that has come free (R88): what the arbiter makes of it when the station presents no need, and when it
rejoins; and a yield, which frees its slot at once or leaves its drum under way.
-/
namespace Sys2Proof.Machine

/-! ### A station without a need and without a slot stays out of the arbiter's work -/

/-- Station `i` is `a`, presents no need and holds no slot. -/
structure OutOfPlay (i : Station) (a : StationState) (s : State) : Prop where
  station : s.station i = a
  noNeed : a.lcc.need = none
  noSlot : s.dsa.holds i = false

section OutOfPlay

variable {i : Station} {a : StationState} {s : State}

theorem OutOfPlay.grantHead (h : OutOfPlay i a s) : OutOfPlay i a (grantHead s) := by
  cases hw : s.dsa.waiting with
  | nil => simpa only [Machine.grantHead, hw] using h
  | cons e rest =>
    cases hn : (s.station e.station).lcc.need with
    | none =>
      simp only [Machine.grantHead, hw, hn]
      exact ⟨h.station, h.noNeed, h.noSlot⟩
    | some need =>
      have other : i ≠ e.station := by
        rintro rfl
        simp [h.station, h.noNeed] at hn
      refine ⟨(grantHead_station_ne hw hn other).trans h.station, h.noNeed, ?_⟩
      have noSlot := h.noSlot
      rw [grantHead_eq hw hn, State.occurrence_dsa, holds_beginGrant]
      simp_all [Dsa.holds, Dsa.grantTo, other.symm]

theorem OutOfPlay.grantRule (n : Nat) : ∀ {s : State}, OutOfPlay i a s → OutOfPlay i a (grantRule n s) := by
  induction n with
  | zero => exact id
  | succ n ih =>
    intro s h
    unfold Machine.grantRule
    split_ifs
    · exact ih h.grantHead
    · exact h

/-- The yield of another station (R91, R93). -/
theorem OutOfPlay.beginYield (h : OutOfPlay i a s) {j : Station} (other : i ≠ j) : OutOfPlay i a (beginYield s j) where
  station := by
    dsimp only [Machine.beginYield]
    rw [normalStop_station_ne _ other, State.occurrence_station]
    exact h.station
  noNeed := h.noNeed
  noSlot := by
    dsimp only [Machine.beginYield]
    rw [normalStop_dsa, State.occurrence_dsa, holds_stopAs]
    exact h.noSlot

theorem OutOfPlay.freeSlot (h : OutOfPlay i a s) (j : Station) : OutOfPlay i a (freeSlot s j) := by
  refine ⟨h.station, h.noNeed, ?_⟩
  have noSlot := h.noSlot
  simp_all [Dsa.holds, Machine.freeSlot]

theorem OutOfPlay.rejoin (h : OutOfPlay i a s) (j : Station) : OutOfPlay i a (rejoin s j) := by
  unfold Machine.rejoin
  split
  · exact ⟨h.station, h.noNeed, h.noSlot⟩
  · exact h

theorem OutOfPlay.preempt (n : Nat) : ∀ {s : State}, OutOfPlay i a s → OutOfPlay i a (preempt n s) := by
  induction n with
  | zero => exact id
  | succ n ih =>
    intro s h
    dsimp only [Machine.preempt]
    split
    · exact h
    · next yielder forStation chosen =>
      have other : i ≠ yielder := by
        rintro rfl
        exact Bool.false_ne_true (h.noSlot.symm.trans (preemptChoice_holds chosen))
      have paired : OutOfPlay i a (s.modDsa fun d =>
          { d with yields := d.yields ++ [{ yielder := yielder, forStation := forStation, lapsed := false }] }) :=
        ⟨h.station, h.noNeed, h.noSlot⟩
      have yielded := paired.beginYield other
      split_ifs
      · exact ih (((yielded.freeSlot yielder).rejoin yielder).grantRule _)
      · exact yielded

/-- All the work of the arbiter passes it by (R87, R91). -/
theorem OutOfPlay.arbitrate (h : OutOfPlay i a s) : OutOfPlay i a (arbitrate s) := (h.grantRule _).preempt 13

end OutOfPlay

/-! ### The slot is vacated -/

@[simp] theorem freeSlot_station (s : State) (i j : Station) : (freeSlot s i).station j = s.station j := rfl

@[simp] theorem freeSlot_counters (s : State) (i : Station) : (freeSlot s i).counters = s.counters := rfl

/-- The state with these entries in the waiting list. -/
def State.withWaiting (s : State) (l : List WaitEntry) : State := s.modDsa fun d => { d with waiting := l }

@[simp] theorem State.withWaiting_dsa (s : State) (l : List WaitEntry) :
    (s.withWaiting l).dsa = { s.dsa with waiting := l } := rfl

/-- In `v` the stop of station `i` has completed and its slot is free, all else being as in `s` (step 1 of R88, R109). -/
structure Vacated (i : Station) (s v : State) : Prop where
  dsa : v.dsa = { s.dsa with
    holders := s.dsa.holders.filter fun h => decide (h.station ≠ i)
    yields := s.dsa.yields.filter fun y => decide (y.yielder ≠ i) }
  atRest : (v.station i).dhu = (s.station i).dhu.atRest
  others : ∀ j : Station, j ≠ i → v.station j = s.station j
  drives : DriveOnly s v
  counters : v.counters = s.counters

section Vacated

variable {i : Station} {s v : State}

theorem Vacated.need (h : Vacated i s v) (j : Station) : (v.station j).lcc.need = (s.station j).lcc.need :=
  congrArg Lcc.need (h.drives.stations j).lcc

theorem Vacated.zoneHold (h : Vacated i s v) : v.zoneHold = s.zoneHold :=
  congrArg Filter.level h.drives.berth.zoneFilter

theorem Vacated.settings (h : Vacated i s v) : v.settings = s.settings :=
  congrArg BerthSettings.config h.drives.berth.berth

theorem Vacated.runsAtGrant (h : Vacated i s v) (j : Station) : v.runsAtGrant j ↔ s.runsAtGrant j := by
  simp only [State.runsAtGrant, h.zoneHold, (h.drives.stations j).filters]

theorem Vacated.granted (h : Vacated i s v) (j : Station) (d : Dhu) (need : Need) :
    v.granted j d need = s.granted j d need := by
  simp only [State.granted, h.zoneHold, h.settings, (h.drives.stations j).filters]

theorem Vacated.newHolder (h : Vacated i s v) (e : WaitEntry) : v.newHolder e = s.newHolder e := by
  simp only [State.newHolder, h.runsAtGrant, h.settings, h.dsa]

theorem Vacated.waiting_self (h : Vacated i s v) : v = v.withWaiting s.dsa.waiting := by
  have same : s.dsa.waiting = v.dsa.waiting := by rw [h.dsa]
  rw [same]
  rfl

/-- With these entries waiting for the vacated slot, what the grant to the first of them leaves (R87, R88, R92, R98). -/
theorem Vacated.serves (h : Vacated i s v) {u : State} {e : WaitEntry} {left : List WaitEntry} {need : Need}
    (hu : u = v.withWaiting (e :: left)) (hn : (s.station e.station).lcc.need = some need)
    (once : s.runsAtGrant e.station → ∀ k ∈ s.dsa.holders, k.station ≠ i → k.station ≠ e.station)
    (free : (s.dsa.holders.filter fun k => decide (k.station ≠ i)).length < s.dsa.slots)
    (last : left = [] ∨ (s.dsa.holders.filter fun k => decide (k.station ≠ i)).length + 1 = s.dsa.slots)
    (classes : ∀ k ∈ left, 1 ≤ k.cls) :
    (arbitrate u).dsa = s.dsaServing i e left ∧
      ((arbitrate u).station e.station).dhu = s.granted e.station (v.station e.station).dhu need ∧
      (∀ j : Station, j ≠ e.station → (arbitrate u).station j = v.station j) ∧
      GrantCounted e.station s (arbitrate u) := by
  subst hu
  have need' : ((v.withWaiting (e :: left)).station e.station).lcc.need = some need := (h.need e.station).trans hn
  have once' : (v.withWaiting (e :: left)).runsAtGrant e.station →
      ∀ k ∈ (v.withWaiting (e :: left)).dsa.holders, k.station ≠ e.station := by
    intro runs k hk
    rw [State.withWaiting_dsa, h.dsa, List.mem_filter, decide_eq_true_eq] at hk
    exact once ((h.runsAtGrant _).mp runs) k hk.1 hk.2
  rw [arbitrate_grantsHead rfl need' once' (by simpa only [State.withWaiting_dsa, h.dsa] using free)
    (by simpa only [State.withWaiting_dsa, h.dsa] using last) classes]
  refine ⟨?_, ?_, fun j hj => grantHead_station_ne rfl need' hj, fun n => ?_⟩
  · rw [grantHead_dsa rfl need' once']
    have record : (v.withWaiting (e :: left)).newHolder e = s.newHolder e := h.newHolder e
    simp only [record, State.withWaiting_dsa, h.dsa]
    rfl
  · rw [grantHead_dhu rfl need']
    exact h.granted e.station _ need
  · have counted := grantHead_counted rfl need' n
    have same : (v.withWaiting (e :: left)).counters = s.counters := h.counters
    rw [State.occurrence_counter, same] at counted
    rwa [State.occurrence_counter]

/-- An entry joins a list in the order of its classes behind those of its class and below (R84). -/
theorem insertEntry_eq_filter {e : WaitEntry} {l : List WaitEntry} (ordered : l.Pairwise fun a b => a.cls ≤ b.cls) :
    insertEntry e l =
      l.filter (fun k => decide (k.cls ≤ e.cls)) ++ e :: l.filter (fun k => decide (e.cls < k.cls)) := by
  induction l with
  | nil => rfl
  | cons x l ih =>
    obtain ⟨first, later⟩ := List.pairwise_cons.mp ordered
    by_cases hx : e.cls < x.cls
    · have above : ∀ k ∈ l, e.cls < k.cls := fun k hk => lt_of_lt_of_le hx (first k hk)
      have ahead : l.filter (fun k => decide (k.cls ≤ e.cls)) = [] :=
        List.filter_eq_nil_iff.mpr fun k hk => by simpa using above k hk
      have behind : l.filter (fun k => decide (e.cls < k.cls)) = l :=
        List.filter_eq_self.mpr fun k hk => by simpa using above k hk
      simp [insertEntry, hx, ahead, behind]
    · simp [insertEntry, hx, ih later, Nat.le_of_not_lt hx]

/-- A station without a need leaves its slot to the entry at the head of the list (R87, R88). -/
theorem Vacated.slotFreed (h : Vacated i s v) : SlotFreed i s (arbitrate v) := by
  refine ⟨fun nobody => ?_, ?_⟩
  · rw [arbitrate_noneWaiting (by rw [h.dsa]; exact nobody), h.dsa]
  · rintro e more need others rfl hw he hn classes slots held
    have still : ¬s.runsAtGrant e.station := by
      rintro ⟨zone, ready, -⟩
      simp [zone, ready] at held
    obtain ⟨dsa, dhu, -, -⟩ := h.serves (u := v) (e := e) (left := more)
      (by rw [← hw]; exact h.waiting_self) hn (fun runs => absurd runs still)
      (by omega) (.inr slots) fun k hk => classes k (by simp [hw, hk])
    rw [dsa, dhu]
    refine ⟨rfl, rfl, ?_, ?_⟩
    · simp only [State.dsaServing, State.newHolder, if_neg still]
    · cases hz : s.zoneHold <;> simp_all [State.granted, Dhu.handsOver, DrivePhase.reached]

theorem Vacated.rejoin_noNeed (h : Vacated i s v) (hn : (s.station i).lcc.need = none) : rejoin v i = v := by
  simp only [rejoin, (h.need i).trans hn]

/-- A station without a need stays at rest as its slot is given away (R88, R109). -/
theorem Vacated.staysAtRest (h : Vacated i s v) (hn : (s.station i).lcc.need = none) :
    ((arbitrate v).station i).dhu = (s.station i).dhu.atRest := by
  have idle : OutOfPlay i (v.station i) v := ⟨rfl, (h.need i).trans hn, by simp [Dsa.holds, h.dsa]⟩
  rw [idle.arbitrate.station, h.atRest]

/-- A station with a need rejoins behind its class, and the slot goes to the entry at the head of the list (R88). -/
theorem Vacated.slotRejoined (h : Vacated i s v) {need : Need} (hn : (s.station i).lcc.need = some need) :
    SlotRejoined (s.station i).dhu need i s (arbitrate (rejoin v i)) := by
  have joined : rejoin v i =
      v.withWaiting (insertEntry { station := i, cls := need.cls } s.dsa.waiting) := by
    simp [rejoin, (h.need i).trans hn, joinList, h.dsa, State.withWaiting, State.modDsa]
  unfold SlotRejoined
  split
  · next hw =>
    intro free
    rw [hw] at joined
    obtain ⟨dsa, dhu, -, counted⟩ := h.serves joined hn (fun _ k _ => id) free (.inl rfl) (by simp)
    exact ⟨dsa, dhu.trans (by rw [h.atRest]), counted⟩
  · next e more hw =>
    split
    · trivial
    · next other hother =>
      intro he once ordered ahead urgent classes slots
      rw [hw] at ordered
      have behind : insertEntry { station := i, cls := need.cls } s.dsa.waiting =
          e :: (more.filter (fun k => decide (k.cls ≤ need.cls)) ++
            { station := i, cls := need.cls } :: more.filter (fun k => decide (need.cls < k.cls))) := by
        rw [hw, insertEntry_eq_filter ordered]
        simp [ahead]
      rw [behind] at joined
      obtain ⟨dsa, dhu, stands, counted⟩ := h.serves joined hother (fun runs k hk _ => once runs k hk) (by omega)
        (.inr slots) (by
          intro k hk
          simp only [List.mem_append, List.mem_cons, List.mem_filter] at hk
          rcases hk with ⟨hk, -⟩ | rfl | ⟨hk, -⟩
          · exact classes k hk
          · exact urgent
          · exact classes k hk)
      exact ⟨dsa, dhu.trans (by rw [h.others _ he]), by rw [stands i he.symm, h.atRest], counted⟩

end Vacated

/-! ### A yield -/

/-- The yield of station `i` is counted and its record under stop kind yielding, before its stop (R91, R98). -/
def State.yieldBegun (s : State) (i : Station) : State :=
  (s.occurrence .slotYield i).modHolder i (Holder.stopAs .yielding)

@[simp] theorem State.yieldBegun_station (s : State) (i j : Station) : (s.yieldBegun i).station j = s.station j :=
  State.occurrence_station s .slotYield i j

@[simp] theorem State.yieldBegun_settings (s : State) (i : Station) : (s.yieldBegun i).settings = s.settings :=
  State.occurrence_settings s .slotYield i

@[simp] theorem State.yieldBegun_holds (s : State) (i j : Station) : (s.yieldBegun i).dsa.holds j = s.dsa.holds j := by
  rw [State.yieldBegun, holds_stopAs, State.occurrence_dsa]

/-- Beside the arbiter only the counters and the Report Queue have changed. -/
theorem State.yieldBegun_eq (s : State) (i : Station) :
    s.yieldBegun i = { s with
      dsa := s.dsa.stopping i .yielding
      counters := (s.occurrence .slotYield i).counters
      link := (s.occurrence .slotYield i).link } := by
  have counted := (CountsOnly.occurrence s .slotYield i).eq
  unfold State.yieldBegun
  generalize s.occurrence .slotYield i = t at counted ⊢
  rw [counted]
  rfl

/-- A yield is counted, and then its holder is asked for a normal stop (R91, R93, R98). -/
theorem beginYield_eq (s : State) (i : Station) : beginYield s i = normalStop (s.yieldBegun i) i :=
  congrArg (normalStop · i) (State.occurrence_modDsa s _ .slotYield i)

section Yield

variable {s : State} {i : Station} (hr : (s.station i).dhu.stopRequest = .none)

include hr

/-- A yield whose stop does not complete at once leaves the station stopping and its slot held (R93, Table 5-4). -/
theorem settleYield_underWay (hp : (s.station i).dhu.phase ≠ .idle) (ho : ¬(s.station i).stopsAtOnce) :
    settleStop (beginYield s i) i = (s.yieldBegun i).setStation i ((s.station i).stopAsked s.settings) := by
  have asked : (normalStop (s.yieldBegun i) i).station i = (s.station i).stopAsked s.settings := by
    rw [normalStop_station] <;> simp only [State.yieldBegun_station, State.yieldBegun_settings]
    exacts [hr, hp, ho]
  have stopped : beginYield s i = (s.yieldBegun i).setStation i ((s.station i).stopAsked s.settings) := by
    rw [beginYield_eq, normalStop_eq, asked]
  have runs : stopEnded (beginYield s i) i = false := by
    simp [stopEnded, stopped, StationState.stopAsked_phase s.settings hp]
  rw [← stopped, settleStop, runs, if_neg Bool.false_ne_true]

/-- A yield whose stop completes at once vacates the slot (R88, R106). -/
theorem vacated_beginYield (ho : (s.station i).stopsAtOnce) :
    Vacated i (s.occurrence .slotYield i) (freeSlot (beginYield s i) i) where
  dsa := by
    rw [beginYield_eq, freeSlot, State.modDsa_dsa, normalStop_dsa, State.yieldBegun_eq, State.occurrence_dsa]
    have records : (s.dsa.stopping i .yielding).holders.filter (fun k => !decide (k.station = i)) =
        s.dsa.holders.filter fun k => decide (k.station ≠ i) := by
      dsimp only [Dsa.stopping]
      induction s.dsa.holders with
      | nil => rfl
      | cons k l ih => by_cases hk : k.station = i <;> simp_all
    simp only [records]
    simp [Dsa.stopping]
  atRest := by
    rw [beginYield_eq, freeSlot_station, normalStop_atRest] <;>
      simp only [State.yieldBegun_station, State.occurrence_station]
    exacts [hr, ho]
  others j hj := by
    rw [beginYield_eq, freeSlot_station, normalStop_station_ne _ hj, State.yieldBegun_station, State.occurrence_station]
  drives := by
    rw [beginYield_eq]
    exact ((DriveOnly.modHolder _ i _).trans (DriveOnly.normalStop _ i)).trans (DriveOnly.freeSlot _ i)
  counters := by
    rw [beginYield_eq, freeSlot_counters, normalStop_counters, State.yieldBegun_eq]

/-- The completion of such a stop is handled whole (R88). -/
theorem settleYield_atOnce (held : s.dsa.holds i = true) (ho : (s.station i).stopsAtOnce) :
    settleStop (beginYield s i) i = arbitrate (rejoin (freeSlot (beginYield s i) i) i) := by
  have rest : ((beginYield s i).station i).dhu = (s.station i).dhu.atRest := by
    have vacated := (vacated_beginYield hr ho).atRest
    rwa [freeSlot_station, State.occurrence_station] at vacated
  have ended : stopEnded (beginYield s i) i = true := by
    rw [stopEnded, rest, beginYield_eq, normalStop_dsa, State.yieldBegun_holds, held]
    rfl
  rw [settleStop, if_pos ended]

end Yield

end Sys2Proof.Machine

/-!
PROOF. The end of a slice (O42): the restart, and the yield by its stop that takes time or completes at once.
-/
namespace Sys2Proof.Machine

/-- A freed slot is read from the arbiter and the stations, which an occurrence leaves alone. -/
theorem SlotFreed.of_occurrence {i j : Station} {kind : CounterKind} {s t : State}
    (h : SlotFreed i (s.occurrence kind j) t) : SlotFreed i s t := by
  simpa only [SlotFreed, State.occurrence_dsa, State.occurrence_station, State.occurrence_zoneHold] using h

section Expiry

variable {s : State} {i : Station} {h : Holder}
  (hf : s.dsa.holders.find? (fun k => decide (k.station = i)) = some h)

include hf

theorem holder_station : h.station = i := by
  have found := List.find?_some hf
  exact of_decide_eq_true found

theorem holder_holds : s.dsa.holds i = true :=
  List.any_eq_true.mpr ⟨h, List.mem_of_find?_eq_some hf, decide_eq_true (holder_station hf)⟩

/-- A slice timer that has run out expires the slice (R90, log 2). -/
theorem exec_sliceExpiry_due (due : h.slice = SliceTimer.running 0) :
    exec (.sliceExpiry i) s = .next (expireSlice s h) := by
  change execSliceExpiry i s = _
  simp only [execSliceExpiry, Dsa.holderOf, hf, due, if_true]

theorem expireSlice_restarts (nobody : ∀ e ∈ s.dsa.waiting, h.cls < e.cls) :
    expireSlice s h = s.modHolder i fun k => { k with slice := .running s.settings.sliceTime } := by
  rw [expireSlice, if_neg (by simpa using nobody), holder_station hf]

theorem expireSlice_yields (waits : ∃ e ∈ s.dsa.waiting, e.cls ≤ h.cls) :
    expireSlice s h = settleStop (beginYield s i) i := by
  rw [expireSlice, if_pos (by simpa using waits), holder_station hf]

end Expiry

/-- Settles O42: the expiry is a restart or a yield, and a yield is one whose stop is under way (`settleYield_underWay`)
or one that vacates the slot (`vacated_beginYield`). -/
theorem sliceExpiryActs : Obligations.SliceExpiryActs := by
  unfold Obligations.SliceExpiryActs
  intro s i h hf due
  have run := exec_sliceExpiry_due hf due
  refine ⟨fun nobody => ?_, fun waits hr hp => ⟨expireSlice s h, run, ?_⟩⟩
  · rw [run, expireSlice_restarts hf nobody]
    rfl
  have yields := expireSlice_yields hf waits
  refine ⟨fun ho => ?_, fun ho => ?_⟩
  · rw [yields, settleYield_underWay hr hp ho]
    refine ⟨?_, fun j hj => ?_, State.station_setStation_same _ _ _⟩
    · rw [State.yieldBegun_eq]
      rfl
    · rw [State.station_setStation_ne _ _ hj, State.yieldBegun_station]
  · have vacated := vacated_beginYield hr ho
    refine ⟨DriveOnly.expireSlice s h, fun noNeed => ?_, fun need hn => ?_⟩
    · rw [← State.occurrence_station s .slotYield i] at noNeed ⊢
      rw [yields, settleYield_atOnce hr (holder_holds hf) ho, vacated.rejoin_noNeed noNeed]
      exact ⟨vacated.slotFreed.of_occurrence, vacated.staysAtRest noNeed⟩
    · rw [← State.occurrence_station s .slotYield i] at hn ⊢
      rw [yields, settleYield_atOnce hr (holder_holds hf) ho]
      exact vacated.slotRejoined hn

end Sys2Proof.Machine

/-!
PROOF. BERTH_ALARM (O12): the output meets the kinds shown with the routing set, and the statement reads the two sets bit by
bit. Bits 0 to 13 are the fault kinds, bits 14 to 17 the alarm conditions and bit 18 is LINK_HOLD (Table 9-4).
-/
namespace Sys2Proof.Machine

/-- Two sets meet in a member that both hold. -/
theorem and_ne_zero_iff_getLsbD {w : Nat} (a b : BitVec w) :
    a &&& b ≠ 0 ↔ ∃ n, a.getLsbD n = true ∧ b.getLsbD n = true := by
  change ¬ a &&& b = 0#w ↔ _
  simp [BitVec.zero_iff_eq_false]

/-! ### The kinds of a record -/

/-- Each of the low fourteen bits of the routing set is a kind's (Table 9-4). -/
theorem FaultKind.exists_code_eq {n : Nat} (h : n < 14) : ∃ kind : FaultKind, kind.code = n := by
  interval_cases n
  exacts [⟨.driveNotReady, rfl⟩, ⟨.brakeStuck, rfl⟩, ⟨.stall, rfl⟩, ⟨.overrun, rfl⟩, ⟨.brakeNotSet, rfl⟩,
    ⟨.latchNotClosed, rfl⟩, ⟨.latchNotOpen, rfl⟩, ⟨.latchSensor, rfl⟩, ⟨.sensorLost, rfl⟩, ⟨.headLost, rfl⟩,
    ⟨.drumLimit, rfl⟩, ⟨.takeupLimit, rfl⟩, ⟨.stowNotFound, rfl⟩, ⟨.lineSnag, rfl⟩]

theorem FaultKind.code_lt (kind : FaultKind) : kind.code < 14 := by
  cases kind <;> decide

/-- No two kinds share a bit. -/
theorem FaultKind.getLsbD_bit_code (a b : FaultKind) : a.bit.getLsbD b.code = decide (a = b) := by
  cases a <;> cases b <;> rfl

/-- The kinds of a record are its first one and its further ones (R149). -/
theorem FaultRecord.getLsbD_kinds (r : FaultRecord) (kind : FaultKind) :
    r.kinds.getLsbD kind.code = true ↔ r.first = kind ∨ r.further.getLsbD kind.code = true := by
  rw [FaultRecord.kinds, BitVec.getLsbD_or, FaultKind.getLsbD_bit_code, Bool.or_eq_true, decide_eq_true_eq, or_comm]

/-! ### The alarm condition set -/

/-- The alarm conditions in the order of their bits (R145). -/
theorem StationState.getLsbD_alarmSet (t : StationState) (m : Nat) :
    t.alarmSet.getLsbD m =
      [t.overloadHeldAlarm, t.saturatedAlarm, t.sampleLostAlarm, t.unreferencedAlarm].getD m false := by
  rw [StationState.alarmSet, BitVec.getLsbD_append, BitVec.getLsbD_append, BitVec.getLsbD_append]
  rcases m with _ | _ | _ | _ | m <;> simp

/-! ### The kinds a station shows -/

section Shown

variable {t : StationState}

theorem StationState.shown_offline (off : t.lcc.lineState = .offline) : t.shown = 0 :=
  if_pos off

variable (inService : t.lcc.lineState ≠ .offline)

include inService

theorem StationState.getLsbD_shown_fault (kind : FaultKind) :
    t.shown.getLsbD kind.code = true ↔ ∃ r, t.lcc.fault = some r ∧ r.kinds.getLsbD kind.code = true := by
  have low := kind.code_lt
  have routable : kind.code < 19 := by omega
  rw [StationState.shown, if_neg inService]
  cases t.lcc.fault <;> simp [low, routable]

theorem StationState.getLsbD_shown_alarm {m : Nat} (h : m < 4) :
    t.shown.getLsbD (14 + m) = t.alarmSet.getLsbD m := by
  have routable : 14 + m < 19 := by omega
  rw [StationState.shown, if_neg inService]
  cases t.lcc.fault <;> simp [routable]

/-- No station shows LINK_HOLD, which is the berth's. -/
theorem StationState.lt_of_getLsbD_shown {n : Nat} (h : t.shown.getLsbD n = true) : n < 18 := by
  by_contra high
  have pastKinds : 14 ≤ n := by omega
  have pastAlarms : 4 ≤ n - 14 := by omega
  rw [StationState.shown, if_neg inService] at h
  cases record : t.lcc.fault <;> simp [record, pastKinds, BitVec.getLsbD_of_ge _ _ pastAlarms] at h

/-- What a station in service shows of a routing set is a kind of its record or one of its alarm conditions. -/
theorem StationState.shown_and_ne_zero (routing : RoutingSet) :
    t.shown &&& routing ≠ 0 ↔
      (∃ r kind, t.lcc.fault = some r ∧ routing.getLsbD (FaultKind.code kind) = true ∧
        r.kinds.getLsbD kind.code = true) ∨
      ∃ m < 4, t.alarmSet.getLsbD m = true ∧ routing.getLsbD (14 + m) = true := by
  rw [and_ne_zero_iff_getLsbD]
  constructor
  · rintro ⟨n, shows, routed⟩
    rcases Nat.lt_or_ge n 14 with low | high
    · obtain ⟨kind, rfl⟩ := FaultKind.exists_code_eq low
      obtain ⟨r, record, held⟩ := (getLsbD_shown_fault inService kind).mp shows
      exact .inl ⟨r, kind, record, routed, held⟩
    · obtain ⟨m, rfl⟩ := Nat.exists_eq_add_of_le high
      have below := lt_of_getLsbD_shown inService shows
      have inSet : m < 4 := by omega
      exact .inr ⟨m, inSet, getLsbD_shown_alarm inService inSet ▸ shows, routed⟩
  · rintro (⟨r, kind, record, routed, held⟩ | ⟨m, inSet, present, routed⟩)
    · exact ⟨kind.code, (getLsbD_shown_fault inService kind).mpr ⟨r, record, held⟩, routed⟩
    · exact ⟨14 + m, (getLsbD_shown_alarm inService inSet).trans present, routed⟩

/-- A routed alarm condition is one of the four of R145, each at its bit of the routing set. -/
theorem StationState.alarm_routed_iff (routing : RoutingSet) :
    (∃ m < 4, t.alarmSet.getLsbD m = true ∧ routing.getLsbD (14 + m) = true) ↔
      (routing.getLsbD 14 = true ∧ t.lcc.overloadHeld = true) ∨
      (routing.getLsbD 15 = true ∧ t.mu.saturated = true) ∨
      (routing.getLsbD 16 = true ∧ t.mu.lost = true ∧ t.lostIsFault = false) ∨
      (routing.getLsbD 17 = true ∧ t.mu.referenced = false) := by
  simp only [Nat.exists_lt_succ_right, Nat.not_lt_zero, false_and, exists_false, false_or, or_assoc,
    StationState.getLsbD_alarmSet]
  simp [StationState.overloadHeldAlarm, StationState.saturatedAlarm, StationState.sampleLostAlarm,
    StationState.unreferencedAlarm, inService, and_comm]

end Shown

/-! ### The output -/

/-- LINK_HOLD is bit 18 of the routing set (Table 9-4). -/
theorem linkHoldBit_and_ne_zero (routing : RoutingSet) :
    linkHoldBit &&& routing ≠ 0 ↔ routing.getLsbD 18 = true := by
  have single : linkHoldBit = BitVec.twoPow 19 18 := rfl
  rw [and_ne_zero_iff_getLsbD, single]
  simp [BitVec.getLsbD_twoPow]

/-- The output's test, station by station. -/
theorem State.berthAlarm_iff (s : State) :
    s.berthAlarm = true ↔
      (∃ i : Station, (s.station i).shown &&& s.routing ≠ 0) ∨
      (s.watch.hold = true ∧ linkHoldBit &&& s.routing ≠ 0) := by
  simp only [State.berthAlarm, Bool.or_eq_true, Bool.and_eq_true, List.any_eq_true, decide_eq_true_eq,
    mem_allStations, true_and]

/-- Settles O12: the output's test splits into the stations' and LINK_HOLD's (`State.berthAlarm_iff`); a station out of
service shows nothing, and what one in service shows of the routing set is a kind of its record or an alarm condition
(`StationState.shown_and_ne_zero`, `StationState.alarm_routed_iff`). -/
theorem berthAlarmFollowsTheTest : Obligations.BerthAlarmFollowsTheTest := by
  unfold Obligations.BerthAlarmFollowsTheTest
  intro s
  rw [State.berthAlarm_iff, linkHoldBit_and_ne_zero, and_comm (a := s.watch.hold = true)]
  refine or_congr (exists_congr fun i => ?_) Iff.rfl
  rcases eq_or_ne (s.station i).lcc.lineState .offline with off | inService
  · simp [off, StationState.shown_offline off]
  · simp only [StationState.shown_and_ne_zero inService, and_iff_right inService,
      StationState.alarm_routed_iff inService, FaultRecord.getLsbD_kinds]

end Sys2Proof.Machine

/-!
PROOF. COMMISSION_LOCK (O15): the request carries no field, so it is always accepted; what it makes of the two states of
the lock, and what the profile snapshots hold (R163, Table 8-5).
-/
namespace Sys2Proof.Machine

/-! ### The snapshots -/

/-- The profile snapshots hold each profile's limits under that profile's number (Table 8-5). -/
theorem ProfileTable.snap_limits_get (t : ProfileTable) (n : ProfileNo) :
    t.snap.limits.get n = (t.profiles.get n).limits := by
  fin_cases n <;> rfl

/-! ### The command -/

/-- The lock is set and each snapshot of Table 8-5 takes the value its field holds (R163). -/
def State.commissioned (s : State) : State :=
  { s with
    berth := { s.berth with locked := true, thresholdSnapshot := some s.settings.releaseThreshold }
    profiles := { s.profiles with snapshot := some s.profiles.snap } }

theorem applyCommissionLock_locked {s : State} (locked : s.berth.locked = true) :
    applyCommissionLock s () = (s, .accepted) := if_pos locked

theorem applyCommissionLock_clear {s : State} (clear : s.berth.locked = false) :
    applyCommissionLock s () = (s.commissioned, .accepted) :=
  if_neg (ne_true_of_eq_false clear)

section Command

variable {s : State} {tag : Byte} {rest : List (List Byte)}

/-- A COMMISSION_LOCK without a body is applied to the state that took its frame, and its result is the reply (R163,
R174). -/
theorem exec_commissionLock_served {t : State} {result : Result} (h : HandlerTakes s [0x0A, tag] rest)
    (applied : applyCommissionLock (s.taking rest) () = (t, result)) :
    exec .commissionLock s = .next (t.answering (berthReply 0x0A tag (BitVec.ofNat 8 result.code))) :=
  congrArg Host.Outcome.next (serveBerth_decoded h rfl applied)

/-- With the lock set, the request is answered ACCEPTED and nothing else changes (R163). -/
theorem exec_commissionLock_locked (h : HandlerTakes s [0x0A, tag] rest) (locked : s.berth.locked = true) :
    exec .commissionLock s = .next (s.answeredWith rest (berthReply 0x0A tag 0)) :=
  exec_commissionLock_served h (applyCommissionLock_locked locked)

/-- With the lock clear, the request is answered ACCEPTED, the lock set and the snapshots taken (R163). -/
theorem exec_commissionLock_clear (h : HandlerTakes s [0x0A, tag] rest) (clear : s.berth.locked = false) :
    exec .commissionLock s = .next (s.commissioned.answeredWith rest (berthReply 0x0A tag 0)) :=
  exec_commissionLock_served h (applyCommissionLock_clear clear)

end Command

/-- Settles O15: the two states of the lock are the two branches of the request, and the snapshots a clear lock takes hold
every profile's limits (`ProfileTable.snap_limits_get`) and the ceiling table. -/
theorem commissionLockTakesSnapshots : Obligations.CommissionLockTakesSnapshots := by
  unfold Obligations.CommissionLockTakesSnapshots
  intro s tag rest h
  refine ⟨exec_commissionLock_locked h, fun clear =>
    ⟨_, s.profiles.snap, exec_commissionLock_clear h clear, rfl, fun n => ?_, rfl⟩⟩
  rw [ProfileTable.snap_limits_get]
  exact ⟨rfl, rfl⟩

end Sys2Proof.Machine

/-!
PROOF. RESTART (O4): the request carries no field, so it is always applied, and its result is its reply (R192).
-/
namespace Sys2Proof.Machine

/-- The state after the effects of RESTART other than its reply, the frame taken (R192). -/
def State.restarted (s : State) : State :=
  { s with
    link := { s.link with inbound := [], reports := [.restarted] }
    watch := { remaining := s.settings.watchTime * 1000, firstExpirySeen := false, hold := false }
    berth := { s.berth with resetCause := .restartRequest } }

theorem applyRestart_accepted (s : State) : applyRestart s () = (s.restarted, .accepted) := rfl

/-- A RESTART without a body is applied and answered ACCEPTED (R174, R192). -/
theorem exec_restart_served {s : State} {tag : Byte} {rest : List (List Byte)} (h : HandlerTakes s [0x14, tag] rest) :
    exec .restart s = .next ((s.taking rest).restarted.answering (berthReply 0x14 tag 0)) :=
  congrArg Host.Outcome.next
    (serveBerth_decoded (decode := decodeEmpty) h rfl (applyRestart_accepted (s.taking rest)))

/-- Settles O4: the request is applied in the state that took its frame (`exec_restart_served`), and the frames that stood
behind it in the inbound queue go with the rest of the queue. -/
theorem restartEffects : Obligations.RestartEffects := by
  unfold Obligations.RestartEffects
  intro s tag rest h
  rw [exec_restart_served h]
  rfl

end Sys2Proof.Machine

/-!
PROOF. A good frame (O5): the Receiver finds exactly its payload in the bytes of a framed payload (R168, R169), and what the
Link Watch and the inbound queue make of it (R170, R187, R190).
-/
namespace Sys2Proof.Machine

/-! ### The Receiver -/

/-- The bytes of a good frame already taken are passed over (R169). -/
theorem scanBytes_skip (taken rest : List Byte) : scanBytes taken.length (taken ++ rest) = scanBytes 0 rest := by
  induction taken with
  | nil => rfl
  | cons b taken ih => exact ih

/-- The bytes of a frame behind its start byte: the length byte, the payload and its check (R168, Table 9-3a). -/
def frameTail (payload : List Byte) : List Byte :=
  BitVec.ofNat 8 payload.length :: (payload ++ be16 (crc (BitVec.ofNat 8 payload.length :: payload)).toNat)

theorem frameOf_eq_cons (payload : List Byte) : frameOf payload = Config.startByte :: frameTail payload := rfl

theorem length_frameTail (payload : List Byte) : (frameTail payload).length = payload.length + 3 := by
  simp [frameTail, be16]

section Payload

variable {payload : List Byte} (short : 2 ≤ payload.length) (long : payload.length ≤ 250)

include short long

/-- A payload of 2 to 250 bytes passes the length check and the CRC check of its own frame (R168, R169). -/
theorem checkFrame_frameTail (rest : List Byte) : checkFrame (frameTail payload ++ rest) = .good payload := by
  have counted : (BitVec.ofNat 8 payload.length).toNat = payload.length := by
    rw [BitVec.toNat_ofNat]
    exact Nat.mod_eq_of_lt (by omega)
  have inRange : ¬(payload.length < 2 ∨ 250 < payload.length) := by omega
  rw [frameTail, List.cons_append, checkFrame, counted, if_neg inRange]
  simp [be16]

/-- The Receiver finds a framed payload and goes on behind its frame (R169). -/
theorem scanBytes_frameOf (rest : List Byte) :
    scanBytes 0 (frameOf payload ++ rest) =
      { scanBytes 0 rest with frames := payload :: (scanBytes 0 rest).frames } := by
  have behind : scanBytes (payload.length + 3) (frameTail payload ++ rest) = scanBytes 0 rest := by
    rw [← length_frameTail]
    exact scanBytes_skip _ rest
  rw [frameOf_eq_cons, List.cons_append, scanBytes]
  simp only [ne_eq, not_true_eq_false, if_false, checkFrame_frameTail short long, behind]

/-- A frame that finds no byte held is accepted, and no byte is held behind it (R170). -/
theorem receiveBytes_frameOf {s : State} (hunting : s.link.rxHeld = []) :
    receiveBytes s (frameOf payload) = acceptFrame s payload := by
  have found : scanBytes 0 (s.link.rxHeld ++ frameOf payload) = { frames := [payload], held := [] } := by
    rw [hunting, List.nil_append, ← List.append_nil (frameOf payload), scanBytes_frameOf short long]
    rfl
  have nothingHeld : (s.modLink fun l => { l with rxHeld := [] }) = s := by
    rw [← hunting]
    rfl
  simp [receiveBytes, found, nothingHeld]

end Payload

/-! ### A good frame accepted -/

/-- The inbound queue after a good frame (R170). -/
theorem enqueue_eq (l : Link) (payload : List Byte) :
    enqueue l payload =
      { l with inbound := if l.inbound.length < 4 then l.inbound ++ [payload] else l.inbound } := by
  unfold enqueue
  split <;> rfl

/-- The Link Watch and the Report Queue after a good frame (R187, R190). -/
theorem watchFrame_eq (s : State) :
    watchFrame s = { s with
      watch := { remaining := s.settings.watchTime * 1000, firstExpirySeen := false, hold := false }
      link := { s.link with
        reports := if s.watch.hold then pendReport (.link .restored) s.link.reports else s.link.reports } } := by
  cases held : s.watch.hold <;> simp only [watchFrame, held] <;> rfl

theorem exec_frameReceived (bytes : List Byte) (s : State) :
    exec (.frameReceived bytes) s = .next (receiveBytes s bytes) := rfl

/-- Settles O5: the Receiver finds exactly the payload (`receiveBytes_frameOf`), and the Link Watch and the inbound queue
each take it (`watchFrame_eq`, `enqueue_eq`). -/
theorem goodFrameAccepted : Obligations.GoodFrameAccepted := by
  unfold Obligations.GoodFrameAccepted
  intro s payload hunting short long
  rw [exec_frameReceived, receiveBytes_frameOf short long hunting, acceptFrame, watchFrame_eq, State.modLink, enqueue_eq]

end Sys2Proof.Machine

/-!
PROOF. An expiry of the Link Watch (O11): the mode chooses between LINK SILENT and link hold, and link hold works through the
stations, each of which goes from PAYING_OUT to LINE_OUT or stands, while only drives, slots, counts and reports change
beside it (R15, R188, R189).
-/
namespace Sys2Proof.Machine

/-! ### One station -/

/-- The station as link hold leaves it, up to its drive: out of PAYING_OUT (R15). -/
def StationState.payoutHeld (a : StationState) : StationState :=
  if a.lcc.lineState = .payingOut then a.moved .lineOut .linkHold else a

/-- The context link hold leaves behind, in the words of the statement. -/
theorem StationState.moved_lineOut_lcc (a : StationState) (reason : Reason) :
    (a.moved .lineOut reason).lcc = (a.lcc.between .lineOut reason).slack := rfl

/-- A change of line state reads nothing of the drive. -/
theorem StationState.SameButDrive.moved {a b : StationState} (h : a.SameButDrive b) (new : LineState) (reason : Reason) :
    (a.moved new reason).SameButDrive (b.moved new reason) where
  lcc := by simp only [StationState.moved, h.lcc, latch_of_same h]
  config := h.config
  lpu := h.lpu
  filters := h.filters
  handed := h.handed
  mu := by simp only [StationState.moved]; rw [h.mu]

theorem StationState.SameButDrive.payoutHeld {a b : StationState} (h : a.SameButDrive b) :
    a.payoutHeld.SameButDrive b.payoutHeld := by
  unfold StationState.payoutHeld
  rw [h.lcc]
  split
  · exact h.moved .lineOut .linkHold
  · exact h

theorem holdPayout_becomes (s : State) (i : Station) :
    StationBecomes i s (holdPayout s i) (s.station i).payoutHeld := by
  unfold holdPayout StationState.payoutHeld
  split
  · exact enterLineOut_becomes s i .linkHold
  · exact StationBecomes.refl i s

theorem reports_subset_holdPayout (s : State) (i : Station) : s.link.reports ⊆ (holdPayout s i).link.reports :=
  ((LccWork.enterLineOut s i .linkHold).ite (LccWork.refl i s)).reports

/-- A payout that link hold ends is reported (R2, R15). -/
theorem mem_reports_holdPayout {s : State} {i : Station} (h : (s.station i).lcc.lineState = .payingOut) :
    ReportEntry.station i ∈ (holdPayout s i).link.reports := by
  rw [holdPayout, if_pos h]
  exact mem_reports_changeState s i .lineOut .linkHold

/-! ### Every station -/

/-- In `t` the payouts of the listed stations of `s` are held and reported, and all else is as in `s`, up to drives, slots,
counts and reports (R15, R189). -/
structure PayoutsHeld (l : List Station) (s t : State) : Prop where
  listed : ∀ i ∈ l, (s.station i).payoutHeld.SameButDrive (t.station i)
  beside : ∀ i, i ∉ l → (s.station i).SameButDrive (t.station i)
  berth : BerthKept s t
  link : LinkKept s t
  kept : s.link.reports ⊆ t.link.reports
  reported : ∀ i ∈ l, (s.station i).lcc.lineState = .payingOut → ReportEntry.station i ∈ t.link.reports

theorem PayoutsHeld.refl (s : State) : PayoutsHeld [] s s where
  listed := by simp
  beside _ _ := StationState.SameButDrive.refl _
  berth := BerthKept.refl s
  link := LinkKept.refl s
  kept := List.Subset.refl _
  reported := by simp

/-- One more station ahead of those of the list. -/
theorem PayoutsHeld.cons {i : Station} {l : List Station} {s t : State} (h : PayoutsHeld l (holdPayout s i) t)
    (new : i ∉ l) : PayoutsHeld (i :: l) s t := by
  have first := holdPayout_becomes s i
  have other {j : Station} (hj : j ∈ l) : j ≠ i := ne_of_mem_of_not_mem hj new
  refine ⟨?_, fun j hj => ?_, first.berth.trans h.berth, first.link.trans h.link,
    List.Subset.trans (reports_subset_holdPayout s i) h.kept, ?_⟩
  · rw [List.forall_mem_cons]
    exact ⟨first.station.trans (h.beside i new), fun j hj =>
      (first.others j (other hj)).payoutHeld.trans (h.listed j hj)⟩
  · obtain ⟨apart, unlisted⟩ := not_or.mp (mt List.mem_cons.mpr hj)
    exact (first.others j apart).trans (h.beside j unlisted)
  · rw [List.forall_mem_cons]
    exact ⟨fun paying => h.kept (mem_reports_holdPayout paying), fun j hj paying =>
      h.reported j hj (by rwa [(first.others j (other hj)).lcc])⟩

/-- The stations of a list, worked through one after the other. -/
theorem PayoutsHeld.foldl (l : List Station) :
    ∀ s : State, l.Nodup → PayoutsHeld l s (l.foldl holdPayout s) := by
  induction l with
  | nil => exact fun s _ => PayoutsHeld.refl s
  | cons i l ih =>
    intro s distinct
    obtain ⟨new, distinct⟩ := List.nodup_cons.mp distinct
    exact (ih (holdPayout s i) distinct).cons new

/-- Link hold holds the payout of every station (R189). -/
theorem forStations_holdPayout (s : State) : PayoutsHeld allStations s (s.forStations holdPayout) :=
  PayoutsHeld.foldl allStations s (by decide)

/-! ### Link hold -/

/-- Link hold is in force and LINK HOLD_BEGUN pending, before the payouts are held (R189). -/
def State.holdBegun (s : State) : State :=
  (s.modWatch fun w => { w with hold := true }).makePending (.link .holdBegun)

theorem beginLinkHold_eq (s : State) : beginLinkHold s = s.holdBegun.forStations holdPayout := rfl

theorem beginLinkHold_payoutsHeld (s : State) : PayoutsHeld allStations s.holdBegun (beginLinkHold s) :=
  forStations_holdPayout s.holdBegun

/-- Of the berth's blocks link hold changes the Link Watch's flag (R189). -/
theorem beginLinkHold_berth (s : State) : BerthKept { s with watch := { s.watch with hold := true } } (beginLinkHold s) :=
  (CountsOnly.makePending (s.modWatch fun w => { w with hold := true }) (.link .holdBegun)).berth.trans
    (beginLinkHold_payoutsHeld s).berth

theorem beginLinkHold_link (s : State) : LinkKept s (beginLinkHold s) :=
  (CountsOnly.makePending (s.modWatch fun w => { w with hold := true }) (.link .holdBegun)).link.trans
    (beginLinkHold_payoutsHeld s).link

theorem mem_reports_beginLinkHold (s : State) : ReportEntry.link .holdBegun ∈ (beginLinkHold s).link.reports :=
  (beginLinkHold_payoutsHeld s).kept (pendReport_mem _ _)

/-- Every station as link hold leaves it, up to its drive (R15). -/
theorem beginLinkHold_station (s : State) (i : Station) :
    (s.station i).payoutHeld.SameButDrive ((beginLinkHold s).station i) :=
  (beginLinkHold_payoutsHeld s).listed i (mem_allStations i)

theorem mem_reports_beginLinkHold_station {s : State} {i : Station} (h : (s.station i).lcc.lineState = .payingOut) :
    ReportEntry.station i ∈ (beginLinkHold s).link.reports :=
  (beginLinkHold_payoutsHeld s).reported i (mem_allStations i) h

/-! ### The expiry -/

/-- With 0 ms left and link hold clear, an expiry is due in every mode but OFF (R187, R188). -/
theorem exec_linkWatchExpiry_due {s : State} (ended : s.watch.remaining = 0) (clear : s.watch.hold = false)
    (mode : s.settings.watchMode ≠ .off) : exec .linkWatchExpiry s = .next (watchExpires s) := by
  have due : s.watchDue = true := by simp [State.watchDue, ended, clear, mode]
  change execLinkWatchExpiry s = _
  rw [execLinkWatchExpiry, if_pos due]

/-- Link hold begins in mode HOLD, and in REPORT_THEN_HOLD at a further expiry (R188). -/
theorem watchExpires_holds {s : State} (mode : s.settings.watchMode = .hold ∨
    (s.settings.watchMode = .reportThenHold ∧ s.watch.firstExpirySeen = true)) :
    watchExpires s = beginLinkHold s := by
  rcases mode with hold | ⟨reportThenHold, seen⟩
  · simp only [watchExpires, hold]
  · simp only [watchExpires, reportThenHold, seen, if_true]

/-- Settles O11: the mode chooses the branch of the expiry, and link hold does to each station what `payoutHeld` says and to
the berth, the link and the reports what the `beginLinkHold` lemmas say. -/
theorem linkWatchExpires : Obligations.LinkWatchExpires := by
  unfold Obligations.LinkWatchExpires
  intro s ended clear
  refine ⟨fun report => ?_, fun reportThenHold unseen => ?_, fun holds => ?_⟩
  · rw [exec_linkWatchExpiry_due ended clear (by simp [report])]
    simp only [watchExpires, report]
    rfl
  · rw [exec_linkWatchExpiry_due ended clear (by simp [reportThenHold])]
    simp only [watchExpires, reportThenHold, unseen, Bool.false_eq_true, if_false]
    rfl
  · have modeOn : s.settings.watchMode ≠ .off := by
      rcases holds with hold | ⟨reportThenHold, _⟩
      · simp [hold]
      · simp [reportThenHold]
    rw [exec_linkWatchExpiry_due ended clear modeOn, watchExpires_holds holds]
    refine ⟨_, rfl, beginLinkHold_berth s, beginLinkHold_link s, mem_reports_beginLinkHold s, fun i still => ?_,
      fun i paying => ?_⟩
    · have left := beginLinkHold_station s i
      rwa [StationState.payoutHeld, if_neg still] at left
    · have left := beginLinkHold_station s i
      rw [StationState.payoutHeld, if_pos paying] at left
      exact ⟨left.lcc.trans (StationState.moved_lineOut_lcc _ _), by rw [left.mu]; rfl, left.config, left.lpu,
        left.filters, mem_reports_beginLinkHold_station paying⟩

end Sys2Proof.Machine

/-!
PROOF. SET_COUNTER (O16): what its body decodes to, the frame results of a body that fails R172, the checks of R201, and the
one counter that an accepted request writes.
-/
namespace Sys2Proof.Machine

/-! ### A berth request whose body is refused -/

/-- A free handler finds the head frame (R172). -/
theorem headFrame_of_handlerTakes {s : State} {frame : List Byte} {rest : List (List Byte)}
    (h : HandlerTakes s frame rest) : s.headFrame = some frame := by
  obtain ⟨emptySlot, idle, inbound⟩ := h
  simp only [State.headFrame, emptySlot, idle, inbound]

theorem dropHead_of_handlerTakes {s : State} {frame : List Byte} {rest : List (List Byte)}
    (h : HandlerTakes s frame rest) : dropHead s = s.taking rest := by
  obtain ⟨_, _, inbound⟩ := h
  simp only [dropHead, State.taking, State.modLink, inbound, List.tail_cons]

/-- A berth request whose body fails to decode is answered with that frame result and applied to nothing (R172). -/
theorem serveBerth_undecoded {α : Type} {s : State} {code tag : Byte} {body : List Byte} {rest : List (List Byte)}
    {decode : List Byte → Decoded α} {apply : State → α → Applied} {e : FrameResult}
    (h : HandlerTakes s (code :: tag :: body) rest) (hd : decode body = .error e) :
    serveBerth s code decode apply = s.answeredWith rest [code ||| 0x80, tag, BitVec.ofNat 8 e.code] := by
  simp [serveBerth, takeFrame, headFrame_of_handlerTakes h, dropHead_of_handlerTakes h, frameCode, frameTag, frameBody,
    hd, replyTo, placeReply, replyPayload, be8, ← State.taking_answering, State.answering]

/-! ### The body -/

/-- Two bytes of a number below 2^16 spell it (R194). -/
theorem ofBe_be16 {x : Nat} (h : x < 65536) : ofBe (be16 x) = x := by
  simp [ofBe, be16]
  omega

/-- Four bytes of a number below 2^32 spell it (R194). -/
theorem ofBe_be32 {x : Nat} (h : x < 2 ^ 32) : ofBe (be32 x) = x := by
  simp [ofBe, be32]
  omega

theorem byteAt_of_getElem? {body : List Byte} {k : Nat} {b : Byte} (h : body[k]? = some b) : byteAt body k = b.toNat := by
  simp [byteAt, h]

/-- A flags byte with a bit set other than invert and edge is BAD_FIELD, whatever the length (R172, R201). -/
theorem decodeSetCounter_badField {body : List Byte} {b : Byte} (flags : body[7]? = some b) (other : 4 ≤ b.toNat) :
    decodeSetCounter body = .error .badField := by
  have reached : 8 ≤ body.length := (List.getElem?_eq_some_iff.mp flags).1
  exact if_pos ⟨reached, (byteAt_of_getElem? flags).symm ▸ other⟩

/-- A body of another length than the layout's, its flags byte good or missing, is BAD_LENGTH (R172, R201). -/
theorem decodeSetCounter_badLength {body : List Byte} (flags : ∀ b, body[7]? = some b → b.toNat < 4)
    (length : body.length ≠ 12) : decodeSetCounter body = .error .badLength := by
  have passes : ¬(8 ≤ body.length ∧ 4 ≤ byteAt body 7) := by
    rintro ⟨reached, other⟩
    have found : body[7]? = some body[7] := List.getElem?_eq_getElem reached
    rw [byteAt_of_getElem? found] at other
    exact absurd (flags _ found) (by omega)
  rw [decodeSetCounter, if_neg passes, if_pos length]

/-- The body of a SET_COUNTER with these fields (Table 9-5). -/
def setCounterBody (number enabled kind first last flags : Byte) (threshold preload : Nat) : List Byte :=
  [number, enabled, kind, first, last] ++ be16 threshold ++ [flags] ++ be32 preload

/-- What a SET_COUNTER with these fields carries (Table 9-5). -/
def setCounterFields (number enabled kind first last flags : Byte) (threshold preload : Nat) : CarriedCounter :=
  { number := number.toNat, enabled := enabled.toNat, kind := kind.toNat, first := first.toNat, last := last.toNat,
    threshold := threshold, invert := flags.toNat.testBit 0, edge := flags.toNat.testBit 1, preload := preload }

/-- A body laid out as in Table 9-5, with no flag but invert and edge, decodes to its fields. -/
theorem decodeSetCounter_body {number enabled kind first last flags : Byte} {threshold preload : Nat}
    (hthreshold : threshold < 65536) (hpreload : preload < 2 ^ 32) (hflags : flags.toNat < 4) :
    decodeSetCounter (setCounterBody number enabled kind first last flags threshold preload) =
      .ok (setCounterFields number enabled kind first last flags threshold preload) := by
  have flagsPass : ¬(8 ≤ 12 ∧ 4 ≤ flags.toNat) := by omega
  have decoded : decodeSetCounter (setCounterBody number enabled kind first last flags threshold preload) =
      if 8 ≤ 12 ∧ 4 ≤ flags.toNat then .error .badField
      else .ok (setCounterFields number enabled kind first last flags (ofBe (be16 threshold)) (ofBe (be32 preload))) := rfl
  rw [decoded, if_neg flagsPass, ofBe_be16 hthreshold, ofBe_be32 hpreload]

/-! ### The checks -/

/-- The event kinds in the order of their codes (Table 9-3). -/
def counterKindRow : List CounterKind :=
  [.tensionSample, .adjustStart, .slotGrant, .slotYield, .latchPulse, .faultEntry, .overloadEvent, .waitTime]

/-- The event kind of a code from 0 to 7 (Table 9-3). -/
theorem counterKindOf_named {code : Nat} (h : code ≤ 7) :
    counterKindOf code = some (counterKindRow.getD code .tensionSample) := by
  interval_cases code <;> rfl

/-- No other code names an event kind (Table 9-3). -/
theorem counterKindOf_unnamed {code : Nat} (h : 7 < code) : counterKindOf code = none := by
  obtain ⟨k, rfl⟩ := Nat.exists_eq_add_of_le' h
  rfl

/-- Every check of SET_COUNTER passes (R201). -/
def CarriedCounter.passes (c : CarriedCounter) : Prop :=
  c.number ≤ 3 ∧ c.enabled ≤ 1 ∧ c.kind ≤ 7 ∧ c.first ≤ c.last ∧ c.last ≤ 11 ∧ c.threshold ≤ 10000

/-- The checks are that of the event kind and the others (R201). -/
theorem CarriedCounter.passes_iff (c : CarriedCounter) : c.passes ↔ c.kind ≤ 7 ∧ c.inRange = true := by
  simp only [CarriedCounter.passes, CarriedCounter.inRange, Bool.and_eq_true, decide_eq_true_eq]
  tauto

theorem applySetCounter_outOfRange {c : CarriedCounter} (fails : ¬c.passes) (s : State) :
    applySetCounter s c = (s, .outOfRange) := by
  rw [CarriedCounter.passes_iff] at fails
  by_cases named : c.kind ≤ 7
  · have failsRange : ¬c.inRange = true := fun inRange => fails ⟨named, inRange⟩
    simp only [applySetCounter, counterKindOf_named named, if_neg failsRange]
  · simp only [applySetCounter, counterKindOf_unnamed (Nat.lt_of_not_le named)]

/-- The numbered counter is written with every carried field (R201). -/
def State.withCounter (s : State) (c : CarriedCounter) : State :=
  s.modCounter (counterNo c.number) fun _ => c.counter (counterKindRow.getD c.kind .tensionSample)

theorem applySetCounter_accepted {c : CarriedCounter} (passes : c.passes) (s : State) :
    applySetCounter s c = (s.withCounter c, .accepted) := by
  obtain ⟨named, inRange⟩ := c.passes_iff.mp passes
  simp only [applySetCounter, counterKindOf_named named, if_pos inRange, State.withCounter]

theorem counterNo_val {number : Nat} (h : number ≤ 3) : (counterNo number).val = number :=
  Nat.mod_eq_of_lt (Nat.lt_succ_of_le h)

/-- Only the numbered counter is written (R201). -/
theorem State.withCounter_get {c : CarriedCounter} (number : c.number ≤ 3) (s : State) (n : CounterNo) :
    (s.withCounter c).counters.get n =
      if n.val = c.number then c.counter (counterKindRow.getD c.kind .tensionSample) else s.counters.get n := by
  have numbered : n = counterNo c.number ↔ n.val = c.number := by
    rw [Fin.ext_iff, counterNo_val number]
  simp only [State.withCounter, State.modCounter_counter, numbered]

/-! ### The command -/

section Command

variable {s : State} {tag : Byte} {body : List Byte} {rest : List (List Byte)}

/-- SET_COUNTER is served as a berth request (R174, R201). -/
theorem exec_setCounter (s : State) :
    exec .setCounter s = .next (serveBerth s 0x13 decodeSetCounter applySetCounter) := rfl

/-- A body that fails R172 is answered with its frame result, and nothing else changes. -/
theorem exec_setCounter_undecoded {e : FrameResult} (h : HandlerTakes s (0x13 :: tag :: body) rest)
    (hd : decodeSetCounter body = .error e) :
    exec .setCounter s = .next (s.answeredWith rest [0x93, tag, BitVec.ofNat 8 e.code]) :=
  congrArg Host.Outcome.next (serveBerth_undecoded h hd)

variable {c : CarriedCounter} (h : HandlerTakes s (0x13 :: tag :: body) rest) (hd : decodeSetCounter body = .ok c)

include h hd

/-- A request that fails a check is answered OUT_OF_RANGE, and nothing else changes (R201). -/
theorem exec_setCounter_outOfRange (fails : ¬c.passes) :
    exec .setCounter s = .next (s.answeredWith rest (berthReply 0x13 tag 3)) :=
  congrArg Host.Outcome.next (serveBerth_decoded h hd (applySetCounter_outOfRange fails (s.taking rest)))

/-- A request that passes every check writes its counter and is answered ACCEPTED (R201). -/
theorem exec_setCounter_accepted (passes : c.passes) :
    exec .setCounter s = .next ((s.withCounter c).answeredWith rest (berthReply 0x13 tag 0)) :=
  congrArg Host.Outcome.next (serveBerth_decoded h hd (applySetCounter_accepted passes (s.taking rest)))

end Command

/-- Settles O16: a body is refused by its flags byte or its length, or decodes to its fields (`decodeSetCounter_body`); then
the checks choose between OUT_OF_RANGE and the write, which reaches the numbered counter alone (`State.withCounter_get`). -/
theorem setCounterByTheRules : Obligations.SetCounterByTheRules := by
  unfold Obligations.SetCounterByTheRules
  intro s tag number enabled kind first last flags threshold preload body rest
  refine ⟨fun h => ⟨fun b found other => ?_, fun good length => ?_⟩, fun hthreshold hpreload h =>
    ⟨fun hflags fails => ?_, fun hflags hnumber henabled hkind hrange hlast hlimit => ?_⟩⟩
  · exact exec_setCounter_undecoded h (decodeSetCounter_badField found other)
  · exact exec_setCounter_undecoded h (decodeSetCounter_badLength good length)
  · exact exec_setCounter_outOfRange h (decodeSetCounter_body hthreshold hpreload hflags) fails
  · have decoded := decodeSetCounter_body (number := number) (enabled := enabled) (kind := kind) (first := first)
      (last := last) hthreshold hpreload hflags
    refine ⟨_, exec_setCounter_accepted h decoded ⟨hnumber, henabled, hkind, hrange, hlast, hlimit⟩, rfl, fun n => ?_⟩
    have enabledByte : decide (enabled.toNat = 1) = decide (enabled = 1) :=
      decide_eq_decide.mpr (BitVec.toNat_inj (y := 1))
    rw [← enabledByte]
    exact State.withCounter_get hnumber s n

end Sys2Proof.Machine

/-!
PROOF. What keeps the drives safe and the arbiter in order (R82, R84, R87, R100, R112): a DHU's operations work at their own
station, leave the holders their slots and leave their drive with a safe demand; the arbiter's grants, yields and completed
stops keep every station's slot matched to its drive phase, the holders within K and the waiting list ordered.
-/
namespace Sys2Proof.Machine

/-! ### The work of one DHU -/

/-- What a DHU's operation at station `i` leaves alone: the other stations, the filtered ZONE_HOLD, who holds a slot, how many
do, and who waits. -/
structure DhuAct (i : Station) (s t : State) : Prop where
  others : ∀ j : Station, j ≠ i → t.station j = s.station j
  zone : t.zoneFilter = s.zoneFilter
  holds : ∀ j : Station, t.dsa.holds j = s.dsa.holds j
  slots : t.dsa.slots = s.dsa.slots
  waiting : t.dsa.waiting = s.dsa.waiting
  length : t.dsa.holders.length = s.dsa.holders.length

section DhuAct

variable {i : Station} {s t u : State}

theorem DhuAct.refl (i : Station) (s : State) : DhuAct i s s := ⟨fun _ _ => rfl, rfl, fun _ => rfl, rfl, rfl, rfl⟩

theorem DhuAct.trans (h : DhuAct i s t) (k : DhuAct i t u) : DhuAct i s u where
  others j hj := (k.others j hj).trans (h.others j hj)
  zone := k.zone.trans h.zone
  holds j := (k.holds j).trans (h.holds j)
  slots := k.slots.trans h.slots
  waiting := k.waiting.trans h.waiting
  length := k.length.trans h.length

theorem DhuAct.ite {p : Prop} [Decidable p] (h : DhuAct i s t) (k : DhuAct i s u) :
    DhuAct i s (if p then t else u) := by
  split
  · exact h
  · exact k

theorem DhuAct.zoneHold (h : DhuAct i s t) : t.zoneHold = s.zoneHold := congrArg Filter.level h.zone

end DhuAct

theorem DhuAct.setStation (s : State) (i : Station) (a : StationState) : DhuAct i s (s.setStation i a) where
  others _ hj := State.station_setStation_ne s a hj
  zone := rfl
  holds _ := rfl
  slots := rfl
  waiting := rfl
  length := rfl

theorem DhuAct.modDhu (s : State) (i : Station) (f : Dhu → Dhu) : DhuAct i s (s.modDhu i f) := DhuAct.setStation s i _

theorem DhuAct.modMu (s : State) (i : Station) (f : Mu → Mu) : DhuAct i s (s.modMu i f) := DhuAct.setStation s i _

/-- An update of a station's holder record that leaves it that station's keeps its slot (R82). -/
theorem DhuAct.modHolder (s : State) (i j : Station) {f : Holder → Holder} (h : ∀ k, (f k).station = k.station) :
    DhuAct i s (s.modHolder j f) where
  others _ _ := rfl
  zone := rfl
  holds k := any_holder_update s.dsa.holders k j h
  slots := rfl
  waiting := rfl
  length := List.length_map _

theorem Holder.withdraw_station (h : Holder) : h.withdraw.station = h.station := rfl

theorem DhuAct.enterRunning (s : State) (i : Station) : DhuAct i s (enterRunning s i) :=
  (DhuAct.modDhu s i _).trans (DhuAct.modHolder _ i i (Holder.startSlice_station _))

theorem DhuAct.enterBrakeWait (s : State) (i : Station) : DhuAct i s (enterBrakeWait s i) := by
  have h := (DhuAct.modDhu s i fun d =>
    { d with phase := .brakeWait, timer := .running .brakeLift 0 s.settings.brakeLiftTimeout }).trans
      (DhuAct.modMu _ i fun m => { m with releaseMeasure := some 0 })
  exact (h.trans (DhuAct.enterRunning _ i)).ite h

theorem DhuAct.enterDriveWait (s : State) (i : Station) : DhuAct i s (enterDriveWait s i) := by
  have h := DhuAct.modDhu s i fun d =>
    { d with phase := .driveWait, timer := .running .driveReady 0 s.settings.driveReadyTimeout }
  exact (h.trans (DhuAct.enterBrakeWait _ i)).ite h

theorem DhuAct.beginGrant (s : State) (i : Station) (need : Need) : DhuAct i s (beginGrant s i need) :=
  ((DhuAct.modDhu s i _).trans (DhuAct.modDhu _ i _)).ite ((DhuAct.modDhu s i _).trans (DhuAct.enterDriveWait _ i))

theorem DhuAct.resumeHandover (s : State) (i : Station) : DhuAct i s (resumeHandover s i) :=
  (DhuAct.enterBrakeWait s i).ite (DhuAct.enterDriveWait s i)

theorem DhuAct.becomeIdle (s : State) (i : Station) : DhuAct i s (becomeIdle s i) := by
  dsimp only [Machine.becomeIdle]
  exact (DhuAct.modDhu s i _).trans (DhuAct.modMu _ i _)

theorem DhuAct.endSetting (s : State) (i : Station) : DhuAct i s (endSetting s i) := by
  unfold Machine.endSetting
  split
  · exact (DhuAct.modDhu s i _).ite (DhuAct.resumeHandover s i)
  · exact DhuAct.becomeIdle s i

theorem DhuAct.enterSetting (s : State) (i : Station) : DhuAct i s (enterSetting s i) := by
  have h := (DhuAct.modDhu s i fun d =>
    { d with phase := .setting, demand := 0, stall := none,
             timer := .running .brakeSet 0 s.settings.brakeSetTimeout }).trans
      (DhuAct.modMu _ i fun m => { m with releaseMeasure := none })
  exact h.ite (h.trans (DhuAct.endSetting _ i))

theorem DhuAct.normalStop (s : State) (i : Station) : DhuAct i s (normalStop s i) := by
  rw [normalStop_eq]
  exact DhuAct.setStation s i _

theorem DhuAct.hardStop (s : State) (i : Station) : DhuAct i s (hardStop s i) := by
  have asked := DhuAct.modDhu s i fun d => { d with stopRequest := .fault, pendingMotion := none }
  have set := asked.trans (DhuAct.enterSetting _ i)
  unfold Machine.hardStop
  refine (DhuAct.modDhu s i _).ite ?_
  split
  case h_1 => exact DhuAct.refl i s
  case h_7 => exact (asked.trans (DhuAct.becomeIdle _ i)).ite asked
  all_goals exact set

theorem DhuAct.zoneStop (s : State) (i : Station) : DhuAct i s (zoneStop s i) := by
  unfold Machine.zoneStop
  split <;> first | exact DhuAct.enterSetting s i | exact DhuAct.refl i s

theorem DhuAct.zoneResume (s : State) (i : Station) : DhuAct i s (zoneResume s i) :=
  (DhuAct.resumeHandover s i).ite (DhuAct.refl i s)

theorem DhuAct.dhuWindowEnd (s : State) (i : Station) : DhuAct i s (dhuWindowEnd s i) := by
  unfold Machine.dhuWindowEnd
  refine DhuAct.trans ?_ (DhuAct.modDhu _ i _)
  split
  case h_1 =>
    dsimp only [windowRunning]
    exact DhuAct.modDhu s i _
  case h_2 => exact (DhuAct.enterSetting s i).ite ((DhuAct.modDhu s i _).ite (DhuAct.refl i s))
  all_goals exact DhuAct.refl i s

/-! ### A DHU under ZONE_HOLD -/

/-- A DHU with a safe demand that is not active under zone hold (R100, R101, R112). -/
def Dhu.obeys (d : Dhu) (zone : Bool) : Prop := d.demandSafe ∧ (zone = true → d.phase.isActive = false)

/-- A DHU with no demand in a phase that is not active obeys in any zone. -/
theorem Dhu.obeys_of_still {d : Dhu} (demand : d.demand = 0) (phase : d.phase.isActive = false) (zone : Bool) :
    d.obeys zone := ⟨.inl demand, fun _ => phase⟩

theorem Dhu.obeys_clear {d : Dhu} (demand : d.demandSafe) : d.obeys false := ⟨demand, by simp⟩

/-- What obeys under zone hold obeys where the zone is left out of account. -/
theorem Dhu.obeys.weaken {d : Dhu} {zone : Bool} (h : d.obeys zone) (strict : Bool) : d.obeys (strict && zone) :=
  ⟨h.1, fun both => h.2 (Bool.and_eq_true_iff.mp both).2⟩

/-- The demand is 0 outside RUNNING and STOPPING (R100). -/
theorem Dhu.obeys.demand_eq_zero {d : Dhu} {zone : Bool} (h : d.obeys zone) (r : d.phase ≠ .running)
    (s : d.phase ≠ .stopping) : d.demand = 0 := h.1.resolve_right fun k => k.elim r s

section Obeys

variable {s : State} {i : Station}

/-- A grant leaves its DHU in HELD under zone hold, and otherwise in a handover with no demand (R101). -/
theorem beginGrant_obeys (need : Need) : ((beginGrant s i need).station i).dhu.obeys s.zoneHold := by
  rw [beginGrant_dhu, State.granted]
  split
  · exact Dhu.obeys_of_still rfl rfl _
  · next clear =>
    rw [Bool.not_eq_true] at clear
    rw [clear]
    refine Dhu.obeys_clear (.inl ?_)
    unfold Dhu.handsOver
    split <;> rfl

theorem beginGrant_phase (need : Need) : ((beginGrant s i need).station i).dhu.phase ≠ .idle := by
  rw [beginGrant_dhu, State.granted]
  split
  · simp
  · unfold Dhu.handsOver
    split <;> simp

/-- A handover resumed with no demand and ZONE_HOLD deasserted obeys, and is not at rest (R113). -/
theorem resumeHandover_obeys (clear : s.zoneHold = false) (demand : (s.station i).dhu.demand = 0) :
    ((resumeHandover s i).station i).dhu.obeys s.zoneHold ∧ ((resumeHandover s i).station i).dhu.phase ≠ .idle := by
  rw [clear]
  cases hr : (s.station i).filters.driveReady.level <;> cases hb : (s.station i).filters.brakeOpen.level <;>
    simp [resumeHandover, enterDriveWait, enterBrakeWait, enterRunning, State.modHolder, hr, hb, Dhu.obeys,
      Dhu.demandSafe, demand]

theorem becomeIdle_obeys (zone : Bool) : ((becomeIdle s i).station i).dhu.obeys zone :=
  Dhu.obeys_of_still (by simp [becomeIdle]) (by simp [becomeIdle, DrivePhase.isActive]) zone

/-- The end of SETTING leaves a DHU that obeys (R108). -/
theorem endSetting_obeys (demand : (s.station i).dhu.demand = 0) :
    ((endSetting s i).station i).dhu.obeys s.zoneHold := by
  unfold endSetting
  split
  · split
    · exact Dhu.obeys_of_still (by simpa using demand) (by simp [DrivePhase.isActive]) _
    · next clear => exact (resumeHandover_obeys (by simpa using clear) demand).1
  · exact becomeIdle_obeys _

/-- Entering SETTING cuts the demand (R108). -/
theorem enterSetting_obeys : ((enterSetting s i).station i).dhu.obeys s.zoneHold := by
  dsimp only [enterSetting]
  split
  · exact Dhu.obeys_of_still (by simp) (by simp [DrivePhase.isActive]) _
  · exact endSetting_obeys (by simp)

theorem normalStop_obeys {strict : Bool} (h : (s.station i).dhu.obeys (strict && s.zoneHold)) :
    ((normalStop s i).station i).dhu.obeys (strict && s.zoneHold) := by
  unfold normalStop
  split
  · exact h
  · split
    case h_1 => exact h
    case h_2 => exact becomeIdle_obeys _
    case h_3 => exact (enterSetting_obeys (s := s.modDhu i fun d => { d with stopRequest := .normal })).weaken strict
    case h_4 running =>
      refine ⟨.inr (.inr (by simp [enterStopping])), fun zone => ?_⟩
      have still := h.2 zone
      rw [running] at still
      cases still
    case h_5 => simpa [Dhu.obeys, Dhu.demandSafe] using h
    case h_6 => simpa [Dhu.obeys, Dhu.demandSafe] using h
    case h_7 => exact becomeIdle_obeys _

theorem hardStop_obeys {strict : Bool} (h : (s.station i).dhu.obeys (strict && s.zoneHold)) :
    ((hardStop s i).station i).dhu.obeys (strict && s.zoneHold) := by
  have asked : ∀ t : State, t = s.modDhu i (fun d => { d with stopRequest := .fault, pendingMotion := none }) →
      ((enterSetting t i).station i).dhu.obeys (strict && s.zoneHold) := by
    rintro _ rfl
    exact enterSetting_obeys.weaken strict
  unfold hardStop
  split
  · simpa [Dhu.obeys, Dhu.demandSafe] using h
  · split
    case h_1 => exact h
    case h_7 =>
      split
      · exact becomeIdle_obeys _
      · simpa [Dhu.obeys, Dhu.demandSafe] using h
    all_goals exact asked _ rfl

end Obeys

end Sys2Proof.Machine

/-!
PROOF. The Drive Slot Arbiter keeps every station's slot matched to its drive phase, every drive safe, the holders within K
and the waiting list ordered; and the grant rule leaves no slot idle while an entry waits (R82, R84, R87, R88, R100).
-/
namespace Sys2Proof.Machine

/-! ### Safe drives -/

/-- A station holds a slot exactly while its DHU is not IDLE, and its DHU has a safe demand and, if `strict`, obeys ZONE_HOLD,
as within the step of its rise not every DHU does yet. -/
def State.driveSafeAt (s : State) (strict : Bool) (j : Station) : Prop :=
  (s.dsa.holds j = true ↔ (s.station j).dhu.phase ≠ .idle) ∧ (s.station j).dhu.obeys (strict && s.zoneHold)

/-- Every drive is safe. -/
def State.driveSafe (s : State) (strict : Bool) : Prop := ∀ j : Station, s.driveSafeAt strict j

/-- Every drive is safe, but that station `i` may still hold a slot after its stop has ended, as it does within the step that
then frees the slot (R88). -/
structure State.DriveSafeBut (strict : Bool) (i : Station) (s : State) : Prop where
  others : ∀ j : Station, j ≠ i → s.driveSafeAt strict j
  holds : (s.station i).dhu.phase ≠ .idle → s.dsa.holds i = true
  obeys : (s.station i).dhu.obeys (strict && s.zoneHold)

theorem State.driveSafe_iff (s : State) : s.driveSafe true ↔ s.demandsSafe ∧ s.slotsMatchPhases ∧ s.zoneObeyed :=
  ⟨fun h => ⟨fun j => (h j).2.1, fun j => (h j).1, fun zone j => (h j).2.2 zone⟩,
    fun ⟨demands, slots, zone⟩ j => ⟨slots j, demands j, fun asserted => zone asserted j⟩⟩

section Safe

variable {strict : Bool} {i : Station} {s t : State}

theorem State.driveSafeAt.of_same {j : Station} (h : s.driveSafeAt strict j) (holds : t.dsa.holds j = s.dsa.holds j)
    (station : (t.station j).dhu = (s.station j).dhu) (zone : t.zoneHold = s.zoneHold) : t.driveSafeAt strict j := by
  unfold State.driveSafeAt
  rw [holds, station, zone]
  exact h

theorem DhuAct.safeAt (h : DhuAct i s t) {j : Station} (other : j ≠ i) (safe : s.driveSafeAt strict j) :
    t.driveSafeAt strict j :=
  safe.of_same (h.holds j) (by rw [h.others j other]) h.zoneHold

/-- A DHU's operation keeps every drive safe if its own drive then obeys and is IDLE as before. -/
theorem DhuAct.driveSafe (h : DhuAct i s t) (safe : s.driveSafe strict)
    (phase : (t.station i).dhu.phase = .idle ↔ (s.station i).dhu.phase = .idle)
    (obeys : (t.station i).dhu.obeys (strict && s.zoneHold)) : t.driveSafe strict := by
  intro j
  by_cases own : j = i
  · subst own
    refine ⟨?_, h.zoneHold ▸ obeys⟩
    rw [h.holds j, (safe j).1, not_iff_not]
    exact phase.symm
  · exact h.safeAt own (safe j)

/-- A DHU's operation that may end a stop at a station keeps the other drives safe. -/
theorem DhuAct.driveSafeBut (h : DhuAct i s t) (safe : s.driveSafe strict)
    (phase : (s.station i).dhu.phase = .idle → (t.station i).dhu.phase = .idle)
    (obeys : (t.station i).dhu.obeys (strict && s.zoneHold)) : t.DriveSafeBut strict i where
  others j other := h.safeAt other (safe j)
  holds moving := by
    rw [h.holds i]
    exact (safe i).1.mpr fun idle => moving (phase idle)
  obeys := h.zoneHold ▸ obeys

theorem State.driveSafe.but (h : s.driveSafe strict) (i : Station) : s.DriveSafeBut strict i :=
  ⟨fun j _ => h j, (h i).1.mpr, (h i).2⟩

/-- A step of the counters and reports keeps every drive safe. -/
theorem CountsOnly.driveSafe (h : CountsOnly s t) (safe : s.driveSafe strict) : t.driveSafe strict := fun j =>
  (safe j).of_same (by rw [h.dsa]) (by rw [h.station j]) (congrArg Filter.level h.berth.zoneFilter)

theorem holds_freeSlot (s : State) (i j : Station) :
    (freeSlot s i).dsa.holds j = (s.dsa.holds j && !decide (j = i)) := by
  simp only [freeSlot, State.modDsa_dsa, Dsa.holds, List.any_filter]
  by_cases own : j = i
  · subst own
    simp
  · have other : ∀ h : Holder, (!decide (h.station = i) && decide (h.station = j)) = decide (h.station = j) := by
      intro h
      by_cases e : h.station = j <;> simp [e, own]
    simp [other, own]

/-- Freeing the slot of a station whose stop has ended leaves every drive safe (R88, R109). -/
theorem State.DriveSafeBut.freeSlot (h : s.DriveSafeBut strict i) (idle : (s.station i).dhu.phase = .idle) :
    (freeSlot s i).driveSafe strict := by
  intro j
  by_cases own : j = i
  · subst own
    refine ⟨?_, h.obeys⟩
    rw [holds_freeSlot, freeSlot_station]
    simp [idle]
  · refine (h.others j own).of_same ?_ rfl rfl
    simp [holds_freeSlot, own]

/-- A station whose stop has not ended leaves every drive safe. -/
theorem State.DriveSafeBut.of_not_ended (h : s.DriveSafeBut strict i) (going : stopEnded s i = false) :
    s.driveSafe strict := by
  intro j
  by_cases own : j = i
  · subst own
    refine ⟨⟨fun held idle => ?_, h.holds⟩, h.obeys⟩
    simp [stopEnded, held, idle] at going
  · exact h.others j own

theorem stopEnded_idle (h : stopEnded s i = true) : (s.station i).dhu.phase = .idle := by
  simp only [stopEnded, Bool.and_eq_true, decide_eq_true_eq] at h
  exact h.2

end Safe

/-! ### The arbiter's work keeps every drive safe -/

section Arbiter

variable {strict : Bool} {s : State}

/-- Entries may join and leave the list, and yields begin and lapse: no drive is touched. -/
theorem State.driveSafe.modDsa (h : s.driveSafe strict) {f : Dsa → Dsa} (holders : (f s.dsa).holders = s.dsa.holders) :
    (s.modDsa f).driveSafe strict := fun j =>
  (h j).of_same (by simp [Dsa.holds, holders]) rfl rfl

theorem holds_grantTo (d : Dsa) (e : WaitEntry) (rest : List WaitEntry) (j : Station) :
    (d.grantTo e rest).holds j = (d.holds j || decide (j = e.station)) := by
  simp [Dsa.holds, Dsa.grantTo, eq_comm]

theorem State.driveSafe.grantHead (h : s.driveSafe strict) : (grantHead s).driveSafe strict := by
  cases hw : s.dsa.waiting with
  | nil => simpa [Machine.grantHead, hw] using h
  | cons e rest =>
    cases hn : (s.station e.station).lcc.need with
    | none => simpa [Machine.grantHead, hw, hn] using h.modDsa (f := fun d => { d with waiting := rest }) rfl
    | some need =>
      rw [grantHead_eq hw hn]
      refine (CountsOnly.occurrence _ _ _).driveSafe fun j => ?_
      have act := DhuAct.beginGrant (s.modDsa (Dsa.grantTo · e rest)) e.station need
      by_cases own : j = e.station
      · subst own
        refine ⟨?_, act.zoneHold ▸ (beginGrant_obeys need).weaken strict⟩
        rw [act.holds, State.modDsa_dsa, holds_grantTo]
        simp [beginGrant_phase]
      · refine act.safeAt own ((h j).of_same ?_ rfl rfl)
        rw [State.modDsa_dsa, holds_grantTo]
        simp [own]

theorem State.driveSafe.grantRule (n : Nat) : ∀ {s : State}, s.driveSafe strict → (grantRule n s).driveSafe strict := by
  induction n with
  | zero => exact id
  | succ n ih =>
    intro s h
    unfold Machine.grantRule
    split
    · exact ih h.grantHead
    · exact h

theorem State.driveSafe.rejoin (h : s.driveSafe strict) (i : Station) : (rejoin s i).driveSafe strict := by
  unfold Machine.rejoin
  split
  · exact h.modDsa rfl
  · exact h

theorem normalStop_idle {i : Station} (idle : (s.station i).dhu.phase = .idle) : normalStop s i = s := by
  unfold normalStop
  rw [idle]
  simp

theorem hardStop_idle {i : Station} (idle : (s.station i).dhu.phase = .idle) :
    ((hardStop s i).station i).dhu.phase = .idle := by
  unfold hardStop
  rw [idle]
  split
  · simpa using idle
  · exact idle

/-- A holder that begins to yield may have ended its stop (R93). -/
theorem State.driveSafe.beginYield (h : s.driveSafe strict) (i : Station) : (beginYield s i).DriveSafeBut strict i := by
  have yielding : (s.yieldBegun i).driveSafe strict := fun j =>
    (h j).of_same (s.yieldBegun_holds i j) (by rw [s.yieldBegun_station]) (s.occurrence_zoneHold _ _)
  rw [beginYield_eq]
  exact (DhuAct.normalStop _ i).driveSafeBut yielding (fun idle => by rwa [normalStop_idle idle])
    (normalStop_obeys (yielding i).2)

theorem State.driveSafe.preempt (n : Nat) : ∀ {s : State}, s.driveSafe strict → (preempt n s).driveSafe strict := by
  induction n with
  | zero => exact id
  | succ n ih =>
    intro s h
    dsimp only [Machine.preempt]
    split
    · exact h
    · next yielder forStation _ =>
      have paired : (s.modDsa fun d =>
        { d with yields := d.yields ++ [{ yielder := yielder, forStation := forStation, lapsed := false }] }).driveSafe strict :=
        h.modDsa rfl
      have yields := paired.beginYield yielder
      split
      · next ended => exact ih (((yields.freeSlot (stopEnded_idle ended)).rejoin yielder).grantRule _)
      · next going => exact yields.of_not_ended (by simpa using going)

theorem State.driveSafe.arbitrate (h : s.driveSafe strict) : (arbitrate s).driveSafe strict := (h.grantRule _).preempt 13

/-- A stop that may have ended is settled: every drive is safe then (R88). -/
theorem State.DriveSafeBut.settleStop {i : Station} (h : s.DriveSafeBut strict i) : (settleStop s i).driveSafe strict := by
  unfold Machine.settleStop
  split
  · next ended => exact ((h.freeSlot (stopEnded_idle ended)).rejoin i).arbitrate
  · next going => exact h.of_not_ended (by simpa using going)

/-! ### Motion needs -/

/-- An update of one station that leaves its drive phase and demand keeps every drive safe. -/
theorem State.driveSafe.setStation (h : s.driveSafe strict) {i : Station} {a : StationState}
    (phase : a.dhu.phase = (s.station i).dhu.phase) (demand : a.dhu.demand = (s.station i).dhu.demand) :
    (s.setStation i a).driveSafe strict := by
  refine (DhuAct.setStation s i a).driveSafe h ?_ ?_
  · rw [State.station_setStation_same, phase]
  · rw [State.station_setStation_same]
    unfold Dhu.obeys Dhu.demandSafe
    rw [phase, demand]
    exact (h i).2

theorem State.driveSafe.modHolder (h : s.driveSafe strict) (i : Station) {f : Holder → Holder}
    (own : ∀ k, (f k).station = k.station) : (s.modHolder i f).driveSafe strict := fun j =>
  (h j).of_same ((DhuAct.modHolder s j i own).holds j) rfl rfl

theorem State.driveSafe.presentNeed (h : s.driveSafe strict) (i : Station) (need : Need) :
    (presentNeed s i need).driveSafe strict := by
  have held : (s.modLcc i fun l => { l with need := some need }).driveSafe strict := h.setStation rfl rfl
  dsimp only [Machine.presentNeed]
  split
  · exact State.driveSafe.arbitrate (held.modDsa rfl)
  · exact held.setStation rfl rfl

theorem State.driveSafe.withdrawNeed (h : s.driveSafe strict) (i : Station) : (withdrawNeed s i).driveSafe strict := by
  have none : (s.modLcc i fun l => { l with need := none }).driveSafe strict := h.setStation rfl rfl
  have discarded := none.setStation (i := i)
    (a := { (s.modLcc i fun l => { l with need := Option.none }).station i with
      dhu := { ((s.modLcc i fun l => { l with need := Option.none }).station i).dhu with
        pendingMotion := Option.none } }) rfl rfl
  dsimp only [Machine.withdrawNeed]
  split
  · exact h
  · split
    · exact State.driveSafe.arbitrate (discarded.modDsa rfl)
    · have withdrawing := discarded.modHolder i Holder.withdraw_station
      exact ((DhuAct.normalStop _ i).driveSafeBut withdrawing (fun idle => by rwa [normalStop_idle idle])
        (normalStop_obeys (withdrawing i).2)).settleStop

theorem State.driveSafe.stopForFault (h : s.driveSafe strict) (i : Station) : (stopForFault s i).driveSafe strict := by
  have none : (s.modLcc i fun l => { l with need := none }).driveSafe strict := h.setStation rfl rfl
  have discarded := none.setStation (i := i)
    (a := { (s.modLcc i fun l => { l with need := Option.none }).station i with
      dhu := { ((s.modLcc i fun l => { l with need := Option.none }).station i).dhu with
        pendingMotion := Option.none } }) rfl rfl
  dsimp only [Machine.stopForFault]
  split
  · exact State.driveSafe.arbitrate (discarded.modDsa rfl)
  · have hard := discarded.modHolder i (f := Holder.stopAs .hard) fun _ => rfl
    exact ((DhuAct.hardStop _ i).driveSafeBut hard hardStop_idle (hardStop_obeys (hard i).2)).settleStop

end Arbiter

/-! ### The arbiter keeps its order -/

/-- The holders are within K and the waiting list is ordered by class (R84, R87). -/
def Dsa.inOrder (d : Dsa) : Prop := d.holders.length ≤ d.slots ∧ d.waiting.Pairwise fun a b => a.cls ≤ b.cls

/-- No slot of the arbiter is idle while an entry waits (R87). -/
def Dsa.busy (d : Dsa) : Prop := d.waiting = [] ∨ d.slots ≤ d.holders.length

theorem mem_insertEntry {e k : WaitEntry} : ∀ {l : List WaitEntry}, k ∈ insertEntry e l → k = e ∨ k ∈ l
  | [], h => by simpa [insertEntry] using h
  | x :: rest, h => by
    unfold insertEntry at h
    split at h
    · simpa using h
    · rcases List.mem_cons.mp h with first | later
      · exact .inr (by simp [first])
      · exact (mem_insertEntry later).imp id (List.mem_cons_of_mem x)

/-- Joining at the tail of a class keeps the order of the classes (R84). -/
theorem pairwise_insertEntry (e : WaitEntry) : ∀ {l : List WaitEntry}, l.Pairwise (fun a b => a.cls ≤ b.cls) →
    (insertEntry e l).Pairwise fun a b => a.cls ≤ b.cls
  | [], _ => by simp [insertEntry]
  | x :: rest, h => by
    obtain ⟨first, later⟩ := List.pairwise_cons.mp h
    unfold insertEntry
    split
    · next before =>
      refine List.pairwise_cons.mpr ⟨fun k hk => ?_, h⟩
      rcases List.mem_cons.mp hk with rfl | hk
      · omega
      · have := first k hk
        omega
    · next behind =>
      refine List.pairwise_cons.mpr ⟨fun k hk => ?_, pairwise_insertEntry e later⟩
      rcases mem_insertEntry hk with rfl | hk
      · omega
      · exact first k hk

section Order

variable {i : Station} {s t : State}

theorem Dsa.inOrder.of_same {d e : Dsa} (h : d.inOrder) (slots : e.slots = d.slots) (waiting : e.waiting = d.waiting)
    (length : e.holders.length = d.holders.length) : e.inOrder := by
  unfold Dsa.inOrder
  rw [slots, waiting, length]
  exact h

theorem Dsa.busy.of_same {d e : Dsa} (h : d.busy) (slots : e.slots = d.slots) (waiting : e.waiting = d.waiting)
    (length : e.holders.length = d.holders.length) : e.busy := by
  unfold Dsa.busy
  rw [slots, waiting, length]
  exact h

theorem DhuAct.inOrder (h : DhuAct i s t) (k : s.dsa.inOrder) : t.dsa.inOrder := k.of_same h.slots h.waiting h.length

theorem DhuAct.busy (h : DhuAct i s t) (k : s.dsa.busy) : t.dsa.busy := k.of_same h.slots h.waiting h.length

/-- What a grant leaves of the list and the holders, need or none (R87; log 26). -/
theorem grantHead_counts {e : WaitEntry} {rest : List WaitEntry} (hw : s.dsa.waiting = e :: rest) :
    (grantHead s).dsa.waiting = rest ∧ (grantHead s).dsa.slots = s.dsa.slots ∧
      s.dsa.holders.length ≤ (grantHead s).dsa.holders.length ∧
      (grantHead s).dsa.holders.length ≤ s.dsa.holders.length + 1 := by
  cases hn : (s.station e.station).lcc.need with
  | none => simp [grantHead, hw, hn]
  | some need =>
    have act := DhuAct.beginGrant (s.modDsa (Dsa.grantTo · e rest)) e.station need
    rw [grantHead_eq hw hn, State.occurrence_dsa, act.waiting, act.slots, act.length]
    simp [Dsa.grantTo]

theorem grantHead_inOrder (h : s.dsa.inOrder) (free : s.dsa.holders.length < s.dsa.slots) :
    (grantHead s).dsa.inOrder := by
  cases hw : s.dsa.waiting with
  | nil => simpa [grantHead, hw] using h
  | cons e rest =>
    obtain ⟨waiting, slots, _, most⟩ := grantHead_counts hw
    refine ⟨by omega, ?_⟩
    have ordered := h.2
    rw [hw] at ordered
    rw [waiting]
    exact (List.pairwise_cons.mp ordered).2

theorem grantRule_inOrder (n : Nat) : ∀ {s : State}, s.dsa.inOrder → (grantRule n s).dsa.inOrder := by
  induction n with
  | zero => exact id
  | succ n ih =>
    intro s h
    unfold grantRule
    split
    · next free => exact ih (grantHead_inOrder h free.1)
    · exact h

/-- The grant rule, applied as often as there are entries, leaves no slot idle while an entry waits (R87). -/
theorem grantRule_busy (n : Nat) : ∀ {s : State}, s.dsa.waiting.length ≤ n → (grantRule n s).dsa.busy := by
  induction n with
  | zero => exact fun h => .inl (List.length_eq_zero_iff.mp (Nat.le_zero.mp h))
  | succ n ih =>
    intro s h
    unfold grantRule
    split
    · next free =>
      refine ih ?_
      cases hw : s.dsa.waiting with
      | nil => exact absurd hw free.2
      | cons e rest =>
        rw [(grantHead_counts hw).1]
        rw [hw, List.length_cons] at h
        omega
    · next full =>
      rcases Decidable.not_and_iff_not_or_not.mp full with none | none
      · exact .inr (Nat.not_lt.mp none)
      · exact .inl (Decidable.not_not.mp none)

theorem grantAll_busy (s : State) : (grantAll s).dsa.busy := grantRule_busy _ (Nat.le_refl _)

theorem joinList_inOrder (h : s.dsa.inOrder) (cls : Nat) : (joinList s i cls).dsa.inOrder :=
  ⟨h.1, pairwise_insertEntry _ h.2⟩

theorem leaveList_inOrder (h : s.dsa.inOrder) : (leaveList s i).dsa.inOrder := ⟨h.1, h.2.filter _⟩

theorem freeSlot_inOrder (h : s.dsa.inOrder) : (freeSlot s i).dsa.inOrder :=
  ⟨Nat.le_trans (List.length_filter_le _ _) h.1, h.2⟩

theorem rejoin_inOrder (h : s.dsa.inOrder) : (rejoin s i).dsa.inOrder := by
  unfold rejoin
  split
  · exact joinList_inOrder h _
  · exact h

/-- A yield changes nothing of who waits and how many hold a slot. -/
theorem beginYield_counts (s : State) (i : Station) :
    (beginYield s i).dsa.slots = s.dsa.slots ∧ (beginYield s i).dsa.waiting = s.dsa.waiting ∧
      (beginYield s i).dsa.holders.length = s.dsa.holders.length := by
  rw [beginYield_eq, normalStop_dsa]
  have act := DhuAct.modHolder (s.occurrence .slotYield i) i i (f := Holder.stopAs .yielding) fun _ => rfl
  exact ⟨act.slots.trans (by rw [s.occurrence_dsa]), act.waiting.trans (by rw [s.occurrence_dsa]),
    act.length.trans (by rw [s.occurrence_dsa])⟩

theorem preempt_inOrder (n : Nat) : ∀ {s : State}, s.dsa.inOrder → s.dsa.busy →
    (preempt n s).dsa.inOrder ∧ (preempt n s).dsa.busy := by
  induction n with
  | zero => exact fun h k => ⟨h, k⟩
  | succ n ih =>
    intro s h k
    dsimp only [preempt]
    split
    · exact ⟨h, k⟩
    · next yielder forStation _ =>
      obtain ⟨slots, waiting, length⟩ := beginYield_counts (s.modDsa fun d =>
        { d with yields := d.yields ++ [{ yielder := yielder, forStation := forStation, lapsed := false }] }) yielder
      have yields := h.of_same slots waiting length
      split
      · exact ih (grantRule_inOrder _ (rejoin_inOrder (freeSlot_inOrder yields))) (grantAll_busy _)
      · exact ⟨yields, k.of_same slots waiting length⟩

theorem arbitrate_inOrder (h : s.dsa.inOrder) : (arbitrate s).dsa.inOrder ∧ (arbitrate s).dsa.busy :=
  preempt_inOrder 13 (grantRule_inOrder _ h) (grantAll_busy s)

/-- The arbiter's order and no idle slot together: what every operation keeps (R84, R87). -/
def Dsa.settled (d : Dsa) : Prop := d.inOrder ∧ d.busy

theorem DhuAct.settled (h : DhuAct i s t) (k : s.dsa.settled) : t.dsa.settled := ⟨h.inOrder k.1, h.busy k.2⟩

theorem settleStop_settled (h : s.dsa.settled) : (settleStop s i).dsa.settled := by
  unfold settleStop
  split
  · exact arbitrate_inOrder (rejoin_inOrder (freeSlot_inOrder h.1))
  · exact h

theorem presentNeed_settled (h : s.dsa.settled) (need : Need) : (presentNeed s i need).dsa.settled := by
  dsimp only [presentNeed]
  split
  · exact arbitrate_inOrder (joinList_inOrder h.1 _)
  · exact h

theorem withdrawNeed_settled (h : s.dsa.settled) : (withdrawNeed s i).dsa.settled := by
  dsimp only [withdrawNeed]
  split
  · exact h
  · split
    · exact arbitrate_inOrder (leaveList_inOrder h.1)
    · exact settleStop_settled (((DhuAct.modHolder _ i i Holder.withdraw_station).trans
        (DhuAct.normalStop _ i)).settled h)

theorem stopForFault_settled (h : s.dsa.settled) : (stopForFault s i).dsa.settled := by
  dsimp only [stopForFault]
  split
  · exact arbitrate_inOrder (leaveList_inOrder h.1)
  · exact settleStop_settled (((DhuAct.modHolder _ i i (f := Holder.stopAs .hard) fun _ => rfl).trans
      (DhuAct.hardStop _ i)).settled h)

end Order

end Sys2Proof.Machine

/-!
PROOF. What the work of the Line Cycle Controller, the Measurement Unit and the Latch Pulse Unit at a station is made of, said
once: updates of the station that leave its filters and its drive as they are, reports, occurrences, and motion needs presented
and withdrawn. What each of these keeps, all such work keeps: the other stations, the berth's blocks and the link, every report
that is pending and the keys of the reports, the safe drives and the order of the arbiter.
-/
namespace Sys2Proof.Machine

/-! ### The keys of the Report Queue -/

/-- A step keeps the reports of the queue apart (R182). -/
def KeysKept (s t : State) : Prop := distinctKeys s.link.reports → distinctKeys t.link.reports

theorem KeysKept.of_link {s t : State} (h : t.link = s.link) : KeysKept s t := fun k => by rwa [h]

theorem KeysKept.trans {s t u : State} (h : KeysKept s t) (k : KeysKept t u) : KeysKept s u := fun d => k (h d)

theorem KeysKept.ite {s t u : State} {p : Prop} [Decidable p] (h : KeysKept s t) (k : KeysKept s u) :
    KeysKept s (if p then t else u) := by
  split
  · exact h
  · exact k

theorem KeysKept.grantHead (s : State) : KeysKept s (grantHead s) := by
  unfold Machine.grantHead
  split
  · exact KeysKept.of_link rfl
  · split
    · exact KeysKept.of_link rfl
    · exact KeysKept.trans (KeysKept.of_link (by simp)) (CountsOnly.occurrence _ _ _).keys

theorem KeysKept.grantRule (n : Nat) (s : State) : KeysKept s (grantRule n s) := by
  induction n generalizing s with
  | zero => exact KeysKept.of_link rfl
  | succ n ih => exact ((KeysKept.grantHead s).trans (ih _)).ite (KeysKept.of_link rfl)

theorem KeysKept.beginYield (s : State) (i : Station) : KeysKept s (beginYield s i) := by
  rw [beginYield_eq]
  exact KeysKept.trans (CountsOnly.occurrence s .slotYield i).keys (KeysKept.of_link (by simp [State.yieldBegun]))

theorem KeysKept.preempt (n : Nat) (s : State) : KeysKept s (preempt n s) := by
  induction n generalizing s with
  | zero => exact KeysKept.of_link rfl
  | succ n ih =>
    dsimp only [Machine.preempt]
    split
    · exact KeysKept.of_link rfl
    · next yielder forStation _ =>
      have yields := KeysKept.trans (KeysKept.of_link rfl) (KeysKept.beginYield (s.modDsa fun d =>
        { d with yields := d.yields ++ [{ yielder := yielder, forStation := forStation, lapsed := false }] }) yielder)
      refine KeysKept.ite (yields.trans (KeysKept.trans ?_ (ih _))) yields
      exact KeysKept.trans (KeysKept.of_link (by simp)) (KeysKept.grantRule _ _)

theorem KeysKept.arbitrate (s : State) : KeysKept s (arbitrate s) :=
  (KeysKept.grantRule _ s).trans (KeysKept.preempt 13 _)

theorem KeysKept.settleStop (s : State) (i : Station) : KeysKept s (settleStop s i) :=
  KeysKept.ite (KeysKept.trans (KeysKept.of_link (by simp)) (KeysKept.arbitrate _)) (KeysKept.of_link rfl)

theorem KeysKept.presentNeed (s : State) (i : Station) (need : Need) : KeysKept s (presentNeed s i need) :=
  KeysKept.ite (KeysKept.trans (KeysKept.of_link (by simp)) (KeysKept.arbitrate _)) (KeysKept.of_link rfl)

theorem KeysKept.withdrawNeed (s : State) (i : Station) : KeysKept s (withdrawNeed s i) :=
  KeysKept.ite (KeysKept.of_link rfl) (KeysKept.ite
    (KeysKept.trans (KeysKept.of_link (by simp)) (KeysKept.arbitrate _))
    (KeysKept.trans (KeysKept.of_link (by simp)) (KeysKept.settleStop _ i)))

theorem KeysKept.stopForFault (s : State) (i : Station) : KeysKept s (stopForFault s i) :=
  KeysKept.ite (KeysKept.trans (KeysKept.of_link (by simp)) (KeysKept.arbitrate _))
    (KeysKept.trans (KeysKept.of_link (by simp)) (KeysKept.settleStop _ i))

/-! ### One operation -/

/-- One operation of the work at station `i`. -/
inductive StationOp (i : Station) : State → State → Prop where
  /-- The station's context, configuration, measurement, pulses or handed detections change, or its DHU but for its phase and
  demand. -/
  | update (s : State) (a : StationState) (phase : a.dhu.phase = (s.station i).dhu.phase)
      (demand : a.dhu.demand = (s.station i).dhu.demand) (filters : a.filters = (s.station i).filters) :
      StationOp i s (s.setStation i a)
  /-- A STATION report is made pending. -/
  | report (s : State) (j : Station) : StationOp i s (s.reportStation j)
  /-- An occurrence is counted. -/
  | occurrence (s : State) (kind : CounterKind) (j : Station) : StationOp i s (s.occurrence kind j)
  /-- A sample is offered to the counters. -/
  | sample (s : State) (j : Station) (tension : Nat) : StationOp i s (s.sampleOccurrence j tension)
  /-- The edge memories of a station are forgotten. -/
  | forget (s : State) (j : Station) : StationOp i s (s.forgetEdges j)
  /-- The station presents a need. -/
  | present (s : State) (need : Need) : StationOp i s (presentNeed s i need)
  /-- The station withdraws its need. -/
  | withdraw (s : State) : StationOp i s (withdrawNeed s i)
  /-- The station's motion ends by a hard stop. -/
  | stop (s : State) : StationOp i s (stopForFault s i)

/-- What an operation at station `i` keeps. -/
structure OpKeeps (i : Station) (s t : State) : Prop where
  beside : KeptBeside i s t
  link : LinkKept s t
  filters : (t.station i).filters = (s.station i).filters
  reports : s.link.reports ⊆ t.link.reports
  keys : KeysKept s t
  safe : s.driveSafe true → t.driveSafe true
  settled : s.dsa.settled → t.dsa.settled

section OpKeeps

variable {i : Station} {s t u : State}

theorem OpKeeps.refl (i : Station) (s : State) : OpKeeps i s s where
  beside := (StationBecomes.refl i s).keptBeside
  link := rfl
  filters := rfl
  reports := List.Subset.refl _
  keys := id
  safe := id
  settled := id

theorem OpKeeps.trans (h : OpKeeps i s t) (k : OpKeeps i t u) : OpKeeps i s u where
  beside := h.beside.trans k.beside
  link := h.link.trans k.link
  filters := k.filters.trans h.filters
  reports := List.Subset.trans h.reports k.reports
  keys := h.keys.trans k.keys
  safe := k.safe ∘ h.safe
  settled := k.settled ∘ h.settled

/-- Work of the counters and reports keeps what an operation keeps. -/
theorem CountsOnly.opKeeps (h : CountsOnly s t) (reports : s.link.reports ⊆ t.link.reports) (i : Station) :
    OpKeeps i s t where
  beside := ⟨fun j _ => h.driveOnly.stations j, h.berth⟩
  link := h.link
  filters := by rw [h.station i]
  reports := reports
  keys := h.keys
  safe := h.driveSafe
  settled k := by rwa [h.dsa]

/-- Drive work after an update of the station keeps what an operation keeps. -/
theorem DriveOnly.opKeeps (f : Lcc → Lcc) (h : DriveOnly (s.modLcc i f) t) (reports : s.link.reports ⊆ t.link.reports)
    (keys : KeysKept s t) (safe : s.driveSafe true → t.driveSafe true) (settled : s.dsa.settled → t.dsa.settled) :
    OpKeeps i s t where
  beside := (((StationBecomes.refl i s).modLcc f).drive h).keptBeside
  link := (((StationBecomes.refl i s).modLcc f).drive h).link
  filters := (h.stations i).filters.trans (State.modLcc_filters s i i f)
  reports := reports
  keys := keys
  safe := safe
  settled := settled

theorem State.forgetEdges_link (s : State) (i : Station) : (s.forgetEdges i).link = s.link := rfl

theorem StationOp.keeps (h : StationOp i s t) : OpKeeps i s t := by
  cases h with
  | update a phase demand filters =>
    have set := (StationBecomes.refl i s).setStation a
    refine ⟨set.keptBeside, set.link, ?_, List.Subset.refl _, id, fun h => h.setStation phase demand, id⟩
    rw [State.station_setStation_same, filters]
  | report j => exact (CountsOnly.makePending s (.station j)).opKeeps (subset_pendReport (by simp) _) i
  | occurrence kind j => exact (CountsOnly.occurrence s kind j).opKeeps (reports_subset_occurrence s kind j) i
  | sample j tension =>
    exact (CountsOnly.sampleOccurrence s j tension).opKeeps (reports_subset_sampleOccurrence s j tension) i
  | forget j =>
    refine (CountsOnly.forgetEdges s j).opKeeps ?_ i
    rw [State.forgetEdges_link]
    exact List.Subset.refl _
  | present need =>
    exact DriveOnly.opKeeps _ (presentNeed_frame s i need) (reports_subset_presentNeed s i need)
      (KeysKept.presentNeed s i need) (fun h => h.presentNeed i need) (fun h => presentNeed_settled h need)
  | withdraw =>
    exact DriveOnly.opKeeps _ (withdrawNeed_frame s i) (reports_subset_withdrawNeed s i)
      (KeysKept.withdrawNeed s i) (fun h => h.withdrawNeed i) withdrawNeed_settled
  | stop =>
    exact DriveOnly.opKeeps _ (stopForFault_frame s i) (reports_subset_stopForFault s i)
      (KeysKept.stopForFault s i) (fun h => h.stopForFault i) stopForFault_settled

end OpKeeps

/-! ### Work at a station -/

/-- Work at station `i`: operations one after another. -/
abbrev StationOps (i : Station) : State → State → Prop := Relation.ReflTransGen (StationOp i)

section StationOps

variable {i : Station} {s t u : State}

theorem StationOps.keeps (h : StationOps i s t) : OpKeeps i s t := by
  induction h with
  | refl => exact OpKeeps.refl i s
  | tail _ step ih => exact ih.trans step.keeps

theorem StationOps.ite {p : Prop} [Decidable p] (h : StationOps i s t) (k : StationOps i s u) :
    StationOps i s (if p then t else u) := by
  split
  · exact h
  · exact k

theorem StationOps.modLcc (s : State) (i : Station) (f : Lcc → Lcc) : StationOps i s (s.modLcc i f) :=
  .single (.update s _ rfl rfl rfl)

theorem StationOps.modMu (s : State) (i : Station) (f : Mu → Mu) : StationOps i s (s.modMu i f) :=
  .single (.update s _ rfl rfl rfl)

theorem StationOps.modLpu (s : State) (i : Station) (f : Lpu → Lpu) : StationOps i s (s.modLpu i f) :=
  .single (.update s _ rfl rfl rfl)

theorem StationOps.modHanded (s : State) (i : Station) (f : List FaultKind → List FaultKind) :
    StationOps i s (s.modHanded i f) := .single (.update s _ rfl rfl rfl)

theorem StationOps.setConfig (s : State) (i : Station) (c : Option StationConfig) : StationOps i s (s.setConfig i c) :=
  .single (.update s _ rfl rfl rfl)

theorem StationOps.report (s : State) (i : Station) : StationOps i s (s.reportStation i) := .single (.report s i)

theorem StationOps.occurrence (s : State) (kind : CounterKind) (i : Station) : StationOps i s (s.occurrence kind i) :=
  .single (.occurrence s kind i)

theorem StationOps.present (s : State) (i : Station) (need : Need) : StationOps i s (presentNeed s i need) :=
  .single (.present s need)

theorem StationOps.changeSpeed (s : State) (i : Station) (speed : Nat) : StationOps i s (changeSpeed s i speed) := by
  dsimp only [Machine.changeSpeed]
  refine (StationOps.modLcc s i _).trans (.single (.update _ _ ?_ ?_ rfl)) <;> (dsimp only; split <;> rfl)

theorem StationOps.recordMove (s : State) (i : Station) (new : LineState) (reason : Reason) :
    StationOps i s (recordMove s i new reason) :=
  ((StationOps.modLcc s i _).trans (StationOps.modMu _ i _)).trans (StationOps.report _ i)

theorem StationOps.changeState (s : State) (i : Station) (new : LineState) (reason : Reason) :
    StationOps i s (changeState s i new reason) :=
  (StationOps.recordMove s i new reason).trans (.single (.withdraw _))

theorem StationOps.enterStowed (s : State) (i : Station) (reason : Reason) (correction : Option Int) :
    StationOps i s (enterStowed s i reason correction) := by
  dsimp only [Machine.enterStowed]
  exact (StationOps.changeState s i _ _).trans (StationOps.modMu _ i _)

theorem StationOps.faultEntered (s : State) (i : Station) (kind : FaultKind) : StationOps i s (faultEntered s i kind) := by
  have stopped : StationOps i s (faultStopped s i kind) :=
    (((StationOps.modLcc s i _).trans (StationOps.modMu _ i _)).trans (.single (.stop _))).trans (StationOps.modLpu _ i _)
  exact ((stopped.trans (StationOps.modHanded _ i _)).trans (StationOps.report _ i)).trans (StationOps.occurrence _ _ i)

end StationOps

end Sys2Proof.Machine

/-!
PROOF. What all work of the Line Cycle Controller at a station keeps of that station, whatever it does there: bounded measures
and counts, a need in exactly the motion states, the effective profile of R62, a fault record once it stands, and being in or
out of service (R3, R8, R30, R38, R47, R62, R74). Each transition is work at its station (`StationOps`) that keeps these.
-/
namespace Sys2Proof.Machine

/-! ### Fault records -/

theorem FaultRecord.continues.refl (r : FaultRecord) : r.continues r := ⟨rfl, rfl, rfl, rfl, rfl, BitVec.and_self⟩

theorem FaultRecord.continues.trans {p q r : FaultRecord} (h : p.continues q) (k : q.continues r) : p.continues r := by
  obtain ⟨h1, h2, h3, h4, h5, h6⟩ := h
  obtain ⟨k1, k2, k3, k4, k5, k6⟩ := k
  refine ⟨k1.trans h1, k2.trans h2, k3.trans h3, k4.trans h4, k5.trans h5, ?_⟩
  calc p.further &&& r.further = p.further &&& q.further &&& r.further := by rw [h6]
    _ = p.further &&& (q.further &&& r.further) := BitVec.and_assoc ..
    _ = p.further := by rw [k6, h6]

/-- A further kind continues the record (R30, R140). -/
theorem FaultRecord.continues_further (r : FaultRecord) (bits : BitVec 14) :
    r.continues { r with further := r.further ||| bits } := by
  refine ⟨rfl, rfl, rfl, rfl, rfl, ?_⟩
  ext k
  simp
  tauto

/-! ### What a station keeps -/

/-- The station presents a need exactly in the motion states (R3). -/
def StationState.needMatches (a : StationState) : Prop := a.lcc.need.isSome = a.lcc.lineState.isMotion

/-- The station's effective profile is the one of R62 under this ceiling entry. -/
def StationState.profileUnder (a : StationState) (c : ProfileNo) : Prop :=
  a.lcc.effective = a.config.map fun d => min d.requested c

/-- What the work at a station keeps of it, under this ceiling entry, apart from its fault record and its service. -/
structure StationState.Keeps (c : ProfileNo) (a b : StationState) : Prop where
  measures : a.measuresBounded → b.measuresBounded
  counts : a.countBounded → b.countBounded
  needs : a.needMatches → b.needMatches
  profile : a.profileUnder c → b.profileUnder c

/-- A fault record that stands goes on, and the station stays in service or out of it. -/
structure StationState.Lasts (a b : StationState) : Prop where
  record : ∀ old, a.lcc.fault = some old → ∃ new, b.lcc.fault = some new ∧ old.continues new
  service : b.lcc.lineState = .offline ↔ a.lcc.lineState = .offline

/-- What all work at a station keeps of it but that of CLEAR_FAULT, CONFIGURE_STATION and a reset. -/
structure StationState.Evolves (c : ProfileNo) (a b : StationState) : Prop extends
  StationState.Keeps c a b, StationState.Lasts a b

section Evolves

variable {c : ProfileNo} {a b d : StationState}

theorem StationState.Keeps.refl (c : ProfileNo) (a : StationState) : a.Keeps c a := ⟨id, id, id, id⟩

theorem StationState.Keeps.trans (h : a.Keeps c b) (k : b.Keeps c d) : a.Keeps c d :=
  ⟨k.measures ∘ h.measures, k.counts ∘ h.counts, k.needs ∘ h.needs, k.profile ∘ h.profile⟩

theorem StationState.Evolves.refl (c : ProfileNo) (a : StationState) : a.Evolves c a :=
  ⟨.refl c a, fun old h => ⟨old, h, .refl old⟩, Iff.rfl⟩

theorem StationState.Evolves.trans (h : a.Evolves c b) (k : b.Evolves c d) : a.Evolves c d where
  toKeeps := h.toKeeps.trans k.toKeeps
  record old stands := by
    obtain ⟨mid, midStands, first⟩ := h.record old stands
    obtain ⟨new, newStands, second⟩ := k.record mid midStands
    exact ⟨new, newStands, first.trans second⟩
  service := k.service.trans h.service

/-- A change that leaves configuration and profile, the record, the tension and the count, and does not raise the dose: it
stays in its line state with its need, or enters, in service, another than STOWED with the need of that state. -/
theorem StationState.Evolves.of_fields (config : b.config = a.config) (effective : b.lcc.effective = a.lcc.effective)
    (fault : b.lcc.fault = a.lcc.fault) (tension : b.mu.tension = a.mu.tension) (count : b.mu.count = a.mu.count)
    (dose : b.lcc.dose ≤ a.lcc.dose)
    (state : (b.lcc.lineState = a.lcc.lineState ∧ b.lcc.need.isSome = a.lcc.need.isSome) ∨
      (a.lcc.lineState ≠ .offline ∧ b.lcc.lineState ≠ .offline ∧ b.lcc.lineState ≠ .stowed ∧ b.needMatches)) :
    a.Evolves c b where
  measures h := ⟨tension ▸ h.1, Nat.le_trans dose h.2⟩
  counts h := by
    refine ⟨by simpa only [StationState.cmax, config, count] using h.1, fun still => ?_⟩
    rw [count]
    rcases state with ⟨same, _⟩ | ⟨_, notOffline, notStowed, _⟩
    · exact h.2 (same ▸ still)
    · exact absurd still (not_or_intro notStowed notOffline)
  needs h := by
    rcases state with ⟨same, need⟩ | ⟨_, _, _, need⟩
    · unfold StationState.needMatches
      rw [same, need, h]
    · exact need
  profile h := by
    unfold StationState.profileUnder
    rw [effective, config, h]
  record old stands := ⟨old, fault.trans stands, .refl old⟩
  service := by
    rcases state with ⟨same, _⟩ | ⟨serving, notOffline, _⟩
    · rw [same]
    · exact iff_of_false notOffline serving

theorem StationState.Evolves.of_same (h : a.SameButDrive b) : a.Evolves c b :=
  .of_fields h.config (by rw [h.lcc]) (by rw [h.lcc]) (by rw [h.mu]) (by rw [h.mu]) (by rw [h.lcc])
    (.inl ⟨by rw [h.lcc], by rw [h.lcc]⟩)

/-- The entry of STOWED with the count at 0 (R8, R39). -/
theorem StationState.Evolves.of_stowed (serving : a.lcc.lineState ≠ .offline) (config : b.config = a.config)
    (effective : b.lcc.effective = a.lcc.effective) (fault : b.lcc.fault = a.lcc.fault)
    (tension : b.mu.tension = a.mu.tension) (count : b.mu.count = 0) (dose : b.lcc.dose ≤ a.lcc.dose)
    (state : b.lcc.lineState = .stowed) (need : b.lcc.need = none) : a.Evolves c b where
  measures h := ⟨tension ▸ h.1, Nat.le_trans dose h.2⟩
  counts _ := ⟨by simp [count], fun _ => count⟩
  needs _ := by simp [StationState.needMatches, state, need, LineState.isMotion]
  profile h := by
    unfold StationState.profileUnder
    rw [effective, config, h]
  record old stands := ⟨old, fault.trans stands, .refl old⟩
  service := iff_of_false (by simp [state]) serving

theorem Lcc.moved_dose_le (l : Lcc) (new : LineState) (reason : Reason) (latch : LatchPosition) :
    (l.moved new reason latch).dose ≤ l.dose := by
  unfold Lcc.moved
  dsimp only
  split <;> simp

/-- A change of line state to one without a motion need, in service and other than STOWED (R2, R3). -/
theorem StationState.Evolves.moved (serving : a.lcc.lineState ≠ .offline) {new : LineState}
    (still : new.isMotion = false) (notOffline : new ≠ .offline) (notStowed : new ≠ .stowed) (reason : Reason) :
    a.Evolves c (a.moved new reason) :=
  .of_fields rfl rfl rfl rfl rfl (a.lcc.moved_dose_le new reason a.latch)
    (.inr ⟨serving, notOffline, notStowed, still.symm⟩)

/-- The entry into FAULT keeps the record that stands (R29, R30). -/
theorem StationState.Evolves.faulted (serving : a.lcc.lineState ≠ .offline) (kind : FaultKind) (berthTime : Count32)
    (handed : List FaultKind) : a.Evolves c (a.faulted kind berthTime handed) where
  measures h := ⟨h.1, Nat.le_trans (a.lcc.moved_dose_le .fault .fault a.latch) h.2⟩
  counts h := ⟨h.1, by simp [StationState.faulted, Lcc.moved]⟩
  needs _ := rfl
  profile h := h
  record old stands := by
    refine ⟨_, rfl, ?_⟩
    simp only [StationState.recordFor, stands]
    exact old.continues_further kind.bit
  service := iff_of_false (by simp [StationState.faulted, Lcc.moved]) serving

end Evolves

/-! ### Work at a station -/

/-- Work at station `i` that keeps of the station what it must. -/
structure StationWork (c : ProfileNo) (i : Station) (s t : State) : Prop where
  ops : StationOps i s t
  evolves : (s.station i).Evolves c (t.station i)

section StationWork

variable {c : ProfileNo} {i : Station} {s t u : State}

theorem StationWork.refl (c : ProfileNo) (i : Station) (s : State) : StationWork c i s s :=
  ⟨.refl, .refl c _⟩

theorem StationWork.trans (h : StationWork c i s t) (k : StationWork c i t u) : StationWork c i s u :=
  ⟨h.ops.trans k.ops, h.evolves.trans k.evolves⟩

theorem StationWork.ite {p : Prop} [Decidable p] (h : p → StationWork c i s t) (k : ¬p → StationWork c i s u) :
    StationWork c i s (if p then t else u) := by
  split
  · next holds => exact h holds
  · next fails => exact k fails

/-- Work that makes the station this, which it may be. -/
theorem StationBecomes.work {a : StationState} (h : StationBecomes i s t a) (ops : StationOps i s t)
    (evolves : (s.station i).Evolves c a) : StationWork c i s t := ⟨ops, evolves.trans (.of_same h.station)⟩

theorem StationWork.of_same (ops : StationOps i s t) (h : (s.station i).SameButDrive (t.station i)) :
    StationWork c i s t := ⟨ops, .of_same h⟩

theorem StationWork.serving (h : StationWork c i s t) (serving : (s.station i).lcc.lineState ≠ .offline) :
    (t.station i).lcc.lineState ≠ .offline := fun off => serving (h.evolves.service.mp off)

/-- Nothing is done where a condition fails. -/
theorem StationWork.when {p : Prop} [Decidable p] (h : p → StationWork c i s t) :
    StationWork c i s (if p then t else s) := .ite h fun _ => .refl c i s

theorem StationWork.report (s : State) (i : Station) : StationWork c i s (s.reportStation i) :=
  ⟨.report s i, .refl c _⟩

theorem StationWork.occurrence (s : State) (kind : CounterKind) (i : Station) : StationWork c i s (s.occurrence kind i) :=
  .of_same (.occurrence s kind i) ((CountsOnly.occurrence s kind i).driveOnly.stations i)

theorem StationWork.modLcc {f : Lcc → Lcc}
    (evolves : (s.station i).Evolves c { s.station i with lcc := f (s.station i).lcc }) :
    StationWork c i s (s.modLcc i f) := ⟨.modLcc s i f, by rwa [State.station_modLcc_same]⟩

theorem StationWork.modMu {f : Mu → Mu}
    (evolves : (s.station i).Evolves c { s.station i with mu := f (s.station i).mu }) :
    StationWork c i s (s.modMu i f) := ⟨.modMu s i f, by rwa [State.station_modMu_same]⟩

theorem StationWork.modLpu (s : State) (i : Station) (f : Lpu → Lpu) : StationWork c i s (s.modLpu i f) := by
  refine ⟨.modLpu s i f, ?_⟩
  rw [State.station_modLpu_same]
  exact .of_fields rfl rfl rfl rfl rfl (Nat.le_refl _) (.inl ⟨rfl, rfl⟩)

theorem StationWork.modHanded (s : State) (i : Station) (f : List FaultKind → List FaultKind) :
    StationWork c i s (s.modHanded i f) := by
  refine ⟨.modHanded s i f, ?_⟩
  rw [State.station_modHanded_same]
  exact .of_fields rfl rfl rfl rfl rfl (Nat.le_refl _) (.inl ⟨rfl, rfl⟩)

theorem StationWork.changeSpeed (s : State) (i : Station) (speed : Nat) : StationWork c i s (changeSpeed s i speed) :=
  ((StationBecomes.refl i s).changeSpeed speed).work (.changeSpeed s i speed)
    (.of_fields rfl rfl rfl rfl rfl (Nat.le_refl _) (.inl ⟨rfl, Option.isSome_map⟩))

/-! ### Changes of line state -/

/-- A change of line state in service to one without a need, other than STOWED (R2). -/
theorem StationWork.changeState (serving : (s.station i).lcc.lineState ≠ .offline) {new : LineState}
    (still : new.isMotion = false) (notOffline : new ≠ .offline) (notStowed : new ≠ .stowed) (reason : Reason) :
    StationWork c i s (changeState s i new reason) :=
  (changeState_becomes s i new reason).work (.changeState s i new reason)
    (.moved serving still notOffline notStowed reason)

theorem StationWork.enterLineOut (serving : (s.station i).lcc.lineState ≠ .offline) (reason : Reason) :
    StationWork c i s (enterLineOut s i reason) := .changeState serving rfl (by simp) (by simp) reason

theorem StationWork.enterHolding (serving : (s.station i).lcc.lineState ≠ .offline) (reason : Reason) :
    StationWork c i s (enterHolding s i reason) := .changeState serving rfl (by simp) (by simp) reason

theorem StationWork.enterStowed (serving : (s.station i).lcc.lineState ≠ .offline) (reason : Reason)
    (correction : Option Int) : StationWork c i s (enterStowed s i reason correction) :=
  (enterStowed_becomes s i reason correction).work (.enterStowed s i reason correction)
    (.of_stowed serving rfl rfl rfl rfl rfl ((s.station i).lcc.moved_dose_le .stowed reason (s.station i).latch) rfl rfl)

theorem StationWork.arrive (serving : (s.station i).lcc.lineState ≠ .offline) : StationWork c i s (arrive s i) :=
  .enterStowed serving .stowed _

/-! ### FAULT -/

theorem StationWork.faultEntered (serving : (s.station i).lcc.lineState ≠ .offline) (kind : FaultKind) :
    StationWork c i s (faultEntered s i kind) :=
  (faultEntered_becomes s i kind).work (.faultEntered s i kind) (.faulted serving kind _ _)

theorem StationWork.addFurther (s : State) (i : Station) (kind : FaultKind) : StationWork c i s (addFurther s i kind) := by
  refine (addFurther_becomes s i kind).work ((StationOps.modLcc s i _).trans (StationOps.report _ i))
    ⟨⟨id, id, id, id⟩, fun old stands => ?_, Iff.rfl⟩
  exact ⟨_, by simp only [stands, Option.map_some], old.continues_further kind.bit⟩

theorem StationWork.enterFault (serving : (s.station i).lcc.lineState ≠ .offline) (kind : FaultKind) :
    StationWork c i s (enterFault s i kind) := by
  have entered := StationWork.faultEntered (c := c) serving kind
  rw [enterFault_eq]
  exact .ite (fun _ => entered.trans (.addFurther _ i _)) fun _ => entered

theorem StationWork.detect (s : State) (i : Station) (kind : FaultKind) : StationWork c i s (detect s i kind) := by
  unfold Machine.detect
  split
  · exact .refl c i s
  · exact .addFurther s i kind
  · next serving _ => exact .enterFault serving kind

theorem StationWork.takeHanded (s : State) (i : Station) (kind : FaultKind) :
    StationWork c i s (takeHanded s i kind) := by
  refine .when fun _ => ?_
  have dropped := StationWork.modHanded (c := c) s i fun l => l.filter fun k => !decide (k = kind)
  exact .ite (fun _ => dropped.trans (.detect _ i kind)) fun _ => dropped

theorem StationWork.lostAtEntry (s : State) (i : Station) : StationWork c i s (lostAtEntry s i) :=
  .when fun _ => .detect s i _

theorem StationWork.limitTest (s : State) (i : Station) : StationWork c i s (limitTest s i) :=
  .when fun _ => .detect s i _

/-! ### Entries -/

theorem StationWork.setCurrent (s : State) (i : Station) (e : ProfileNo) : StationWork c i s (setCurrent s i e) :=
  (StationWork.modLcc (.of_fields rfl rfl rfl rfl rfl (Nat.le_refl _) (.inl ⟨rfl, rfl⟩))).trans (.report _ i)

theorem StationWork.creepTest (s : State) (i : Station) : StationWork c i s (creepTest s i) :=
  .when fun _ => (StationWork.modLcc (.of_fields rfl rfl rfl rfl rfl (Nat.le_refl _) (.inl ⟨rfl, rfl⟩))).trans
    (.changeSpeed _ i _)

/-- The entry of a motion state with its need (R3): it is work at the station if its state, need and fields are as they must. -/
theorem StationWork.motion {a : StationState} {new : LineState} (serving : (s.station i).lcc.lineState ≠ .offline)
    (h : StationBecomes i s t a) (ops : StationOps i s t) (state : a.lcc.lineState = new) (motion : new.isMotion = true)
    (need : a.lcc.need.isSome = true) (config : a.config = (s.station i).config)
    (effective : a.lcc.effective = (s.station i).lcc.effective) (fault : a.lcc.fault = (s.station i).lcc.fault)
    (tension : a.mu.tension = (s.station i).mu.tension) (count : a.mu.count = (s.station i).mu.count)
    (dose : a.lcc.dose ≤ (s.station i).lcc.dose) : StationWork c i s t := by
  refine h.work ops (.of_fields config effective fault tension count dose (.inr ⟨serving, ?_, ?_, ?_⟩))
  · rintro off
    rw [← state, off] at motion
    cases motion
  · rintro stowed
    rw [← state, stowed] at motion
    cases motion
  · unfold StationState.needMatches
    rw [need, state, motion]

theorem StationWork.enterPayingOut (serving : (s.station i).lcc.lineState ≠ .offline) (target : Nat) :
    StationWork c i s (enterPayingOut s i target) := by
  rw [enterPayingOut_eq]
  refine StationWork.trans ?_ (.limitTest _ i)
  exact .motion serving (payoutBegun_becomes s i target)
    (((StationOps.modLcc s i _).trans (StationOps.changeState _ i _ _)).trans (StationOps.present _ i _))
    rfl rfl rfl rfl rfl rfl rfl rfl
    ((s.station i).lcc.moved_dose_le .payingOut .request (s.station i).latch)

/-- The entry of REWINDING up to the need it presents, where the sensor STOWED is not asserted (R26). -/
def rewindBegun (s : State) (i : Station) (reason : Reason) : State :=
  presentNeed (changeState s i .rewinding reason) i { cls := 2, dir := .inward, speed := s.settings.rewindSpeed }

/-- The station in REWINDING with its need, before creep (R26). -/
def StationState.rewinding (a : StationState) (reason : Reason) (speed : Nat) : StationState :=
  { a.moved .rewinding reason with
    lcc := { (a.moved .rewinding reason).lcc with need := some { cls := 2, dir := .inward, speed := speed } } }

theorem rewindBegun_becomes (s : State) (i : Station) (reason : Reason) :
    StationBecomes i s (rewindBegun s i reason) ((s.station i).rewinding reason s.settings.rewindSpeed) :=
  (changeState_becomes s i .rewinding reason).presentNeed _

theorem changeState_settings (s : State) (i : Station) (new : LineState) (reason : Reason) :
    (changeState s i new reason).settings = s.settings :=
  congrArg BerthSettings.config (changeState_becomes s i new reason).berth.berth

theorem enterRewinding_eq (s : State) (i : Station) (reason : Reason) :
    enterRewinding s i reason =
      if (s.station i).filters.stowed.level then arrive (changeState s i .rewinding reason) i
      else lostAtEntry (creepTest (rewindBegun s i reason) i) i := rfl

theorem StationWork.enterRewinding (serving : (s.station i).lcc.lineState ≠ .offline) (reason : Reason) :
    StationWork c i s (enterRewinding s i reason) := by
  rw [enterRewinding_eq]
  refine .ite (fun _ => ?_) fun _ => ?_
  · have begun := changeState_becomes s i .rewinding reason
    have arrived := arrive_becomes (Machine.changeState s i .rewinding reason) i
    refine (begun.trans arrived).work
      ((StationOps.changeState s i _ _).trans (StationOps.enterStowed _ i _ _)) (.of_stowed serving ?_ ?_ ?_ ?_ rfl ?_ rfl rfl)
    · exact begun.station.config
    · exact (congrArg Lcc.effective begun.station.lcc :)
    · exact (congrArg Lcc.fault begun.station.lcc :)
    · exact (congrArg Mu.tension begun.station.mu :)
    · exact Nat.zero_le _
  · refine StationWork.trans ?_ ((StationWork.creepTest _ i).trans (.lostAtEntry _ i))
    exact .motion serving (rewindBegun_becomes s i reason)
      ((StationOps.changeState s i _ _).trans (StationOps.present _ i _)) rfl rfl rfl rfl rfl rfl rfl rfl
      ((s.station i).lcc.moved_dose_le .rewinding reason (s.station i).latch)

/-- The entry of TAKING_UP up to its tests (R18, R19). -/
def takeupBegun (s : State) (i : Station) : State :=
  presentNeed (changeState (s.modLcc i fun l => { l with takeupStart := some (s.station i).mu.count }) i .takingUp
    .lockConfirmed) i { cls := 1, dir := .inward, speed := s.settings.takeupSpeed }

/-- The station in TAKING_UP with its need (R18, R19). -/
def StationState.takingUp (a : StationState) (speed : Nat) : StationState :=
  { a with
    lcc := { a.lcc.moved .takingUp .lockConfirmed a.latch with
      takeupStart := some a.mu.count, need := some { cls := 1, dir := .inward, speed := speed } }
    mu := { a.mu with correction := none } }

theorem takeupBegun_becomes (s : State) (i : Station) :
    StationBecomes i s (takeupBegun s i) ((s.station i).takingUp s.settings.takeupSpeed) := by
  have started := (StationBecomes.refl i s).modLcc fun l => { l with takeupStart := some (s.station i).mu.count }
  have moves := changeState_becomes (s.modLcc i fun l => { l with takeupStart := some (s.station i).mu.count }) i
    .takingUp .lockConfirmed
  rw [State.station_modLcc_same] at moves
  exact (started.trans moves).presentNeed _

theorem enterTakingUp_eq (s : State) (i : Station) :
    enterTakingUp s i = lostAtEntry (limitTest (takeupBegun s i) i) i := rfl

theorem StationWork.enterTakingUp (serving : (s.station i).lcc.lineState ≠ .offline) :
    StationWork c i s (enterTakingUp s i) := by
  rw [enterTakingUp_eq]
  refine StationWork.trans ?_ ((StationWork.limitTest _ i).trans (.lostAtEntry _ i))
  exact .motion serving (takeupBegun_becomes s i)
    (((StationOps.modLcc s i _).trans (StationOps.changeState _ i _ _)).trans (StationOps.present _ i _))
    rfl rfl rfl rfl rfl rfl rfl rfl
    ((s.station i).lcc.moved_dose_le .takingUp .lockConfirmed (s.station i).latch)

/-- The entry of ADJUSTING up to its limit test (R21, R69). -/
def adjustBegun (s : State) (i : Station) (dir : Dir) (cls : Nat) (aim : ProfileNo) (reason : Reason) : State :=
  presentNeed (((changeState s i .adjusting reason).modLcc i fun l =>
    { l with adjustDir := some dir, adjustClass := some cls, aimProfile := some aim }).occurrence .adjustStart i) i
    { cls := cls, dir := dir, speed := (s.profile aim).adjustSpeed }

/-- The station in ADJUSTING with its need (R21, R69). -/
def StationState.adjusting (a : StationState) (dir : Dir) (cls : Nat) (aim : ProfileNo) (reason : Reason) (speed : Nat) :
    StationState :=
  { a.moved .adjusting reason with
    lcc := { (a.moved .adjusting reason).lcc with
      adjustDir := some dir, adjustClass := some cls, aimProfile := some aim
      need := some { cls := cls, dir := dir, speed := speed } } }

theorem adjustBegun_becomes (s : State) (i : Station) (dir : Dir) (cls : Nat) (aim : ProfileNo) (reason : Reason) :
    StationBecomes i s (adjustBegun s i dir cls aim reason)
      ((s.station i).adjusting dir cls aim reason (s.profile aim).adjustSpeed) :=
  (((changeState_becomes s i .adjusting reason).modLcc _).drive (DriveOnly.occurrence _ .adjustStart i)).presentNeed _

theorem enterAdjusting_eq (s : State) (i : Station) (dir : Dir) (cls : Nat) (aim : ProfileNo) (reason : Reason) :
    enterAdjusting s i dir cls aim reason = limitTest (adjustBegun s i dir cls aim reason) i := rfl

theorem StationWork.enterAdjusting (serving : (s.station i).lcc.lineState ≠ .offline) (dir : Dir) (cls : Nat)
    (aim : ProfileNo) (reason : Reason) : StationWork c i s (enterAdjusting s i dir cls aim reason) := by
  rw [enterAdjusting_eq]
  refine StationWork.trans ?_ (.limitTest _ i)
  exact .motion serving (adjustBegun_becomes s i dir cls aim reason)
    ((((StationOps.changeState s i _ _).trans (StationOps.modLcc _ i _)).trans (StationOps.occurrence _ _ i)).trans
      (StationOps.present _ i _))
    rfl rfl rfl rfl rfl rfl rfl rfl ((s.station i).lcc.moved_dose_le .adjusting reason (s.station i).latch)

/-! ### Attempt sequences -/

theorem StationWork.releaseConfirmed (serving : (s.station i).lcc.lineState ≠ .offline) :
    StationWork c i s (releaseConfirmed s i) :=
  .ite (fun _ => .enterRewinding serving _) fun _ => .enterLineOut serving _

theorem StationWork.reportConfirmed (s : State) (i : Station) (sequence : Sequence) :
    StationWork c i s (reportConfirmed s i sequence) := by
  unfold Machine.reportConfirmed
  split
  · next state => exact .enterTakingUp (by simp [state])
  · next state => exact .releaseConfirmed (by simp [state])
  · exact .refl c i s

theorem StationWork.confirmTest (s : State) (i : Station) : StationWork c i s (confirmTest s i) :=
  .when fun _ => (StationWork.modLpu s i _).trans (.reportConfirmed _ i _)

theorem StationWork.energize (s : State) (i : Station) : StationWork c i s (energize s i) :=
  (StationWork.modLpu s i _).trans (.occurrence _ _ i)

theorem StationWork.beginPulse (s : State) (i : Station) (kind : PulseKind) : StationWork c i s (beginPulse s i kind) :=
  .ite (fun _ => (StationWork.modLpu s i _).trans (.energize _ i)) fun _ => .modLpu s i _

theorem StationWork.askPulse (s : State) (i : Station) (kind : PulseKind) : StationWork c i s (askPulse s i kind) :=
  .ite (fun _ => .modLpu s i _) fun _ => .beginPulse s i kind

theorem StationWork.startSequence (s : State) (i : Station) (sequence : Sequence) :
    StationWork c i s (startSequence s i sequence) :=
  (StationWork.modLpu s i _).trans (.askPulse _ i _)

theorem StationWork.endPulse (s : State) (i : Station) : StationWork c i s (endPulse s i) := by
  dsimp only [Machine.endPulse]
  split
  · exact (StationWork.modLpu s i _).trans (.beginPulse _ i _)
  · exact .modLpu s i _

theorem StationWork.watchConflict (s : State) (i : Station) : StationWork c i s (watchConflict s i) := .modLpu s i _

theorem StationWork.retryPulse (s : State) (i : Station) : StationWork c i s (retryPulse s i) :=
  ((StationWork.modLpu s i _).trans (.askPulse _ i _)).trans (.confirmTest _ i)

theorem StationWork.attemptsExhausted (s : State) (i : Station) : StationWork c i s (attemptsExhausted s i) := by
  have ended := StationWork.modLpu (c := c) s i Lpu.exhausted
  dsimp only [Machine.attemptsExhausted]
  split
  · exact ended.trans (.detect _ i _)
  · exact ended.trans (.detect _ i _)
  · exact ended

theorem StationWork.confirmTimesOut (s : State) (i : Station) : StationWork c i s (confirmTimesOut s i) :=
  .ite (fun _ => .retryPulse s i) fun _ => .attemptsExhausted s i

theorem StationWork.enterLocking (serving : (s.station i).lcc.lineState ≠ .offline) (reason : Reason) :
    StationWork c i s (enterLocking s i reason) :=
  (((StationWork.changeState serving rfl (by simp) (by simp) reason).trans (.startSequence _ i .lock)).trans
    (.lostAtEntry _ i)).trans (.confirmTest _ i)

theorem StationWork.enterSeated (serving : (s.station i).lcc.lineState ≠ .offline) (reason : Reason) :
    StationWork c i s (enterSeated s i reason) := by
  have seated := StationWork.changeState (c := c) serving (new := .seated) rfl (by simp) (by simp) reason
  exact .ite (fun _ => seated.trans (.enterLocking (seated.serving serving) .seated)) fun _ => seated

theorem StationWork.enterReleasing (serving : (s.station i).lcc.lineState ≠ .offline) (reason : Reason) (rewind : Bool) :
    StationWork c i s (enterReleasing s i reason rewind) := by
  have flagged : StationWork c i s (s.modLcc i fun l => { l with rewindFlag := some rewind }) :=
    .modLcc (.of_fields rfl rfl rfl rfl rfl (Nat.le_refl _) (.inl ⟨rfl, rfl⟩))
  exact (((flagged.trans (.changeState (flagged.serving serving) rfl (by simp) (by simp) reason)).trans
    (.startSequence _ i .release)).trans (.lostAtEntry _ i)).trans (.confirmTest _ i)

/-! ### The count -/

theorem StationWork.countChanged (s : State) (i : Station) : StationWork c i s (countChanged s i) := by
  refine .ite (fun _ => .detect s i _) fun _ => ?_
  split
  · next state => exact .when fun _ => .enterLineOut (by simp [state]) _
  · exact .when fun _ => .detect s i _
  · exact .creepTest s i
  · exact .refl c i s

theorem StationWork.inwardDiscarded (s : State) (i : Station) : StationWork c i s (inwardDiscarded s i) := by
  unfold Machine.inwardDiscarded
  split
  · have counted : ∀ n : Nat, StationWork c i s (s.modLcc i fun l => { l with creepCount := some n }) := fun n =>
      .modLcc (.of_fields rfl rfl rfl rfl rfl (Nat.le_refl _) (.inl ⟨rfl, rfl⟩))
    exact .ite (fun _ => (counted _).trans (.detect _ i _)) fun _ => counted _
  · exact .refl c i s

/-- An update of the measurement that leaves tension and count. -/
theorem StationWork.modMuOther {f : Mu → Mu} (tension : (f (s.station i).mu).tension = (s.station i).mu.tension)
    (count : (f (s.station i).mu).count = (s.station i).mu.count) : StationWork c i s (s.modMu i f) :=
  .modMu (.of_fields rfl rfl rfl tension count (Nat.le_refl _) (.inl ⟨rfl, rfl⟩))

/-- An update of the count within its bound, in a state that may hold one (R38). -/
theorem StationWork.modCount {f : Mu → Mu} (tension : (f (s.station i).mu).tension = (s.station i).mu.tension)
    (count : (s.station i).countBounded →
      ({ s.station i with mu := f (s.station i).mu } : StationState).countBounded) : StationWork c i s (s.modMu i f) :=
  .modMu ⟨⟨fun h => ⟨tension ▸ h.1, h.2⟩, count, id, id⟩, fun old stands => ⟨old, stands, .refl old⟩, Iff.rfl⟩

theorem StationWork.outwardCycle (serving : (s.station i).lcc.lineState ≠ .offline) :
    StationWork c i s (outwardCycle s i) := by
  have gathered : StationWork c i s (s.modMu i fun m => { m with accumulator := m.accumulator + 1 }) :=
    .modMuOther rfl rfl
  refine .ite (fun _ => ?_) fun notStowed => .ite (fun _ => gathered) fun below => ?_
  · exact .ite (fun _ => (gathered.trans (.modMuOther rfl rfl)).trans (.report _ i)) fun _ => gathered
  · refine (gathered.trans (.modCount rfl fun _ => ⟨?_, ?_⟩)).trans (.countChanged _ i)
    · rw [State.station_modMu_same]
      exact Nat.not_le.mp below
    · rw [State.station_modMu_same]
      exact fun still => absurd still (not_or_intro notStowed serving)

theorem StationWork.inwardCycle (s : State) (i : Station) : StationWork c i s (inwardCycle s i) := by
  have gathered : StationWork c i s (s.modMu i fun m => { m with accumulator := m.accumulator - 1 }) :=
    .modMuOther rfl rfl
  refine .ite (fun _ => gathered.trans (.inwardDiscarded _ i)) fun _ =>
    (gathered.trans (.modCount rfl fun bounded => ⟨?_, fun still => ?_⟩)).trans (.countChanged _ i)
  · exact Nat.le_trans (Nat.sub_le _ 1) bounded.1
  · exact (congrArg (· - 1) (bounded.2 still)).trans rfl

/-! ### Changed inputs -/

theorem StationWork.latchMoved (s : State) (i : Station) (old : LatchPosition) :
    StationWork c i s (latchMoved s i old) := by
  have tested := (StationWork.watchConflict (c := c) s i).trans (.confirmTest _ i)
  refine .ite (fun _ => .refl c i s) fun _ => ?_
  dsimp only
  split
  case h_1 | h_2 | h_3 => exact .ite (fun _ => tested.trans (.detect _ i _)) fun _ => tested
  case h_4 =>
    refine .ite (fun _ => ?_) fun _ => .ite (fun _ => tested.trans (.detect _ i _)) fun _ => tested
    have ended := tested.trans (.modLcc (f := fun l => { l with dose := 0, overloadHeld := false })
      (.of_fields rfl rfl rfl rfl rfl (Nat.zero_le _) (.inl ⟨rfl, rfl⟩)))
    exact .ite (fun _ => ended.trans (.report _ i)) fun _ => ended
  case h_5 => exact tested

theorem StationWork.headSeats (s : State) (i : Station) : StationWork c i s (headSeats s i) := by
  unfold Machine.headSeats
  split
  · next state => exact .enterSeated (by simp [state]) _
  · next state => exact .enterSeated (by simp [state]) _
  · exact .refl c i s

theorem StationWork.headUnseats (s : State) (i : Station) : StationWork c i s (headUnseats s i) := by
  unfold Machine.headUnseats
  split
  case h_1 state => exact .enterLineOut (by simp [state]) _
  case h_6 => exact .when fun _ => .detect s i _
  case h_7 => exact .refl c i s
  all_goals exact .detect s i _

theorem StationWork.stowedRises (s : State) (i : Station) : StationWork c i s (stowedRises s i) := by
  unfold Machine.stowedRises
  split
  · next state => exact .arrive (by simp [state])
  · exact .refl c i s

end StationWork

end Sys2Proof.Machine

/-!
PROOF. The station requests and the sample events as work at a station: each keeps of its station what all work keeps (R3, R30,
R38, R47, R62, R74). CLEAR_FAULT and CONFIGURE_STATION, which may end a fault record and take a station in and out of service,
keep the rest. What an adoption and a leaving of service make of the station is said in full.
-/
namespace Sys2Proof.Machine

section Requests

variable {c : ProfileNo} {i : Station} {s t u : State}

/-! ### Samples -/

theorem StationWork.sampleOccurrence (s : State) (i : Station) (tension : Nat) :
    StationWork c i s (s.sampleOccurrence i tension) :=
  .of_same (.single (.sample s i tension)) ((CountsOnly.sampleOccurrence s i tension).driveOnly.stations i)

/-- The dose within its bound, the rest of the context and the station standing (R74). -/
theorem StationWork.modDose {f : Lcc → Lcc} (state : (f (s.station i).lcc).lineState = (s.station i).lcc.lineState)
    (need : (f (s.station i).lcc).need = (s.station i).lcc.need) (fault : (f (s.station i).lcc).fault = (s.station i).lcc.fault)
    (effective : (f (s.station i).lcc).effective = (s.station i).lcc.effective)
    (dose : (s.station i).lcc.dose ≤ Config.doseMax → (f (s.station i).lcc).dose ≤ Config.doseMax) :
    StationWork c i s (s.modLcc i f) := by
  refine .modLcc ⟨⟨fun h => ⟨h.1, dose h.2⟩, fun h => ⟨h.1, fun still => h.2 (state ▸ still)⟩, fun h => ?_, fun h => ?_⟩,
    fun old stands => ⟨old, fault.trans stands, .refl old⟩, by rw [state]⟩
  · unfold StationState.needMatches at h ⊢
    rw [need, state, h]
  · unfold StationState.profileUnder at h ⊢
    rw [effective, h]

theorem StationWork.latchOverload (s : State) (i : Station) : StationWork c i s (latchOverload s i) :=
  .ite (fun _ => .refl c i s) fun _ => (StationWork.modDose rfl rfl rfl rfl id).trans (.report _ i)

theorem StationWork.overloadEvent (serving : (s.station i).lcc.lineState ≠ .offline) :
    StationWork c i s (overloadEvent s i) := by
  have counted : StationWork c i s ((s.modLcc i fun l => { l with dose := 0 }).occurrence .overloadEvent i) :=
    (StationWork.modDose rfl rfl rfl rfl fun _ => Nat.zero_le _).trans (.occurrence _ _ i)
  exact .ite (fun _ => counted.trans (.enterReleasing (counted.serving serving) _ _)) fun _ =>
    counted.trans (.latchOverload _ i)

theorem doseAfter_le {dose : Nat} (h : dose ≤ Config.doseMax) (tension threshold leak : Nat) :
    doseAfter dose tension threshold leak ≤ Config.doseMax := by
  unfold doseAfter
  split
  · exact Nat.min_le_left ..
  · exact Nat.le_trans (Nat.sub_le ..) h

theorem StationWork.doseWork (serving : (s.station i).lcc.lineState ≠ .offline) (e : ProfileNo) :
    StationWork c i s (doseWork s i e) := by
  have dosed : StationWork c i s (s.modLcc i fun l => { l with
      dose := doseAfter (s.station i).lcc.dose (s.station i).mu.tension (thresholdInUse s (s.station i).lcc.current e)
        s.settings.leak }) :=
    .modDose rfl rfl rfl rfl fun h => doseAfter_le h _ _ _
  exact .ite (fun _ => dosed.trans (.overloadEvent (dosed.serving serving))) fun _ => dosed

theorem StationWork.regulateHolding (serving : (s.station i).lcc.lineState ≠ .offline) (e : ProfileNo) :
    StationWork c i s (regulateHolding s i e) :=
  .ite (fun _ => .enterAdjusting serving ..) fun _ => .ite (fun _ => .enterAdjusting serving ..) fun _ =>
    .ite (fun _ => .refl c i s) fun _ => .ite (fun _ => .setCurrent s i e) fun _ =>
      .ite (fun _ => .enterAdjusting serving ..) fun _ => .enterAdjusting serving ..

theorem StationWork.settleRetension (serving : (s.station i).lcc.lineState ≠ .offline) (e : ProfileNo) :
    StationWork c i s (settleRetension s i e) :=
  (StationWork.setCurrent s i e).trans (.enterHolding ((StationWork.setCurrent (c := c) s i e).serving serving) _)

theorem StationWork.continueRun (s : State) (i : Station) (e : ProfileNo) : StationWork c i s (continueRun s i e) :=
  (StationWork.modDose rfl rfl rfl rfl id).trans (.changeSpeed _ i _)

theorem StationWork.testAdjusting (serving : (s.station i).lcc.lineState ≠ .offline) (e : ProfileNo) :
    StationWork c i s (testAdjusting s i e) := by
  dsimp only [Machine.testAdjusting]
  split
  case h_1 | h_2 =>
    exact .ite (fun _ => .continueRun s i e) fun _ => .ite (fun _ => .settleRetension serving e) fun _ =>
      .enterAdjusting serving ..
  case h_3 => exact .refl c i s

theorem StationWork.testTakeup (serving : (s.station i).lcc.lineState ≠ .offline) (e : ProfileNo) :
    StationWork c i s (testTakeup s i e) :=
  .when fun _ => (StationWork.setCurrent s i e).trans
    (.enterHolding ((StationWork.setCurrent (c := c) s i e).serving serving) _)

theorem StationWork.stateTest (s : State) (i : Station) (e : ProfileNo) : StationWork c i s (stateTest s i e) := by
  unfold Machine.stateTest
  split
  · next state => exact .testTakeup (by simp [state]) e
  · next state => exact .regulateHolding (by simp [state]) e
  · next state => exact .testAdjusting (by simp [state]) e
  · exact .refl c i s

theorem StationState.tensioned_serving {a : StationState} (h : a.tensioned = true) : a.lcc.lineState ≠ .offline := by
  intro off
  simp [StationState.tensioned, LineState.isTensioned, off] at h

theorem StationWork.lccSample (s : State) (i : Station) : StationWork c i s (lccSample s i) := by
  unfold Machine.lccSample
  dsimp only
  split
  · exact .when fun _ => .detect s i _
  · split
    · next e tensioned _ =>
      have dosed := StationWork.doseWork (c := c) (StationState.tensioned_serving tensioned) e
      exact .ite (fun _ => dosed.trans (.stateTest _ i e)) fun _ => dosed
    · exact .refl c i s

theorem StationWork.sampleStored (s : State) (i : Station) {tension : Nat} (bounded : tension ≤ Config.tensionMax)
    (saturated : Bool) : StationWork c i s (sampleStored s i tension saturated) :=
  (StationWork.modMu ⟨⟨fun h => ⟨bounded, h.2⟩, id, id, id⟩, fun old stands => ⟨old, stands, .refl old⟩, Iff.rfl⟩).trans
    (.modHanded _ i _)

theorem StationWork.goodSample (s : State) (i : Station) {tension : Nat} (bounded : tension ≤ Config.tensionMax)
    (saturated : Bool) : StationWork c i s (goodSample s i tension saturated) := by
  have stored := StationWork.sampleStored (c := c) s i bounded saturated
  rw [goodSample_eq]
  refine StationWork.trans ?_ ((StationWork.lccSample _ i).trans (.sampleOccurrence _ i tension))
  exact .ite (fun _ => stored.trans (.report _ i)) fun _ => stored

theorem tensionOf_le (z span raw : Nat) : (tensionOf z span raw).1 ≤ Config.tensionMax := by
  unfold tensionOf
  dsimp only
  split
  · exact Nat.zero_le _
  · split
    · exact Nat.le_refl _
    · next notOver => exact Nat.not_lt.mp notOver

theorem StationWork.takeRecord (s : State) (i : Station) (bytes : List Byte) : StationWork c i s (takeRecord s i bytes) := by
  unfold Machine.takeRecord
  split
  · exact .goodSample s i (tensionOf_le ..) _
  · exact .goodSample s i (Nat.le_refl _) _
  · exact .refl c i s

theorem StationWork.takeSampleBytes (s : State) (i : Station) (bytes : List Byte) :
    StationWork c i s (takeSampleBytes s i bytes) := by
  have held : StationWork c i s (s.modMu i fun m => { m with sampleHeld := ((s.station i).mu.sampleHeld ++ bytes).take 4 }) :=
    .modMuOther rfl rfl
  exact .ite (fun _ => held.trans (.takeRecord _ i _)) fun _ => held

theorem StationWork.loseStream (s : State) (i : Station) : StationWork c i s (loseStream s i) := by
  have lost : StationWork c i s ((s.modMu i fun m => { m with lost := true }).dropHanded i .sensorLost) :=
    (StationWork.modMuOther rfl rfl).trans (.modHanded _ i _)
  exact .ite (fun _ => lost.trans (.detect _ i _)) fun _ => lost.trans (.report _ i)

/-! ### Encoder, arm, payout -/

theorem StationWork.encoderMoves (s : State) (i : Station) (encA encB : Bool) :
    StationWork c i s (encoderMoves s i encA encB) := by
  have moved : StationWork c i s (s.modMu i fun m => { m with quarter := Quarter.ofLevels encA encB }) :=
    .modMuOther rfl rfl
  dsimp only [Machine.encoderMoves]
  split
  · next serving _ => exact moved.trans (.outwardCycle (moved.serving (by simpa [State.inService] using serving)))
  · exact moved.trans (.inwardCycle _ i)
  · exact moved

theorem StationWork.armEnds (s : State) (i : Station) : StationWork c i s (armEnds s i) :=
  (StationWork.modDose rfl rfl rfl rfl id).trans (.report _ i)

theorem StationWork.holdPayout (s : State) (i : Station) : StationWork c i s (holdPayout s i) :=
  .when fun paying => .enterLineOut (by simp [paying]) _

theorem StationWork.takeExhaustion (s : State) (i : Station) : StationWork c i s (takeExhaustion s i) := .takeHanded s i _

theorem StationWork.measureRelease (s : State) (i : Station) : StationWork c i s (measureRelease s i) := by
  unfold Machine.measureRelease
  split
  · exact .when fun _ => .modMuOther rfl rfl
  · exact .refl c i s

/-! ### Requests that keep a fault record -/

theorem StationWork.applyDeploy (serving : (s.station i).lcc.lineState ≠ .offline) (target mode : Nat) :
    StationWork c i s (applyDeploy s i target mode).1 := by
  dsimp only [Machine.applyDeploy]
  split
  · exact .refl c i s
  · split
    · exact .refl c i s
    · split
      · exact .refl c i s
      · have chosen : StationWork c i s (s.modLcc i fun l => { l with lockMode := lockModeOf mode }) :=
          .modDose rfl rfl rfl rfl id
        exact chosen.trans (.enterPayingOut (chosen.serving serving) target)

theorem StationWork.applyLock (serving : (s.station i).lcc.lineState ≠ .offline) : StationWork c i s (applyLock s i).1 := by
  dsimp only [Machine.applyLock]
  split
  · exact .enterLocking serving _
  · exact .refl c i s

theorem StationWork.applyRewind (serving : (s.station i).lcc.lineState ≠ .offline) :
    StationWork c i s (applyRewind s i).1 := by
  dsimp only [Machine.applyRewind]
  split
  case h_1 | h_2 => exact .enterRewinding serving _
  case h_3 => exact .refl c i s

theorem StationWork.applyHalt (serving : (s.station i).lcc.lineState ≠ .offline) : StationWork c i s (applyHalt s i).1 := by
  dsimp only [Machine.applyHalt]
  split
  case h_1 | h_2 => exact .enterLineOut serving _
  case h_3 => exact .refl c i s

theorem StationWork.consumeArm (s : State) (i : Station) : StationWork c i s (consumeArm s i) :=
  .when fun _ => (StationWork.modDose rfl rfl rfl rfl id).trans (.report _ i)

theorem StationWork.releaseEffect (serving : (s.station i).lcc.lineState ≠ .offline) (rewind : Bool) :
    StationWork c i s (releaseEffect s i rewind) := by
  unfold Machine.releaseEffect
  split
  case h_1 | h_2 => exact .startSequence s i _
  case h_3 => exact .ite (fun _ => .enterRewinding serving _) fun _ => .enterLineOut serving _
  case h_4 => exact .enterReleasing serving _ _

theorem StationWork.applyRelease (serving : (s.station i).lcc.lineState ≠ .offline) (rewind : Bool) :
    StationWork c i s (applyRelease s i rewind).1 := by
  dsimp only [Machine.applyRelease]
  split
  · exact .refl c i s
  · split
    · exact .refl c i s
    · have consumed := StationWork.consumeArm (c := c) s i
      exact consumed.trans (.releaseEffect (consumed.serving serving) rewind)

theorem StationWork.applyArmRelease (s : State) (i : Station) : StationWork c i s (applyArmRelease s i).1 := by
  dsimp only [Machine.applyArmRelease]
  split
  · have armed : StationWork c i s (s.modLcc i fun l =>
        { l with armExpiry := some (s.timeBase + BitVec.ofNat 32 s.settings.armWindow) }) := .modDose rfl rfl rfl rfl id
    exact .ite (fun _ => armed) fun _ => armed.trans (.report _ i)
  · exact .refl c i s

/-! ### Configurations -/

theorem StationBecomes.ceilingNow {a : StationState} (h : StationBecomes i s t a) : t.ceilingNow = s.ceilingNow := by
  rw [State.ceilingNow, h.berth.profiles]
  rfl

theorem StationBecomes.settings {a : StationState} (h : StationBecomes i s t a) : t.settings = s.settings :=
  congrArg BerthSettings.config h.berth.berth

/-- What a station has become may be said up to its drive. -/
theorem StationBecomes.of_same {a b : StationState} (h : StationBecomes i s t b) (same : a.SameButDrive b) :
    StationBecomes i s t a := ⟨same.trans h.station, h.others, h.berth, h.link⟩

/-- The effective profile recomputed at the station (R62). -/
theorem StationBecomes.recompute {a : StationState} (h : StationBecomes i s t a) :
    StationBecomes i s (recomputeEffective t i) (a.underCeiling s.ceilingNow) := by
  cases config : a.config with
  | none =>
    rw [recomputeEffective_none t i (h.station.config.trans config), StationState.underCeiling_none config]
    exact h
  | some d =>
    have becomes := recomputeEffective_becomes t i d (h.station.config.trans config)
    refine (h.trans becomes).of_same ?_
    rw [StationState.underCeiling_some config, ← h.ceilingNow]
    exact h.station.withLcc fun l => { l with effective := some (min d.requested t.ceilingNow) }

theorem StationOps.recompute (s : State) (i : Station) : StationOps i s (recomputeEffective s i) := by
  unfold recomputeEffective
  split
  · exact .refl
  · refine .ite .refl ?_
    have stored (e : ProfileNo) := StationOps.modLcc s i fun l => { l with effective := some e }
    exact .ite ((stored _).trans (StationOps.report _ i)) (stored _)

/-- A configuration stored with its effective profile keeps what a station must, where the count lies within the new one. -/
theorem StationState.Keeps.configured {a : StationState} (c : ProfileNo) {held : Option StationConfig}
    (held_isSome : held = none → a.config = none)
    (counts : a.countBounded → ({ a with config := held } : StationState).countBounded) :
    a.Keeps c (({ a with config := held } : StationState).underCeiling c) where
  measures := id
  counts := counts
  needs := id
  profile h := by
    cases held with
    | none => rwa [StationState.profileUnder, held_isSome rfl] at h
    | some d => rfl

theorem StationWork.applySelectProfile (ceiling : s.ceilingNow = c) (number : Nat) :
    StationWork c i s (applySelectProfile s i number).1 := by
  dsimp only [Machine.applySelectProfile]
  split
  · exact .refl c i s
  · have becomes := ((StationBecomes.refl i s).setConfig ((s.station i).config.map fun c =>
      { c with requested := profileNo number })).recompute
    rw [ceiling] at becomes
    refine becomes.work ((StationOps.setConfig s i _).trans (StationOps.recompute _ i)) ⟨.configured c (by simp) fun h => ?_,
      fun old stands => ⟨old, stands, .refl old⟩, Iff.rfl⟩
    cases config : (s.station i).config with
    | none => simpa [StationState.countBounded, StationState.cmax, config] using h
    | some d => simpa [StationState.countBounded, StationState.cmax, config, StationConfig.cmax] using h

/-- What a request that keeps fault records and service does at a station. -/
theorem StationWork.applyRequest (ceiling : s.ceilingNow = c) {r : StationRequest} (notClear : r ≠ .clearFault)
    (notConfigure : ∀ d, r ≠ .configureStation d) : StationWork c i s (applyRequest s i r).1 := by
  have guarded {result : Applied} (h : (s.station i).lcc.lineState ≠ .offline → StationWork c i s result.1) :
      StationWork c i s (inServiceOnly s i result).1 := by
    unfold inServiceOnly
    split
    · next serving => exact h (by simpa [State.inService] using serving)
    · exact .refl c i s
  cases r with
  | readStations => exact .refl c i s
  | configureStation d => exact absurd rfl (notConfigure d)
  | deploy target mode => exact guarded fun serving => .applyDeploy serving target mode
  | lock => exact guarded fun serving => .applyLock serving
  | release rewind => exact guarded fun serving => .applyRelease serving rewind
  | armRelease => exact guarded fun _ => .applyArmRelease s i
  | rewind => exact guarded fun serving => .applyRewind serving
  | halt => exact guarded fun serving => .applyHalt serving
  | selectProfile number => exact guarded fun _ => .applySelectProfile ceiling number
  | clearFault => exact absurd rfl notClear

end Requests

end Sys2Proof.Machine

/-!
PROOF. CLEAR_FAULT and CONFIGURE_STATION at a station (R9, R10, R32, R154, R157): what an adoption and a leaving of service make
of the station, and that these requests too keep of it what every step keeps, though not its fault record nor its service.
-/
namespace Sys2Proof.Machine

/-- Operations at station `i` that keep of the station what every step keeps. -/
structure StationEdit (c : ProfileNo) (i : Station) (s t : State) : Prop where
  ops : StationOps i s t
  keeps : (s.station i).Keeps c (t.station i)

section Edits

variable {c : ProfileNo} {i : Station} {s t u : State}

theorem StationWork.edit (h : StationWork c i s t) : StationEdit c i s t := ⟨h.ops, h.evolves.toKeeps⟩

theorem StationEdit.refl (c : ProfileNo) (i : Station) (s : State) : StationEdit c i s s := (StationWork.refl c i s).edit

theorem StationEdit.trans (h : StationEdit c i s t) (k : StationEdit c i t u) : StationEdit c i s u :=
  ⟨h.ops.trans k.ops, h.keeps.trans k.keeps⟩

/-- Operations that make the station this, which keeps what it must. -/
theorem StationBecomes.edit {a : StationState} (h : StationBecomes i s t a) (ops : StationOps i s t)
    (keeps : (s.station i).Keeps c a) : StationEdit c i s t :=
  ⟨ops, keeps.trans (StationState.Evolves.of_same h.station).toKeeps⟩

/-! ### CLEAR_FAULT -/

theorem clearRecord_becomes (s : State) (i : Station) :
    StationBecomes i s (clearRecord s i)
      { s.station i with lcc := { (s.station i).lcc with fault := none, overloadHeld := false } } := by
  have cleared := (StationBecomes.refl i s).modLcc fun l => { l with fault := none, overloadHeld := false }
  unfold clearRecord
  dsimp only
  split
  · exact cleared.reportStation i
  · exact cleared

theorem StationEdit.clearRecord (s : State) (i : Station) : StationEdit c i s (clearRecord s i) := by
  refine (clearRecord_becomes s i).edit ?_ ⟨id, id, id, id⟩
  have cleared := StationOps.modLcc s i fun l => { l with fault := none, overloadHeld := false }
  exact .ite (cleared.trans (StationOps.report _ i)) cleared

theorem StationWork.leaveFault (serving : (s.station i).lcc.lineState ≠ .offline) :
    StationWork c i s (leaveFault s i) := by
  have chosen : StationWork c i s (s.modLcc i fun l => { l with lockMode := .onRequest }) := .modDose rfl rfl rfl rfl id
  have stands := chosen.serving serving
  exact .ite (fun _ => chosen.trans (.enterStowed stands _ _)) fun _ =>
    .ite (fun _ => chosen.trans (.enterHolding stands _)) fun _ => chosen.trans (.enterLineOut stands _)

theorem StationEdit.applyClearFault (serving : (s.station i).lcc.lineState ≠ .offline) :
    StationEdit c i s (applyClearFault s i).1 := by
  dsimp only [Machine.applyClearFault]
  have cleared := StationEdit.clearRecord (c := c) s i
  have stands : ((Machine.clearRecord s i).station i).lcc.lineState ≠ LineState.offline := by
    rwa [(clearRecord_becomes s i).station.lcc]
  split
  · exact .refl c i s
  · split
    · exact .refl c i s
    · split
      · exact cleared.trans (StationWork.leaveFault stands).edit
      · exact cleared

/-! ### CONFIGURE_STATION in place -/

/-- The station with this configuration stored and its effective profile recomputed (R62, R154). -/
def StationState.configured (a : StationState) (d : StationConfig) (ceiling : ProfileNo) : StationState :=
  { a with config := some d, lcc := { a.lcc with effective := some (min d.requested ceiling) } }

theorem StationBecomes.storeConfig {a : StationState} (h : StationBecomes i s t a) (d : CarriedConfig) :
    StationBecomes i s (storeConfig t i d) (a.configured d.stored s.ceilingNow) :=
  (h.setConfig (some d.stored)).recompute

theorem StationOps.storeConfig (s : State) (i : Station) (d : CarriedConfig) : StationOps i s (storeConfig s i d) :=
  (StationOps.setConfig s i _).trans (StationOps.recompute _ i)

/-! ### Adoption -/

/-- The line state an adopted station enters, by its filtered sensors (R9). -/
def StationState.adoptionState (a : StationState) : LineState :=
  if a.filters.stowed.level then .stowed
  else if a.latch = .closed ∧ a.filters.headSeated.level = true then .holding else .lineOut

/-- The count an adopted station starts from: 0 at the stowed sensor, the estimate elsewhere (R9, R39). -/
def StationState.adoptionCount (a : StationState) (estimate : Nat) : Nat :=
  if a.filters.stowed.level then 0 else estimate

/-- The station with its context and measurement as an adoption finds them (R9, R36). -/
def StationState.adoptable (a : StationState) (timeout : Nat) : StationState :=
  { a with
    lcc := { a.lcc with lockMode := .onRequest, dose := 0, overloadHeld := false, armExpiry := none, fault := none,
                        current := none }
    mu := { a.mu with accumulator := 0, windowDue := false, age := 0, ageTimeout := timeout, lost := false, tension := 0,
                      saturated := false } }

theorem adoptionValues_becomes (s : State) (i : Station) :
    StationBecomes i s (adoptionValues s i) ((s.station i).adoptable s.settings.sampleTimeout) :=
  ((StationBecomes.refl i s).modLcc _).modMu (fun m => { m with
    accumulator := 0, windowDue := false, age := 0, ageTimeout := s.settings.sampleTimeout, lost := false, tension := 0,
    saturated := false }) fun _ _ => rfl

theorem adoptionValues_station (s : State) (i : Station) :
    (adoptionValues s i).station i = (s.station i).adoptable s.settings.sampleTimeout := by
  rw [adoptionValues, State.station_modMu_same, State.station_modLcc_same]
  rfl

/-- The station in the line state of its adoption, with its count (R9, R39). -/
def StationState.adoptionEntered (a : StationState) (estimate : Nat) : StationState :=
  { a.moved a.adoptionState .adopted with
    mu := { a.mu with count := a.adoptionCount estimate, referenced := a.filters.stowed.level, correction := none } }

theorem enterAdopted_becomes (s : State) (i : Station) (estimate : Nat) :
    StationBecomes i s (enterAdopted s i estimate) ((s.station i).adoptionEntered estimate) := by
  have estimated := (StationBecomes.refl i s).modMu (fun m => { m with count := estimate, referenced := false })
    fun _ _ => rfl
  have moves (new : LineState) := changeState_becomes (s.modMu i fun m => { m with count := estimate, referenced := false })
    i new .adopted
  simp only [State.station_modMu_same] at moves
  unfold enterAdopted StationState.adoptionEntered StationState.adoptionState StationState.adoptionCount
  dsimp only
  split
  · next stowed =>
    rw [stowed]
    exact enterStowed_becomes s i .adopted none
  · next away =>
    rw [Bool.eq_false_iff.mpr away]
    split
    · exact estimated.trans (moves .holding)
    · exact estimated.trans (moves .lineOut)

/-- The context of an adopted station, in the words of the statement (R9). -/
theorem StationState.adopted_lcc (a : StationState) (timeout estimate : Nat) (effective : Option ProfileNo) :
    { ((a.adoptable timeout).adoptionEntered estimate).lcc with effective := effective } =
      { (a.lcc.between a.adoptionState .adopted).slack with
        lockMode := .onRequest, fault := none, effective := effective } := by
  change { ((a.adoptable timeout).moved a.adoptionState .adopted).lcc with effective := effective } = _
  unfold StationState.adoptionState
  split
  · rfl
  · split
    · next closed =>
      simp [StationState.moved, StationState.adoptable, Lcc.moved, Lcc.between, Lcc.slack, LineState.clearsCurrent,
        LineState.isTensioned]
    · rfl

/-- What an adoption makes of the station (R9, R36, R39, R131). -/
theorem adopt_becomes (s : State) (i : Station) (d : CarriedConfig) :
    StationBecomes i s (adopt s i d)
      ((s.station i).adopted s d (profileNo d.requested) (s.station i).adoptionState
        ((s.station i).adoptionCount (d.estimate.getD 0)) (s.station i).filters.stowed.level) := by
  have valued := adoptionValues_becomes s i
  have entered := enterAdopted_becomes (adoptionValues s i) i (d.estimate.getD 0)
  rw [adoptionValues_station] at entered
  have stored := (valued.trans entered).storeConfig d
  unfold Machine.adopt watchConflict
  have watched := stored.modLpu fun l => { l with conflictTimer :=
    if (s.station i).latch = .conflict then .running 0 s.settings.lockConfirmTimeout else .absent }
  have latch := latch_of_same stored.station
  have settings := stored.settings
  dsimp only at latch ⊢
  rw [latch, settings]
  have lcc := (s.station i).adopted_lcc s.settings.sampleTimeout (d.estimate.getD 0)
    (some (min (profileNo d.requested) s.ceilingNow))
  refine watched.of_same ⟨lcc, rfl, rfl, rfl, rfl, rfl⟩

theorem StationOps.adopt (s : State) (i : Station) (d : CarriedConfig) : StationOps i s (adopt s i d) := by
  have valued : StationOps i s (adoptionValues s i) := by
    dsimp only [adoptionValues]
    exact (StationOps.modLcc s i _).trans (StationOps.modMu _ i _)
  dsimp only [Machine.adopt, watchConflict]
  refine ((valued.trans ?_).trans (StationOps.storeConfig _ i d)).trans (StationOps.modLpu _ i _)
  have estimated := StationOps.modMu (adoptionValues s i) i fun m =>
    { m with count := d.estimate.getD 0, referenced := false }
  exact StationOps.ite (StationOps.enterStowed _ i _ _)
    (StationOps.ite (estimated.trans (StationOps.changeState _ i _ _)) (estimated.trans (StationOps.changeState _ i _ _)))

theorem StationEdit.adopt (s : State) (i : Station) {d : CarriedConfig}
    (fits : ∀ e, d.estimate = some e → e ≤ cmaxOf d.countsPerRev d.layers) :
    StationEdit s.ceilingNow i s (adopt s i d) := by
  have estimated : d.estimate.getD 0 ≤ cmaxOf d.countsPerRev d.layers := by
    cases given : d.estimate with
    | none => exact Nat.zero_le _
    | some e => exact fits e given
  refine (adopt_becomes s i d).edit (StationOps.adopt s i d) ⟨fun _ => ⟨Nat.zero_le _, Nat.zero_le _⟩, fun _ => ?_,
    fun _ => ?_, fun _ => rfl⟩
  · constructor
    · change (s.station i).adoptionCount _ ≤ cmaxOf d.countsPerRev d.layers
      unfold StationState.adoptionCount
      split
      · exact Nat.zero_le _
      · exact estimated
    · change (s.station i).adoptionState = .stowed ∨ (s.station i).adoptionState = .offline →
        (s.station i).adoptionCount _ = 0
      unfold StationState.adoptionState StationState.adoptionCount
      split
      · exact fun _ => rfl
      · split <;> simp
  · change false = (s.station i).adoptionState.isMotion
    unfold StationState.adoptionState
    split
    · rfl
    · split <;> rfl

/-! ### Leaving service -/

/-- The measurement of a station that leaves service (R36). -/
def Mu.outOfService (m : Mu) : Mu :=
  { m with count := 0, referenced := false, accumulator := 0, speed := 0, windowDue := false, age := 0, lost := false,
           tension := 0, saturated := false, correction := none }

/-- The station out of service, before its configuration is stored (R10, R36, R131, R141). -/
def StationState.outOfService (a : StationState) : StationState :=
  { a with
    lcc := { (a.moved .offline .request).lcc with fault := none }
    mu := a.mu.outOfService
    lpu := { a.lpu with conflictTimer := .absent }
    handed := [] }

/-- The part with a station out of service, before its window passes and its edges are forgotten (R10, R36). -/
def serviceLeft (s : State) (i : Station) : State :=
  (((changeState s i .offline .request).modLcc i fun l => { l with fault := none }).modMu i Mu.outOfService).modLpu i
    fun l => { l with conflictTimer := .absent }

/-- The part with the window of a station that leaves service passed, and its handed detections gone (R107, R137). -/
def windowPassed (s : State) (i : Station) : State :=
  (if (s.station i).mu.windowDue then (serviceLeft s i).modDhu i Dhu.passWindow else serviceLeft s i).modHanded i fun _ => []

theorem leaveService_eq (s : State) (i : Station) (d : CarriedConfig) :
    leaveService s i d = storeConfig ((windowPassed s i).forgetEdges i) i d := rfl

theorem serviceLeft_becomes (s : State) (i : Station) :
    StationBecomes i s (serviceLeft s i) { (s.station i).outOfService with handed := (s.station i).handed } :=
  (((changeState_becomes s i .offline .request).modLcc _).modMu Mu.outOfService fun _ _ => rfl).modLpu _

theorem leaveService_becomes (s : State) (i : Station) (d : CarriedConfig) :
    StationBecomes i s (leaveService s i d) ((s.station i).outOfService.configured d.stored s.ceilingNow) := by
  have left := serviceLeft_becomes s i
  have passed : StationBecomes i s
      (if (s.station i).mu.windowDue then (serviceLeft s i).modDhu i Dhu.passWindow else serviceLeft s i)
      { (s.station i).outOfService with handed := (s.station i).handed } :=
    left.drive (DriveOnly.ite (DriveOnly.modDhu _ i _) (DriveOnly.refl _))
  rw [leaveService_eq]
  exact ((passed.modHanded fun _ => []).drive (CountsOnly.forgetEdges _ i).driveOnly).storeConfig d

theorem StationOps.serviceLeft (s : State) (i : Station) : StationOps i s (serviceLeft s i) :=
  (((StationOps.changeState s i _ _).trans (StationOps.modLcc _ i _)).trans (StationOps.modMu _ i _)).trans
    (StationOps.modLpu _ i _)

theorem StationOps.leaveService (s : State) (i : Station) (d : CarriedConfig) : StationOps i s (leaveService s i d) := by
  have left := StationOps.serviceLeft s i
  have passed := StationOps.ite (p := (s.station i).mu.windowDue = true)
    (left.trans (.single (.update _ { (Machine.serviceLeft s i).station i with
      dhu := ((Machine.serviceLeft s i).station i).dhu.passWindow } rfl rfl rfl))) left
  rw [leaveService_eq]
  exact ((passed.trans (StationOps.modHanded _ i _)).trans (.single (.forget _ i))).trans (StationOps.storeConfig _ i d)

theorem StationEdit.leaveService (s : State) (i : Station) (d : CarriedConfig) :
    StationEdit s.ceilingNow i s (leaveService s i d) := by
  refine (leaveService_becomes s i d).edit (StationOps.leaveService s i d)
    ⟨fun _ => ⟨Nat.zero_le _, ?_⟩, fun _ => ⟨Nat.zero_le _, fun _ => rfl⟩, fun _ => rfl, fun _ => rfl⟩
  exact Nat.zero_le _

/-! ### The request -/

theorem cmax_keepsOthers {d : CarriedConfig} {held : StationConfig} (h : d.keepsOthers held = true) :
    d.stored.cmax = held.cmax := by
  simp only [CarriedConfig.keepsOthers, Bool.and_eq_true, decide_eq_true_eq] at h
  simp [CarriedConfig.stored, StationConfig.cmax, h]

/-- A configuration that R156 takes leaves the count within its bounds, but where the station is adopted or leaves
service. -/
theorem StationEdit.storeConfig {d : CarriedConfig} (taken : (s.station i).configureWrongState d = false) :
    StationEdit s.ceilingNow i s (storeConfig s i d) := by
  refine ((StationBecomes.refl i s).storeConfig d).edit (StationOps.storeConfig s i d) ⟨id, fun h => ?_, id, fun _ => rfl⟩
  obtain ⟨within, still⟩ := h
  refine ⟨?_, still⟩
  change (s.station i).mu.count ≤ d.stored.cmax
  unfold StationState.configureWrongState at taken
  split at taken
  · next offline => exact (still (.inr offline)).trans_le (Nat.zero_le _)
  · next stowed => exact (still (.inl stowed)).trans_le (Nat.zero_le _)
  · split at taken
    · next held stored =>
      simp only [Bool.not_eq_false', Bool.and_eq_true] at taken
      obtain ⟨_, keeps⟩ := taken
      rw [cmax_keepsOthers keeps]
      simpa [StationState.cmax, stored] using within
    · cases taken

theorem CarriedConfig.inRange_estimate {d : CarriedConfig} (h : d.inRange = true) {e : Nat} (given : d.estimate = some e) :
    e ≤ cmaxOf d.countsPerRev d.layers := by
  simp only [CarriedConfig.inRange, given, Bool.and_eq_true, decide_eq_true_eq] at h
  obtain ⟨_, estimated⟩ := h
  exact estimated

theorem StationEdit.configureEffect {d : CarriedConfig} (taken : (s.station i).configureWrongState d = false)
    (valid : d.inRange = true) : StationEdit s.ceilingNow i s (configureEffect s i d) := by
  unfold Machine.configureEffect
  split
  · exact .adopt s i fun e given => d.inRange_estimate valid given
  · exact .leaveService s i d
  · exact .storeConfig taken

theorem StationEdit.applyConfigureStation (s : State) (i : Station) (d : CarriedConfig) :
    StationEdit s.ceilingNow i s (applyConfigureStation s i d).1 := by
  dsimp only [Machine.applyConfigureStation]
  split
  · exact .refl _ i s
  · next taken =>
    split
    · exact .refl _ i s
    · next valid =>
      split
      · exact .refl _ i s
      · split
        · exact .refl _ i s
        · exact .configureEffect (Bool.eq_false_iff.mpr taken) (by simpa using valid)

/-- What any station request does at a station. -/
theorem StationEdit.applyRequest (s : State) (i : Station) (r : StationRequest) :
    StationEdit s.ceilingNow i s (applyRequest s i r).1 := by
  cases r with
  | configureStation d => exact .applyConfigureStation s i d
  | clearFault =>
    dsimp only [Machine.applyRequest, inServiceOnly]
    split
    · next serving => exact .applyClearFault (by simpa [State.inService] using serving)
    · exact .refl _ i s
  | _ => exact (StationWork.applyRequest rfl (by simp) (by simp)).edit

end Edits

end Sys2Proof.Machine

/-!
PROOF. Under an asserted ZONE_HOLD nothing that the arbiter does sets a drum in motion or starts a slice (R89, R101, R112): a
grant leaves its drive in HELD, and a stop leaves an inactive drive inactive. So after every station has been stopped at a rise
of ZONE_HOLD no drive is active, whatever the stops that complete on the way bring about.
-/
namespace Sys2Proof.Machine

/-- No slice timer runs. -/
def State.slicesStill (s : State) : Prop := ∀ h ∈ s.dsa.holders, h.slice.isRunning = false

/-- A step under ZONE_HOLD makes no drive active and starts no slice. -/
structure ZoneStill (s t : State) : Prop where
  zone : t.zoneHold = s.zoneHold
  phases : s.zoneHold = true → ∀ j : Station, (s.station j).dhu.phase.isActive = false →
    (t.station j).dhu.phase.isActive = false
  slices : s.zoneHold = true → s.slicesStill → t.slicesStill

section ZoneStill

variable {i : Station} {s t u : State}

theorem ZoneStill.refl (s : State) : ZoneStill s s := ⟨rfl, fun _ _ => id, fun _ => id⟩

theorem ZoneStill.trans (h : ZoneStill s t) (k : ZoneStill t u) : ZoneStill s u where
  zone := k.zone.trans h.zone
  phases held j still := k.phases (h.zone.trans held) j (h.phases held j still)
  slices held still := k.slices (h.zone.trans held) (h.slices held still)

theorem ZoneStill.ite {p : Prop} [Decidable p] (h : p → ZoneStill s t) (k : ¬p → ZoneStill s u) :
    ZoneStill s (if p then t else u) := by
  split
  · next holds => exact h holds
  · next fails => exact k fails

theorem CountsOnly.zoneStill (h : CountsOnly s t) : ZoneStill s t where
  zone := congrArg Filter.level h.berth.zoneFilter
  phases _ j still := by rwa [h.station j]
  slices _ still := by rwa [State.slicesStill, h.dsa]

/-- An update of the arbiter that adds no running slice. -/
theorem ZoneStill.modDsa {f : Dsa → Dsa} (slices : s.slicesStill → (s.modDsa f).slicesStill) :
    ZoneStill s (s.modDsa f) := ⟨rfl, fun _ _ => id, fun _ => slices⟩

/-- A DHU's operation that leaves the arbiter, and its own drive inactive if it was. -/
theorem DhuAct.zoneStill (h : DhuAct i s t) (dsa : t.dsa = s.dsa)
    (own : s.zoneHold = true → (s.station i).dhu.phase.isActive = false → (t.station i).dhu.phase.isActive = false) :
    ZoneStill s t where
  zone := h.zoneHold
  phases held j still := by
    by_cases e : j = i
    · subst e
      exact own held still
    · rwa [h.others j e]
  slices _ still := by rwa [State.slicesStill, dsa]

/-! ### Stops -/

theorem becomeIdle_phase (s : State) (i : Station) : ((becomeIdle s i).station i).dhu.phase = .idle := by
  simp [becomeIdle]

/-- The end of SETTING under zone hold leaves the drive in IDLE or HELD, and the arbiter as it was (R108). -/
theorem endSetting_underZone (held : s.zoneHold = true) :
    ((endSetting s i).station i).dhu.phase.isActive = false ∧ (endSetting s i).dsa = s.dsa := by
  unfold endSetting
  split
  · simp [held, DrivePhase.isActive]
  · exact ⟨by rw [becomeIdle_phase]; rfl, rfl⟩

/-- SETTING, entered under zone hold, is not active (R108, R112). -/
theorem enterSetting_underZone (held : s.zoneHold = true) :
    ((enterSetting s i).station i).dhu.phase.isActive = false ∧ (enterSetting s i).dsa = s.dsa := by
  dsimp only [enterSetting]
  split
  · simp [DrivePhase.isActive]
  · exact endSetting_underZone held

theorem ZoneStill.normalStop (s : State) (i : Station) : ZoneStill s (normalStop s i) := by
  refine (DhuAct.normalStop s i).zoneStill (normalStop_dsa s i) fun _ still => ?_
  unfold Machine.normalStop
  split
  · exact still
  · split
    case h_1 => exact still
    case h_2 | h_7 => rw [becomeIdle_phase]; rfl
    case h_6 => simpa using still
    all_goals next active => simp [active, DrivePhase.isActive] at still

/-- A rise of ZONE_HOLD leaves its station's drive inactive (R112). -/
theorem zoneStop_still (held : s.zoneHold = true) :
    ((zoneStop s i).station i).dhu.phase.isActive = false ∧ (zoneStop s i).dsa = s.dsa := by
  unfold zoneStop
  split
  case h_5 rest | h_6 rest | h_7 rest => exact ⟨by rw [rest]; rfl, rfl⟩
  all_goals exact enterSetting_underZone held

/-! ### The arbiter -/

theorem ZoneStill.grantHead (s : State) : ZoneStill s (grantHead s) := by
  cases hw : s.dsa.waiting with
  | nil => simpa [Machine.grantHead, hw] using ZoneStill.refl s
  | cons e rest =>
    cases hn : (s.station e.station).lcc.need with
    | none => simpa [Machine.grantHead, hw, hn] using ZoneStill.modDsa (s := s) (f := fun d => { d with waiting := rest }) id
    | some need =>
      rw [grantHead_eq hw hn]
      have act := DhuAct.beginGrant (s.modDsa (Dsa.grantTo · e rest)) e.station need
      have granted : ZoneStill s (beginGrant (s.modDsa (Dsa.grantTo · e rest)) e.station need) := by
        refine ⟨act.zoneHold, fun held j still => ?_, fun held still => ?_⟩
        · by_cases own : j = e.station
          · subst own
            rw [beginGrant_dhu, State.granted, if_pos (show (s.modDsa _).zoneHold = true from held)]
            rfl
          · rwa [act.others j own]
        · have waits : ¬(s.modDsa (Dsa.grantTo · e rest)).runsAtGrant e.station := fun runs =>
            absurd (held.symm.trans runs.1) (by simp)
          rw [State.slicesStill, beginGrant_dsa, if_neg waits]
          intro h hm
          rcases List.mem_append.mp hm with old | new
          · exact still h old
          · rw [List.mem_singleton.mp new]
            rfl
      exact granted.trans (CountsOnly.occurrence _ _ _).zoneStill

theorem ZoneStill.grantRule (n : Nat) : ∀ s : State, ZoneStill s (grantRule n s) := by
  induction n with
  | zero => exact ZoneStill.refl
  | succ n ih => exact fun s => .ite (fun _ => (ZoneStill.grantHead s).trans (ih _)) fun _ => .refl s

theorem ZoneStill.freeSlot (s : State) (i : Station) : ZoneStill s (freeSlot s i) :=
  .modDsa fun still h hm => still h (List.mem_filter.mp hm).1

theorem ZoneStill.rejoin (s : State) (i : Station) : ZoneStill s (rejoin s i) := by
  unfold Machine.rejoin
  split
  · exact .modDsa id
  · exact .refl s

theorem ZoneStill.beginYield (s : State) (i : Station) : ZoneStill s (beginYield s i) := by
  have yielding : ZoneStill s (s.modHolder i (Holder.stopAs .yielding)) := by
    refine .modDsa fun still h hm => ?_
    obtain ⟨k, hk, rfl⟩ := List.mem_map.mp hm
    split
    · rfl
    · exact still k hk
  exact (yielding.trans (CountsOnly.occurrence _ .slotYield i).zoneStill).trans (.normalStop _ i)

theorem ZoneStill.preempt (n : Nat) : ∀ s : State, ZoneStill s (preempt n s) := by
  induction n with
  | zero => exact ZoneStill.refl
  | succ n ih =>
    intro s
    dsimp only [Machine.preempt]
    split
    · exact .refl s
    · next yielder forStation _ =>
      have yields : ZoneStill s (Machine.beginYield (s.modDsa fun d => { d with
          yields := d.yields ++ [{ yielder := yielder, forStation := forStation, lapsed := false }] }) yielder) :=
        (ZoneStill.modDsa id).trans (.beginYield _ yielder)
      exact .ite (fun _ => (((yields.trans (.freeSlot _ yielder)).trans (.rejoin _ yielder)).trans
        (.grantRule _ _)).trans (ih _)) fun _ => yields

theorem ZoneStill.arbitrate (s : State) : ZoneStill s (arbitrate s) := (ZoneStill.grantRule _ s).trans (.preempt 13 _)

theorem ZoneStill.settleStop (s : State) (i : Station) : ZoneStill s (settleStop s i) :=
  .ite (fun _ => ((ZoneStill.freeSlot s i).trans (.rejoin _ i)).trans (.arbitrate _)) fun _ => .refl s

/-! ### A rise of ZONE_HOLD -/

/-- One station's part in a rise of ZONE_HOLD (R112). -/
def zoneStops (s : State) (i : Station) : State := settleStop (zoneStop s i) i

theorem ZoneStill.zoneStops (s : State) (i : Station) : ZoneStill s (zoneStops s i) := by
  refine ZoneStill.trans ?_ (.settleStop _ i)
  by_cases held : s.zoneHold = true
  · exact (DhuAct.zoneStop s i).zoneStill (zoneStop_still held).2 fun _ _ => (zoneStop_still held).1
  · exact ⟨(DhuAct.zoneStop s i).zoneHold, fun k => absurd k held, fun k => absurd k held⟩

/-- A station that has been stopped is at rest, and stays so. -/
theorem zoneStops_still (held : s.zoneHold = true) : ((zoneStops s i).station i).dhu.phase.isActive = false :=
  (ZoneStill.settleStop (zoneStop s i) i).phases ((DhuAct.zoneStop s i).zoneHold.trans held) i (zoneStop_still held).1

theorem ZoneStill.foldl {f : State → Station → State} (h : ∀ s i, ZoneStill s (f s i)) (l : List Station) :
    ∀ s : State, ZoneStill s (l.foldl f s) := by
  induction l with
  | nil => exact ZoneStill.refl
  | cons i l ih => exact fun s => (h s i).trans (ih _)

/-- The stations of a list are at rest once each has been stopped. -/
theorem foldl_zoneStops_still (l : List Station) : ∀ {s : State}, s.zoneHold = true → ∀ j ∈ l,
    ((l.foldl zoneStops s).station j).dhu.phase.isActive = false := by
  induction l with
  | nil => simp
  | cons i l ih =>
    intro s held j hj
    have zone := (ZoneStill.zoneStops s i).zone.trans held
    rcases List.mem_cons.mp hj with rfl | later
    · exact (ZoneStill.foldl .zoneStops l _).phases zone j (zoneStops_still held)
    · exact ih zone j later

end ZoneStill

end Sys2Proof.Machine

/-!
PROOF. What every command but a reset keeps, gathered in one relation between the state before and after (`Kept`), and with it
what every command but a reset, CLEAR_FAULT and CONFIGURE_STATION keeps (`Course`). Here the events of the stations, of the
drives, of the inputs and of the link, and the tick.
-/
namespace Sys2Proof.Machine

/-- What every step but a reset keeps (R3, R38, R47, R62, R74, R82, R84, R87, R100, R163 to R165, R170, R173, R182). -/
structure Kept (s t : State) : Prop where
  measures : s.measuresBounded → t.measuresBounded
  counts : s.countsBounded → t.countsBounded
  profiles : s.profilesEffective → t.profilesEffective
  needs : s.needsMatch → t.needsMatch
  safe : s.driveSafe true → t.driveSafe true
  settled : s.dsa.settled → t.dsa.settled
  locked : s.lockKept → t.lockKept
  snapshots : s.berth.locked = true → t.berth.locked = true ∧ t.profiles.snapshot = s.profiles.snapshot ∧
    t.berth.thresholdSnapshot = s.berth.thresholdSnapshot
  inbound : s.inboundBounded → t.inboundBounded
  keys : KeysKept s t
  fits : s.requestFits → t.requestFits

/-- What every step keeps besides but a reset, CLEAR_FAULT and CONFIGURE_STATION: each fault record, and each station in
service or out of it (R8, R30, R141). -/
structure Course (s t : State) : Prop extends Kept s t where
  lasts : ∀ i : Station, (s.station i).Lasts (t.station i)

section Course

variable {i : Station} {s t u : State}

theorem StationState.Lasts.refl (a : StationState) : a.Lasts a := (StationState.Evolves.refl 0 a).toLasts

theorem StationState.Lasts.trans {a b d : StationState} (h : a.Lasts b) (k : b.Lasts d) : a.Lasts d where
  record old stands := by
    obtain ⟨mid, midStands, first⟩ := h.record old stands
    obtain ⟨new, newStands, second⟩ := k.record mid midStands
    exact ⟨new, newStands, first.trans second⟩
  service := k.service.trans h.service

theorem Kept.trans (h : Kept s t) (k : Kept t u) : Kept s u where
  measures := k.measures ∘ h.measures
  counts := k.counts ∘ h.counts
  profiles := k.profiles ∘ h.profiles
  needs := k.needs ∘ h.needs
  safe := k.safe ∘ h.safe
  settled := k.settled ∘ h.settled
  locked := k.locked ∘ h.locked
  snapshots set := by
    obtain ⟨stays, snapshot, threshold⟩ := h.snapshots set
    obtain ⟨stays', snapshot', threshold'⟩ := k.snapshots stays
    exact ⟨stays', snapshot'.trans snapshot, threshold'.trans threshold⟩
  inbound := k.inbound ∘ h.inbound
  keys := h.keys.trans k.keys
  fits := k.fits ∘ h.fits

theorem Course.trans (h : Course s t) (k : Course t u) : Course s u :=
  ⟨h.toKept.trans k.toKept, fun i => (h.lasts i).trans (k.lasts i)⟩

theorem Course.ite {p : Prop} [Decidable p] (h : p → Course s t) (k : ¬p → Course s u) : Course s (if p then t else u) := by
  split
  · next holds => exact h holds
  · next fails => exact k fails

/-- A step that leaves the Profile Table and the berth settings, and keeps the stations, the drives, the arbiter and the
link in order. -/
theorem Kept.of_stations (stations : ∀ i : Station, (s.station i).Keeps s.ceilingNow (t.station i))
    (profiles : t.profiles = s.profiles) (berth : t.berth = s.berth) (safe : s.driveSafe true → t.driveSafe true)
    (settled : s.dsa.settled → t.dsa.settled) (inbound : s.inboundBounded → t.inboundBounded) (keys : KeysKept s t)
    (fits : s.requestFits → t.requestFits) : Kept s t where
  measures h j := (stations j).measures (h j)
  counts h j := (stations j).counts (h j)
  profiles h j := by
    rw [State.ceilingNow, profiles]
    exact (stations j).profile (h j)
  needs h j := (stations j).needs (h j)
  safe := safe
  settled := settled
  locked h := by
    unfold State.lockKept State.settings State.profile
    rw [profiles, berth]
    exact h
  snapshots set := by
    rw [profiles, berth]
    exact ⟨set, rfl, rfl⟩
  inbound := inbound
  keys := keys
  fits := fits

theorem LinkKept.inbound (h : LinkKept s t) (k : s.inboundBounded) : t.inboundBounded := by
  unfold State.inboundBounded
  rw [h]
  exact k

theorem LinkKept.fits (h : LinkKept s t) (k : s.requestFits) : t.requestFits := by
  unfold State.requestFits
  rw [h]
  exact k

/-- Operations at a station that keep it keep all that a step keeps. -/
theorem StationEdit.kept (h : StationEdit s.ceilingNow i s t) : Kept s t := by
  have ops := h.ops.keeps
  refine Kept.of_stations (fun j => ?_) ops.beside.berth.profiles ops.beside.berth.berth ops.safe ops.settled
    ops.link.inbound ops.keys ops.link.fits
  by_cases own : j = i
  · rw [own]
    exact h.keeps
  · exact (StationState.Evolves.of_same (ops.beside.others j own)).toKeeps

theorem StationWork.course (h : StationWork s.ceilingNow i s t) : Course s t := by
  refine ⟨h.edit.kept, fun j => ?_⟩
  by_cases own : j = i
  · rw [own]
    exact h.evolves.toLasts
  · exact (StationState.Evolves.of_same (c := s.ceilingNow) (h.ops.keeps.beside.others j own)).toLasts

theorem Course.refl (s : State) : Course s s := (StationWork.refl s.ceilingNow 0 s).course

/-- Drive work keeps what a step keeps if the drives stay safe and the arbiter in order. -/
theorem DriveOnly.course (h : DriveOnly s t) (keys : KeysKept s t) (safe : s.driveSafe true → t.driveSafe true)
    (settled : s.dsa.settled → t.dsa.settled) : Course s t where
  toKept := Kept.of_stations (fun j => (StationState.Evolves.of_same (h.stations j)).toKeeps) h.berth.profiles h.berth.berth
    safe settled h.link.inbound keys h.link.fits
  lasts j := (StationState.Evolves.of_same (c := s.ceilingNow) (h.stations j)).toLasts

theorem CountsOnly.course (h : CountsOnly s t) : Course s t :=
  h.driveOnly.course h.keys h.driveSafe fun k => by rwa [h.dsa]

/-- A DHU's operation that leaves its own drive safe, and at rest as before. -/
theorem DhuAct.course (act : DhuAct i s t) (frame : DriveOnly s t) (link : t.link = s.link)
    (safe : s.driveSafe true → ((t.station i).dhu.phase = .idle ↔ (s.station i).dhu.phase = .idle) ∧
      (t.station i).dhu.obeys s.zoneHold) : Course s t :=
  frame.course (KeysKept.of_link link) (fun h => act.driveSafe h (safe h).1 (safe h).2) act.settled

/-- A DHU's operation that may end its stop, with the completion of the stop (R88). -/
theorem DhuAct.settled_course (act : DhuAct i s t) (frame : DriveOnly s t) (link : t.link = s.link)
    (rests : (s.station i).dhu.phase = .idle → (t.station i).dhu.phase = .idle)
    (obeys : s.driveSafe true → (t.station i).dhu.obeys s.zoneHold) : Course s (settleStop t i) :=
  (frame.trans (DriveOnly.settleStop t i)).course (KeysKept.trans (KeysKept.of_link link) (KeysKept.settleStop t i))
    (fun h => (act.driveSafeBut h rests (obeys h)).settleStop) fun k => settleStop_settled (act.settled k)

/-- A step that leaves the stations, the berth's closed values, the arbiter and ZONE_HOLD, and keeps the link in order. -/
theorem Course.beside (stations : t.stations = s.stations) (profiles : t.profiles = s.profiles) (berth : t.berth = s.berth)
    (dsa : t.dsa = s.dsa) (zone : t.zoneHold = s.zoneHold) (inbound : s.inboundBounded → t.inboundBounded)
    (keys : KeysKept s t) (fits : s.requestFits → t.requestFits) : Course s t := by
  have same (j : Station) : t.station j = s.station j := congrArg (Vector.get · j) stations
  refine ⟨Kept.of_stations (fun j => ?_) profiles berth (fun h j => ?_) (fun k => ?_) inbound keys fits, fun j => ?_⟩
  · rw [same j]
    exact .refl _ _
  · exact (h j).of_same (by rw [dsa]) (by rw [same j]) zone
  · rwa [dsa]
  · rw [same j]
    exact .refl _

/-! ### Drives -/

theorem State.driveSafe.demand_eq_zero (h : s.driveSafe true) (r : (s.station i).dhu.phase ≠ .running)
    (k : (s.station i).dhu.phase ≠ .stopping) : (s.station i).dhu.demand = 0 := (h i).2.demand_eq_zero r k

/-- A drive that is active shows ZONE_HOLD deasserted (R112). -/
theorem State.driveSafe.zone_clear (h : s.driveSafe true) (active : (s.station i).dhu.phase.isActive = true) :
    s.zoneHold = false := by
  by_contra held
  have still := (h i).2.2 (by simpa using held)
  rw [active] at still
  cases still

theorem enterRunning_obeys (clear : s.zoneHold = false) :
    ((enterRunning s i).station i).dhu.obeys s.zoneHold ∧ ((enterRunning s i).station i).dhu.phase ≠ .idle := by
  rw [clear]
  simp [enterRunning, State.modHolder, Dhu.obeys, Dhu.demandSafe]

theorem enterBrakeWait_obeys (clear : s.zoneHold = false) (demand : (s.station i).dhu.demand = 0) :
    ((enterBrakeWait s i).station i).dhu.obeys s.zoneHold ∧ ((enterBrakeWait s i).station i).dhu.phase ≠ .idle := by
  rw [clear]
  cases hb : (s.station i).filters.brakeOpen.level <;>
    simp [enterBrakeWait, enterRunning, State.modHolder, hb, Dhu.obeys, Dhu.demandSafe, demand]

theorem Course.enterRunning (waits : (s.station i).dhu.phase = .brakeWait) : Course s (enterRunning s i) := by
  refine (DhuAct.enterRunning s i).course (DriveOnly.enterRunning s i) rfl fun h => ?_
  obtain ⟨obeys, moving⟩ := enterRunning_obeys (i := i) (h.zone_clear (i := i) (by rw [waits]; rfl))
  exact ⟨iff_of_false moving (by simp [waits]), obeys⟩

theorem Course.brakeRises (s : State) (i : Station) : Course s (brakeRises s i) := by
  have measured := StationWork.measureRelease (c := s.ceilingNow) s i
  refine .ite (fun waits => measured.course.trans (.enterRunning ?_)) fun _ => measured.course
  rw [← waits]
  unfold measureRelease
  split
  · split <;> simp
  · rfl

theorem Course.brakeFalls (s : State) (i : Station) : Course s (brakeFalls s i) := by
  refine .ite (fun setting => ?_) fun _ => .refl s
  exact (DhuAct.endSetting s i).settled_course (DriveOnly.endSetting s i) (endSetting_link s i)
    (fun idle => absurd (setting.symm.trans idle) (by simp))
    fun h => endSetting_obeys (h.demand_eq_zero (by simp [setting]) (by simp [setting]))

theorem Course.driveRises (s : State) (i : Station) : Course s (driveRises s i) := by
  refine .ite (fun waits => ?_) fun _ => .refl s
  refine (DhuAct.enterBrakeWait s i).course (DriveOnly.enterBrakeWait s i) (enterBrakeWait_link s i) fun h => ?_
  obtain ⟨obeys, moving⟩ := enterBrakeWait_obeys (i := i) (h.zone_clear (i := i) (by rw [waits]; rfl))
    (h.demand_eq_zero (by simp [waits]) (by simp [waits]))
  exact ⟨iff_of_false moving (by simp [waits]), obeys⟩

theorem Course.driveFalls (s : State) (i : Station) : Course s (driveFalls s i) := by
  unfold Machine.driveFalls
  split
  case h_4 => exact .refl s
  all_goals exact (StationWork.detect s i _).course

theorem Course.brakeSetExpires (s : State) (i : Station) : Course s (brakeSetExpires s i) := by
  have expired : StationWork s.ceilingNow i s (s.modDhu i fun d => { d with timer := .expired }) :=
    ⟨.single (.update s _ rfl rfl rfl), by
      rw [State.station_modDhu_same]
      exact .of_fields rfl rfl rfl rfl rfl (Nat.le_refl _) (.inl ⟨rfl, rfl⟩)⟩
  have detected := expired.trans (.detect _ i .brakeNotSet)
  refine .ite (fun _ => detected.course.trans ?_) fun _ => detected.course
  exact (DhuAct.becomeIdle _ i).settled_course (DriveOnly.becomeIdle _ i) (becomeIdle_link _ i)
    (fun _ => becomeIdle_phase _ i) fun _ => becomeIdle_obeys _

theorem beginYield_settled (h : s.dsa.settled) (i : Station) : (beginYield s i).dsa.settled := by
  obtain ⟨slots, waiting, length⟩ := beginYield_counts s i
  exact ⟨h.1.of_same slots waiting length, h.2.of_same slots waiting length⟩

theorem Course.expireSlice (s : State) (h : Holder) : Course s (expireSlice s h) := by
  refine .ite (fun _ => ?_) fun _ => ?_
  · exact ((DriveOnly.beginYield s h.station).trans (DriveOnly.settleStop _ h.station)).course
      (KeysKept.trans (KeysKept.beginYield s h.station) (KeysKept.settleStop _ h.station))
      (fun safe => (safe.beginYield h.station).settleStop)
      fun k => settleStop_settled (beginYield_settled k h.station)
  · have act := DhuAct.modHolder s h.station h.station (f := fun k => { k with slice := .running s.settings.sliceTime })
      fun _ => rfl
    exact (DriveOnly.modHolder s h.station _).course (KeysKept.of_link rfl) (fun safe => safe.modHolder _ fun _ => rfl)
      act.settled

/-! ### Window ends -/

theorem dhuWindowEnd_link (s : State) (i : Station) : (dhuWindowEnd s i).link = s.link := by
  unfold dhuWindowEnd
  rw [State.modDhu_link]
  split
  case h_1 => rfl
  case h_2 =>
    dsimp only [windowStopping]
    split
    · exact enterSetting_link s i
    · split <;> rfl
  all_goals rfl

theorem dhuWindowEnd_obeys (h : s.driveSafe true) : ((dhuWindowEnd s i).station i).dhu.obeys s.zoneHold ∧
    ((s.station i).dhu.phase = .idle → ((dhuWindowEnd s i).station i).dhu.phase = .idle) := by
  have passes (t : State) : (t.station i).dhu.obeys s.zoneHold →
      ((t.modDhu i Dhu.passWindow).station i).dhu.obeys s.zoneHold := by
    intro k
    rw [State.station_modDhu_same]
    exact k
  have obeys := (h i).2
  unfold dhuWindowEnd
  refine ⟨passes _ ?_, ?_⟩
  · split
    case h_1 running =>
      have clear := h.zone_clear (i := i) (by rw [running]; rfl)
      rw [clear]
      exact Dhu.obeys_clear (.inr (.inl (by simpa [windowRunning] using running)))
    case h_2 stopping =>
      dsimp only [windowStopping]
      split
      · exact enterSetting_obeys
      · split
        · have clear := h.zone_clear (i := i) (by rw [stopping]; rfl)
          rw [clear]
          exact Dhu.obeys_clear (.inr (.inr (by simpa using stopping)))
        · exact obeys
    all_goals exact obeys
  · intro idle
    simp [idle, Dhu.passWindow]

theorem Course.windowEnds (s : State) (i : Station) : Course s (windowEnds s i) := by
  have published : StationWork s.ceilingNow i s (s.modMu i fun m =>
      { m with speed := speedOf m.accumulator, accumulator := 0, windowDue := false }) := .modMuOther rfl rfl
  refine published.course.trans ?_
  refine (DriveOnly.trans (DriveOnly.dhuWindowEnd _ i) (DriveOnly.settleStop _ i)).course
    (KeysKept.trans (KeysKept.of_link (dhuWindowEnd_link _ i)) (KeysKept.settleStop _ i)) (fun h => ?_)
    fun k => settleStop_settled ((DhuAct.dhuWindowEnd _ i).settled k)
  obtain ⟨obeys, rests⟩ := dhuWindowEnd_obeys (i := i) h
  exact ((DhuAct.dhuWindowEnd _ i).driveSafeBut h rests obeys).settleStop

end Course

end Sys2Proof.Machine

/-!
PROOF. The discrete inputs, the tick and the link events keep what every step keeps (R55, R88, R102, R108, R112, R113, R133, R169,
R170, R183, R188).
-/
namespace Sys2Proof.Machine

section Inputs

variable {i : Station} {s t u : State}

/-! ### Filters -/

theorem Course.modFilters (s : State) (i : Station) (f : Filters → Filters) : Course s (s.modFilters i f) := by
  have evolves (j : Station) : (s.station j).Evolves s.ceilingNow ((s.modFilters i f).station j) := by
    by_cases own : j = i
    · subst own
      rw [State.station_modFilters_same]
      exact .of_fields rfl rfl rfl rfl rfl (Nat.le_refl _) (.inl ⟨rfl, rfl⟩)
    · rw [State.station_modFilters_ne _ _ own]
      exact .refl _ _
  exact ⟨Kept.of_stations (fun j => (evolves j).toKeeps) rfl rfl (fun h => h.setStation rfl rfl) id id id id,
    fun j => (evolves j).toLasts⟩

/-- A filter of ZONE_HOLD whose level stands. -/
theorem Course.zoneFilter (s : State) {x : Filter} (level : x.level = s.zoneFilter.level) :
    Course s { s with zoneFilter := x } := .beside rfl rfl rfl rfl level id id id

theorem Filter.rawEdge_level (f : Filter) (level : Bool) (width : Nat) : (f.rawEdge level width).level = f.level := by
  unfold Filter.rawEdge
  split
  · rfl
  · split <;> rfl

/-! ### ZONE_HOLD -/

theorem DriveOnly.foldl {f : State → Station → State} (h : ∀ s i, DriveOnly s (f s i)) (l : List Station) :
    ∀ s : State, DriveOnly s (l.foldl f s) := by
  induction l with
  | nil => exact DriveOnly.refl
  | cons i l ih => exact fun s => (h s i).trans (ih _)

/-- The part with the filtered ZONE_HOLD at this level (R133). -/
def State.zoneSet (s : State) (level : Bool) : State := { s with zoneFilter := { level := level, held := none } }

theorem DriveOnly.mapSlices (s : State) (f : SliceTimer → SliceTimer) : DriveOnly s (s.mapSlices f) :=
  DriveOnly.modDsa s _ rfl

theorem State.driveSafe.mapSlices {strict : Bool} (h : s.driveSafe strict) (f : SliceTimer → SliceTimer) :
    (s.mapSlices f).driveSafe strict := fun j =>
  (h j).of_same (by simp [State.mapSlices, Dsa.holds, Function.comp_def]) rfl rfl

theorem mapSlices_settled (h : s.dsa.settled) (f : SliceTimer → SliceTimer) : (s.mapSlices f).dsa.settled :=
  ⟨h.1.of_same rfl rfl (by simp [State.mapSlices]), h.2.of_same rfl rfl (by simp [State.mapSlices])⟩

theorem zoneStop_link (s : State) (i : Station) : (zoneStop s i).link = s.link := by
  unfold zoneStop
  split <;> simp

theorem zoneStops_keys (s : State) (i : Station) : KeysKept s (zoneStops s i) :=
  KeysKept.trans (KeysKept.of_link (zoneStop_link s i)) (KeysKept.settleStop _ i)

theorem zoneStops_settled (h : s.dsa.settled) (i : Station) : (zoneStops s i).dsa.settled :=
  settleStop_settled ((DhuAct.zoneStop s i).settled h)

/-- Stopping a drum at a rise of ZONE_HOLD keeps slots and phases matched and every demand safe (R112). -/
theorem State.driveSafe.zoneStops (h : s.driveSafe false) (i : Station) : (zoneStops s i).driveSafe false := by
  refine ((DhuAct.zoneStop s i).driveSafeBut h (fun idle => ?_) ?_).settleStop
  · simp [zoneStop, idle]
  · unfold zoneStop
    split
    case h_5 | h_6 | h_7 => exact (h i).2
    all_goals exact enterSetting_obeys.weaken false

theorem zoneRises_eq (s : State) :
    zoneRises s = allStations.foldl zoneStops ((s.mapSlices SliceTimer.pause).makePending .zone) := rfl

/-- A property that every turn keeps holds after all of them. -/
theorem foldl_keeps {α : Type} {P : State → Prop} {f : State → α → State} (h : ∀ s a, P s → P (f s a)) (l : List α)
    {s : State} (start : P s) : P (l.foldl f s) :=
  List.foldlRecOn l f start fun t k a _ => h t a k

/-- A rise of ZONE_HOLD makes every drive safe again (R100, R112). -/
theorem zoneRises_driveSafe (h : s.driveSafe false) (held : s.zoneHold = true) : (zoneRises s).driveSafe true := by
  have zone := (CountsOnly.makePending (s.mapSlices SliceTimer.pause) .zone).zoneStill.zone.trans held
  have safe : (zoneRises s).driveSafe false := by
    rw [zoneRises_eq]
    exact foldl_keeps (P := fun u => u.driveSafe false) (fun _ j k => k.zoneStops j) allStations
      ((CountsOnly.makePending _ .zone).driveSafe (h.mapSlices SliceTimer.pause))
  rw [zoneRises_eq] at safe ⊢
  intro j
  obtain ⟨slots, demand, _⟩ := safe j
  exact ⟨slots, demand, fun _ => foldl_zoneStops_still allStations zone j (mem_allStations j)⟩

theorem zoneRises_frame (s : State) : DriveOnly s (zoneRises s) := by
  rw [zoneRises_eq]
  exact ((DriveOnly.mapSlices s _).trans (CountsOnly.makePending _ .zone).driveOnly).trans
    (DriveOnly.foldl (fun s i => (DriveOnly.zoneStop s i).trans (DriveOnly.settleStop _ i)) allStations _)

theorem zoneRises_keys (s : State) : KeysKept s (zoneRises s) := by
  rw [zoneRises_eq]
  exact KeysKept.trans (KeysKept.of_link rfl) (KeysKept.trans (CountsOnly.makePending (s.mapSlices SliceTimer.pause) .zone).keys
    (foldl_keeps (P := KeysKept _) (fun u j k => k.trans (zoneStops_keys u j)) allStations id))

theorem zoneRises_settled (h : s.dsa.settled) : (zoneRises s).dsa.settled := by
  rw [zoneRises_eq]
  exact foldl_keeps (P := fun u => u.dsa.settled) (fun _ j k => zoneStops_settled k j) allStations
    (mapSlices_settled h SliceTimer.pause)

theorem zoneFalls_eq (s : State) :
    zoneFalls s = allStations.foldl zoneResume ((s.mapSlices SliceTimer.resume).makePending .zone) := rfl

theorem zoneFalls_frame (s : State) : DriveOnly s (zoneFalls s) := by
  rw [zoneFalls_eq]
  exact ((DriveOnly.mapSlices s _).trans (CountsOnly.makePending _ .zone).driveOnly).trans
    (DriveOnly.foldl DriveOnly.zoneResume allStations _)

theorem zoneResume_link (s : State) (i : Station) : (zoneResume s i).link = s.link := by
  unfold zoneResume
  split
  · exact resumeHandover_link s i
  · rfl

theorem zoneFalls_keys (s : State) : KeysKept s (zoneFalls s) := by
  rw [zoneFalls_eq]
  exact KeysKept.trans (KeysKept.of_link rfl) (KeysKept.trans (CountsOnly.makePending (s.mapSlices SliceTimer.resume) .zone).keys
    (foldl_keeps (P := KeysKept _) (fun u j k => k.trans (KeysKept.of_link (zoneResume_link u j))) allStations id))

theorem zoneFalls_settled (h : s.dsa.settled) : (zoneFalls s).dsa.settled := by
  rw [zoneFalls_eq]
  exact foldl_keeps (P := fun u => u.dsa.settled) (fun u j k => (DhuAct.zoneResume u j).settled k) allStations
    (mapSlices_settled h SliceTimer.resume)

theorem State.driveSafe.zoneResume (h : s.driveSafe true) (clear : s.zoneHold = false) (i : Station) :
    (zoneResume s i).driveSafe true := by
  unfold Machine.zoneResume
  split
  · next held =>
    obtain ⟨obeys, moving⟩ := resumeHandover_obeys clear (h.demand_eq_zero (i := i) (by simp [held]) (by simp [held]))
    exact (DhuAct.resumeHandover s i).driveSafe h (iff_of_false moving (by simp [held])) obeys
  · exact h

/-- A fall of ZONE_HOLD keeps every drive safe (R100, R113). -/
theorem zoneFalls_driveSafe (h : s.driveSafe true) (clear : s.zoneHold = false) : (zoneFalls s).driveSafe true := by
  have start : ((s.mapSlices SliceTimer.resume).makePending .zone).driveSafe true ∧
      ((s.mapSlices SliceTimer.resume).makePending .zone).zoneHold = false :=
    ⟨(CountsOnly.makePending _ .zone).driveSafe (h.mapSlices SliceTimer.resume),
      (CountsOnly.makePending (s.mapSlices SliceTimer.resume) .zone).zoneStill.zone.trans clear⟩
  rw [zoneFalls_eq]
  exact (foldl_keeps (P := fun u => u.driveSafe true ∧ u.zoneHold = false) (fun u j k =>
    ⟨k.1.zoneResume k.2 j, (DhuAct.zoneResume u j).zoneHold.trans k.2⟩) allStations start).1

/-- Drive work on the part with the filtered ZONE_HOLD moved. -/
theorem DriveOnly.zone_course {level : Bool} (h : DriveOnly (s.zoneSet level) t) (keys : KeysKept (s.zoneSet level) t)
    (safe : s.driveSafe true → t.driveSafe true) (settled : (s.zoneSet level).dsa.settled → t.dsa.settled) : Course s t where
  toKept := Kept.of_stations (fun j => (StationState.Evolves.of_same (h.stations j)).toKeeps) h.berth.profiles h.berth.berth
    safe settled h.link.inbound keys h.link.fits
  lasts j := (StationState.Evolves.of_same (c := s.ceilingNow) (h.stations j)).toLasts

theorem Course.zoneMoved (s : State) (level : Bool) (old : Station → LatchPosition) :
    Course s (levelMoved (s.zoneSet level) .zoneHold level old) := by
  cases level
  · refine (zoneFalls_frame _).zone_course (zoneFalls_keys _) (fun h => zoneFalls_driveSafe (fun j => ?_) rfl)
      zoneFalls_settled
    exact ⟨(h j).1, (h j).2.1, fun held => nomatch held⟩
  · refine (zoneRises_frame _).zone_course (zoneRises_keys _) (fun h => zoneRises_driveSafe (fun j => ?_) rfl)
      zoneRises_settled
    exact ⟨(h j).1, (h j).2.1, fun held => nomatch held⟩

theorem Course.levelMoved (s : State) (i : Station) (which : Sensor) (level : Bool) (old : Station → LatchPosition) :
    Course s (levelMoved s (.sensor i which) level old) := by
  have latch : Course s (latchSensorMoved s i (old i)) := .ite (fun _ => (StationWork.latchMoved s i _).course) fun _ => .refl s
  cases which
  case latchClosed => exact latch
  case latchOpen => exact latch
  case headSeated =>
    cases level
    · exact (StationWork.headUnseats s i).course
    · exact (StationWork.headSeats s i).course
  case stowed =>
    cases level
    · exact .refl s
    · exact (StationWork.stowedRises s i).course
  case brakeOpen =>
    cases level
    · exact .brakeFalls s i
    · exact .brakeRises s i
  case driveReady =>
    cases level
    · exact .driveFalls s i
    · exact .driveRises s i

theorem Course.filterPasses (s : State) (input : Input) : Course s (filterPasses s input) := by
  cases input with
  | sensor i which => exact (Course.modFilters s i _).trans (.levelMoved _ i which _ _)
  | zoneHold => exact .zoneMoved s _ _

/-! ### The tick -/

/-- Every station updated by one function, the rest standing. -/
theorem foldl_setStation_eq (f : StationState → StationState) (l : List Station) : ∀ s : State,
    l.foldl (fun s i => s.setStation i (f (s.station i))) s =
      { s with stations := (l.foldl (fun s i => s.setStation i (f (s.station i))) s).stations } := by
  induction l with
  | nil => exact fun _ => rfl
  | cons i l ih =>
    intro s
    rw [List.foldl_cons, ih]
    rfl

theorem foldl_setStation_station (f : StationState → StationState) (l : List Station) : ∀ s : State, l.Nodup →
    ∀ j : Station, (l.foldl (fun s i => s.setStation i (f (s.station i))) s).station j =
      if j ∈ l then f (s.station j) else s.station j := by
  induction l with
  | nil => simp
  | cons i l ih =>
    intro s distinct j
    obtain ⟨new, distinct⟩ := List.nodup_cons.mp distinct
    rw [List.foldl_cons, ih _ distinct, State.station_setStation]
    by_cases own : j = i
    · subst own
      simp [new]
    · simp [own]

/-- The stations of the part, each with its timers a millisecond on. -/
theorem tickTimers_station (s : State) (windowEnd : Bool) (j : Station) :
    (tickTimers s windowEnd).station j = (s.station j).tick windowEnd := by
  change (allStations.foldl (fun s i => s.setStation i ((s.station i).tick windowEnd)) s).station j = _
  rw [foldl_setStation_station (StationState.tick · windowEnd) allStations s (by decide), if_pos (mem_allStations j)]

theorem tickTimers_eq (s : State) (windowEnd : Bool) :
    tickTimers s windowEnd = { s with
      stations := (tickTimers s windowEnd).stations, zoneFilter := s.zoneFilter.tick, dsa := s.dsa.tick
      watch := s.watch.tick s.settings.watchMode } := by
  have rest := foldl_setStation_eq (StationState.tick · windowEnd) allStations s
  exact congrArg (fun u : State => { u with
    zoneFilter := s.zoneFilter.tick, dsa := s.dsa.tick, watch := s.watch.tick s.settings.watchMode }) rest

theorem StationState.tick_dhu (a : StationState) (windowEnd : Bool) :
    (a.tick windowEnd).dhu.phase = a.dhu.phase ∧ (a.tick windowEnd).dhu.demand = a.dhu.demand := by
  dsimp only [StationState.tick]
  split <;> exact ⟨rfl, rfl⟩

theorem Course.tickTimers (s : State) (windowEnd : Bool) : Course s (tickTimers s windowEnd) := by
  have rest := tickTimers_eq s windowEnd
  have evolves (j : Station) : (s.station j).Evolves s.ceilingNow ((Machine.tickTimers s windowEnd).station j) := by
    rw [tickTimers_station]
    exact .of_fields rfl rfl rfl rfl rfl (Nat.le_refl _) (.inl ⟨rfl, rfl⟩)
  have dsa : (Machine.tickTimers s windowEnd).dsa = s.dsa.tick := by rw [rest]
  refine ⟨Kept.of_stations (fun j => (evolves j).toKeeps) (by rw [rest]) (by rw [rest]) (fun h j => ?_) (fun k => ?_)
    (fun k => ?_) (KeysKept.of_link (by rw [rest])) (fun k => ?_), fun j => (evolves j).toLasts⟩
  · obtain ⟨phase, demand⟩ := (s.station j).tick_dhu windowEnd
    have zone : (Machine.tickTimers s windowEnd).zoneHold = s.zoneHold := by
      rw [State.zoneHold, rest]
      rfl
    obtain ⟨slots, obeys⟩ := h j
    refine ⟨?_, ?_⟩
    · rw [tickTimers_station, phase, dsa, ← slots]
      simp [Dsa.holds, Dsa.tick, Function.comp_def]
    · rw [tickTimers_station, zone]
      unfold Dhu.obeys Dhu.demandSafe
      rw [phase, demand]
      exact obeys
  · rw [dsa]
    exact ⟨k.1.of_same rfl rfl (by simp [Dsa.tick]), k.2.of_same rfl rfl (by simp [Dsa.tick])⟩
  · rw [rest]
    exact k
  · rw [rest]
    exact k

theorem Course.timeBaseTick (s : State) :
    Course s (countWaiting (Machine.tickTimers (advanceTime s) (decide (s.windowMs = Config.windowLength - 1)))) := by
  have advanced : Course s (advanceTime s) := .beside rfl rfl rfl rfl rfl id id id
  exact (advanced.trans (.tickTimers _ _)).trans (CountsOnly.countWaiting _).course

/-! ### The link -/

/-- An update of the Link Interface that keeps it in order. -/
theorem Course.modLink {f : Link → Link} (inbound : s.inboundBounded → (s.modLink f).inboundBounded)
    (keys : KeysKept s (s.modLink f)) (fits : s.requestFits → (s.modLink f).requestFits) : Course s (s.modLink f) :=
  .beside rfl rfl rfl rfl rfl inbound keys fits

theorem Course.modWatch (s : State) (f : LinkWatch → LinkWatch) : Course s (s.modWatch f) :=
  .beside rfl rfl rfl rfl rfl id id id

theorem Course.makePending (s : State) (e : ReportEntry) : Course s (s.makePending e) := (CountsOnly.makePending s e).course

theorem enqueue_bounded {l : Link} (h : l.inbound.length ≤ Config.inboundDepth) (payload : List Byte) :
    (enqueue l payload).inbound.length ≤ Config.inboundDepth := by
  unfold enqueue
  split
  · next room => simpa using room
  · exact h

theorem Course.acceptFrame (s : State) (payload : List Byte) : Course s (acceptFrame s payload) := by
  have watched : Course s (watchFrame s) := by
    have reloaded := Course.modWatch s fun _ => { remaining := s.watchMs, firstExpirySeen := false, hold := false }
    exact .ite (fun _ => reloaded.trans (.makePending _ _)) fun _ => reloaded
  refine watched.trans (.modLink (fun h => enqueue_bounded h payload) (fun h => ?_) fun h w stands => h w ?_)
  · unfold enqueue
    rw [State.modLink_link]
    split <;> exact h
  · rw [State.modLink_link] at stands
    unfold enqueue at stands
    split at stands <;> exact stands

theorem Course.foldl {α : Type} {f : State → α → State} (h : ∀ s a, Course s (f s a)) (l : List α) :
    ∀ s : State, Course s (l.foldl f s) := by
  induction l with
  | nil => exact Course.refl
  | cons a l ih => exact fun s => (h s a).trans (ih _)

theorem Course.receiveBytes (s : State) (bytes : List Byte) : Course s (receiveBytes s bytes) :=
  (Course.modLink id id id).trans (.foldl Course.acceptFrame _ _)

theorem Course.transmitNext (s : State) : Course s (transmitNext s) := by
  unfold Machine.transmitNext
  split
  · exact .modLink id id id
  · next e rest _ reports =>
    refine .modLink id (fun h => ?_) id
    rw [reports] at h
    exact (List.pairwise_cons.mp h).2
  · exact .modLink id id id

theorem Course.beginLinkHold (s : State) : Course s (beginLinkHold s) := by
  have begun : Course s s.holdBegun := (Course.modWatch s _).trans (.makePending _ _)
  rw [beginLinkHold_eq, State.forStations]
  exact begun.trans (.foldl (fun s i => (StationWork.holdPayout s i).course) allStations _)

theorem Course.watchExpires (s : State) : Course s (watchExpires s) := by
  have silent : Course s (reportSilent s) := (Course.makePending s _).trans (.modWatch _ _)
  unfold Machine.watchExpires
  split
  · exact .refl s
  · exact silent
  · exact .beginLinkHold s
  · exact .ite (fun _ => .beginLinkHold s) fun _ => silent.trans (.modWatch _ _)

end Inputs

end Sys2Proof.Machine

/-!
PROOF. The request handler keeps what every step keeps (R172 to R174): taking frames, placing replies, working a station range
turn by turn, and each of the berth requests, the closed values of the commissioning lock among them (R163 to R165).
-/
namespace Sys2Proof.Machine

section Handler

variable {i : Station} {s t u : State}

/-! ### Frames and replies -/

theorem Course.dropHead (s : State) : Course s (dropHead s) :=
  .modLink (fun h => Nat.le_trans (by simp) h) id id

theorem Course.placeReply (s : State) (code tag : Byte) (result : FrameResult) (body : List Byte) :
    Course s (placeReply s code tag result body) := .modLink id id id

theorem Course.replyTo (s : State) (frame : List Byte) (result : FrameResult) (body : List Byte) :
    Course s (replyTo s frame result body) := .placeReply s _ _ _ _

theorem Course.takeFrame {α : Type} {serve : State → α → State × List Byte} (h : ∀ s a, Course s (serve s a).1)
    (s : State) (code : Byte) (decode : List Byte → Decoded α) : Course s (takeFrame s code decode serve) := by
  unfold Machine.takeFrame
  split
  · exact .refl s
  · refine .ite (fun _ => .refl s) fun _ => (Course.dropHead s).trans ?_
    dsimp only
    split
    · exact .replyTo _ _ _ _
    · exact (h _ _).trans (.replyTo _ _ _ _)

theorem Course.serveRead (s : State) (code : Byte) (body : State → List Byte) : Course s (serveRead s code body) :=
  .takeFrame (fun s _ => .refl s) s code decodeEmpty

theorem Course.serveBerth {α : Type} {apply : State → α → Applied} (h : ∀ s a, Course s (apply s a).1) (s : State)
    (code : Byte) (decode : List Byte → Decoded α) : Course s (serveBerth s code decode apply) :=
  .takeFrame (fun s a => h s a) s code decode

/-! ### Station requests -/

theorem Course.finishWorking (s : State) (w : Working) : Course s (finishWorking s w) :=
  (Course.modLink id id fun _ _ stands => absurd stands (by simp)).trans (.placeReply _ _ _ _ _)

/-- The request under way goes on to its next station. -/
theorem Course.advance {w : Working} (under : s.link.working = some w) (part : List Byte) : Course s (advance s w part) := by
  dsimp only [Machine.advance]
  refine .ite (fun _ => .finishWorking s _) fun further => .modLink id id fun fits w' stands => ?_
  obtain rfl := Option.some.inj stands
  obtain ⟨code, _, last⟩ := fits w under
  exact ⟨code, by dsimp only; omega, last⟩

/-- The request that an advance leaves under way, if any, is the one that was under way. -/
theorem advance_request {w w' : Working} {part : List Byte} (h : (advance s w part).link.working = some w') :
    w'.request = w.request := by
  unfold advance at h
  dsimp only at h
  split at h
  · cases h
  · obtain rfl := Option.some.inj h
    rfl

theorem finishWorking_working (s : State) (w : Working) : (finishWorking s w).link.working = none := rfl

theorem LinkKept.working (h : LinkKept s t) : t.link.working = s.link.working := by rw [h]

theorem Kept.applyRequest (s : State) (i : Station) (r : StationRequest) : Kept s (applyRequest s i r).1 :=
  (StationEdit.applyRequest s i r).kept

theorem applyRequest_working (s : State) (i : Station) (r : StationRequest) :
    (applyRequest s i r).1.link.working = s.link.working :=
  (StationEdit.applyRequest s i r).ops.keeps.link.working

theorem Course.readTurn {w : Working} (under : s.link.working = some w) (record : List Byte) :
    Course s (if recordFits w record then Machine.advance s w record else Machine.finishWorking s w) :=
  .ite (fun _ => .advance under _) fun _ => .finishWorking s w

theorem oneTurn_read {w : Working} (read : w.request = .readStations) :
    oneTurn s w i = if recordFits w (stationRecord s i none) then advance s w (stationRecord s i none)
      else finishWorking s w := by
  unfold oneTurn
  split
  · rfl
  · next other => exact absurd read other

theorem Kept.oneTurn {w : Working} (under : s.link.working = some w) (i : Station) : Kept s (oneTurn s w i) := by
  by_cases read : w.request = .readStations
  · rw [oneTurn_read read]
    exact (Course.readTurn under _).toKept
  · rw [oneTurn_request read]
    exact (Kept.applyRequest s i _).trans (Course.advance ((applyRequest_working s i _).trans under) _).toKept

/-- A request that ends no fault record and takes no station in or out of service. -/
def StationRequest.lasting (r : StationRequest) : Prop := r ≠ .clearFault ∧ ∀ d, r ≠ .configureStation d

theorem Course.oneTurn {w : Working} (under : s.link.working = some w) (lasting : w.request.lasting) (i : Station) :
    Course s (oneTurn s w i) := by
  by_cases read : w.request = .readStations
  · rw [oneTurn_read read]
    exact .readTurn under _
  · rw [oneTurn_request read]
    exact (StationWork.applyRequest rfl lasting.1 lasting.2).course.trans
      (.advance ((applyRequest_working s i _).trans under) _)

/-- A turn leaves its own request under way, or none. -/
theorem oneTurn_working {w w' : Working} (h : (oneTurn s w i).link.working = some w') : w'.request = w.request := by
  by_cases read : w.request = .readStations
  · rw [oneTurn_read read] at h
    split at h
    · exact advance_request h
    · cases (finishWorking_working s w).symm.trans h
  · rw [oneTurn_request read] at h
    exact advance_request h

theorem Kept.runTurns (n : Nat) : ∀ s : State, Kept s (runTurns n s) := by
  induction n with
  | zero => exact fun s => (Course.refl s).toKept
  | succ n ih =>
    intro s
    unfold Machine.runTurns
    split
    · exact (Course.refl s).toKept
    · next w under =>
      refine Kept.trans ?_ (ih _)
      split
      · exact .oneTurn under _
      · exact (Course.finishWorking s w).toKept

/-- The request under way, if any, is a lasting one. -/
def State.lasting (s : State) : Prop := ∀ w, s.link.working = some w → w.request.lasting

theorem Course.runTurns (n : Nat) : ∀ s : State, s.lasting → Course s (runTurns n s) := by
  induction n with
  | zero => exact fun s _ => .refl s
  | succ n ih =>
    intro s lasting
    unfold Machine.runTurns
    split
    · exact .refl s
    · next w under =>
      split
      · refine (Course.oneTurn under (lasting w under) _).trans (ih _ fun w' next => ?_)
        rw [oneTurn_working next]
        exact lasting w under
      · exact (Course.finishWorking s w).trans (ih _ fun w' next => nomatch next)

/-- What a decoder of station requests gives is a request of this code in a valid range (R172, R173). -/
def decodesFor (code : Byte) (decode : List Byte → Decoded RangeRequest) : Prop :=
  ∀ body r, decode body = .ok r → code = r.request.code ∧ r.first ≤ r.last ∧ r.last ≤ 11

theorem Course.takeStationFrame {code : Byte} {decode : List Byte → Decoded RangeRequest} (h : decodesFor code decode)
    (s : State) : Course s (takeStationFrame s code decode) := by
  unfold Machine.takeStationFrame
  split
  · exact .refl s
  · refine .ite (fun _ => .refl s) fun _ => (Course.dropHead s).trans ?_
    dsimp only
    split
    · exact .replyTo _ _ _ _
    · next r decoded =>
      refine .modLink id id fun _ w stands => ?_
      obtain rfl := Option.some.inj stands
      exact h _ r decoded

/-- The part with a frame of this code taken, unless its request is under way already (R173). -/
def stationFrameTaken (s : State) (code : Byte) (decode : List Byte → Decoded RangeRequest) : State :=
  if s.workingOn code then s else takeStationFrame s code decode

theorem serveStations_eq (s : State) (code : Byte) (decode : List Byte → Decoded RangeRequest) (turns : Nat) :
    serveStations s code decode turns =
      if (stationFrameTaken s code decode).workingOn code then runTurns turns (stationFrameTaken s code decode)
      else stationFrameTaken s code decode := rfl

theorem Course.stationFrameTaken {code : Byte} {decode : List Byte → Decoded RangeRequest} (h : decodesFor code decode)
    (s : State) : Course s (stationFrameTaken s code decode) :=
  .ite (fun _ => .refl s) fun _ => .takeStationFrame h s

theorem Kept.serveStations {code : Byte} {decode : List Byte → Decoded RangeRequest} (h : decodesFor code decode)
    (s : State) (turns : Nat) : Kept s (serveStations s code decode turns) := by
  have taken := (Course.stationFrameTaken h s).toKept
  rw [serveStations_eq]
  split
  · exact taken.trans (.runTurns turns _)
  · exact taken

theorem Course.serveStations {code : Byte} {decode : List Byte → Decoded RangeRequest} (h : decodesFor code decode)
    (lasting : ∀ r : StationRequest, r.code = code → r.lasting) (fits : s.requestFits) (turns : Nat) :
    Course s (serveStations s code decode turns) := by
  have taken := Course.stationFrameTaken h s
  rw [serveStations_eq]
  split
  · next own =>
    refine taken.trans (.runTurns turns _ fun w under => lasting _ ?_)
    obtain ⟨ofCode, _⟩ := taken.fits fits w under
    simp only [State.workingOn, under, decide_eq_true_eq] at own
    rw [← ofCode, own]
  · exact taken

theorem rangeValid_iff {body : List Byte} : rangeValid body = true ↔ byteAt body 0 ≤ byteAt body 1 ∧ byteAt body 1 ≤ 11 := by
  simp [rangeValid]

theorem decodesFor_decodeRange {code : Byte} {extra : Nat} {request : List Byte → StationRequest}
    (h : ∀ body, code = (request body).code) : decodesFor code (decodeRange extra request) := by
  intro body r decoded
  unfold decodeRange at decoded
  split at decoded
  · cases decoded
  · split at decoded
    · cases decoded
    · next valid =>
      cases decoded
      exact ⟨h body, rangeValid_iff.mp (by simpa using valid)⟩

theorem decodesFor_decodeRelease : decodesFor 0x0D decodeRelease := by
  intro body r decoded
  unfold decodeRelease at decoded
  split at decoded
  · cases decoded
  · split at decoded
    · cases decoded
    · next valid =>
      cases decoded
      exact ⟨rfl, rangeValid_iff.mp (by simpa using (not_or.mp valid).1)⟩

theorem decodesFor_decodeConfigureStation : decodesFor 0x07 decodeConfigureStation := by
  intro body r decoded
  unfold decodeConfigureStation at decoded
  split at decoded
  · cases decoded
  · dsimp only at decoded
    split at decoded
    · cases decoded
    · split at decoded
      · cases decoded
      · next valid =>
        cases decoded
        exact ⟨rfl, rangeValid_iff.mp (by simpa using valid)⟩

end Handler

end Sys2Proof.Machine

/-!
PROOF. The berth requests keep what every step keeps (R60, R87, R96, R163 to R165, R192, R201): what storing a list of
CONFIGURE_BERTH items changes of the part, and that under the commissioning lock no closed value rises above its snapshot.
-/
namespace Sys2Proof.Machine

section Berth

variable {s t u : State}

/-! ### Changes beside the stations -/

/-- Two states of a station differ at most in the effective profile. -/
def StationState.SameButEffective (a b : StationState) : Prop :=
  b = { a with lcc := { a.lcc with effective := b.lcc.effective } }

theorem StationState.SameButEffective.refl (a : StationState) : a.SameButEffective a := rfl

theorem StationState.sameButEffective_underCeiling (a : StationState) (c : ProfileNo) :
    a.SameButEffective (a.underCeiling c) := rfl

theorem StationState.SameButEffective.lasts {a b : StationState} (h : a.SameButEffective b) : a.Lasts b := by
  rw [h]
  exact ⟨fun old stands => ⟨old, stands, .refl old⟩, Iff.rfl⟩

/-- A step that changes of the stations at most the effective profiles, and of the rest what its parts keep in order. -/
theorem Course.of_berth (stations : ∀ i : Station, (s.station i).SameButEffective (t.station i))
    (profiles : s.profilesEffective → t.profilesEffective) (holders : t.dsa.holders = s.dsa.holders)
    (settled : s.dsa.settled → t.dsa.settled) (zone : t.zoneHold = s.zoneHold) (locked : s.lockKept → t.lockKept)
    (snapshots : s.berth.locked = true → t.berth.locked = true ∧ t.profiles.snapshot = s.profiles.snapshot ∧
      t.berth.thresholdSnapshot = s.berth.thresholdSnapshot)
    (inbound : s.inboundBounded → t.inboundBounded) (keys : KeysKept s t) (fits : s.requestFits → t.requestFits) :
    Course s t where
  measures h i := by
    rw [stations i]
    exact h i
  counts h i := by
    rw [stations i]
    exact h i
  profiles := profiles
  needs h i := by
    rw [stations i]
    exact h i
  safe h i := by
    have dhu : (t.station i).dhu = (s.station i).dhu := by rw [stations i]
    exact (h i).of_same (by rw [Dsa.holds, holders, Dsa.holds]) dhu zone
  settled := settled
  locked := locked
  snapshots := snapshots
  inbound := inbound
  keys := keys
  fits := fits
  lasts i := (stations i).lasts

/-! ### WRITE_PROFILE -/

theorem State.profile_writeProfile (s : State) (n m : ProfileNo) (p : Profile) :
    (writeProfile s n p).profile m = if m = n then p else s.profile m := by
  simp only [writeProfile, State.profile, Vector.get_eq_getElem, Vector.getElem_set, Fin.ext_iff, eq_comm]

theorem lockRefusesProfile_eq {n : ProfileNo} {p : Profile} {snap : ProfileSnapshot} (set : s.berth.locked = true)
    (taken : s.profiles.snapshot = some snap) :
    s.lockRefusesProfile n p = false ↔ p.within (snap.limits.get n) := by
  simp [State.lockRefusesProfile, set, taken, Profile.within]

theorem lockKept_writeProfile {n : ProfileNo} {p : Profile} (passes : s.lockRefusesProfile n p = false) (h : s.lockKept) :
    (writeProfile s n p).lockKept := by
  intro set
  obtain ⟨snap, limit, taken, threshold, below, profiles, ceiling⟩ := h set
  refine ⟨snap, limit, taken, threshold, below, fun m => ?_, ceiling⟩
  rw [State.profile_writeProfile]
  split
  · next own =>
    rw [own]
    exact (lockRefusesProfile_eq set taken).mp passes
  · exact profiles m

theorem Course.applyWriteProfile (s : State) (carried : Nat × Profile) : Course s (applyWriteProfile s carried).1 := by
  dsimp only [Machine.applyWriteProfile]
  split
  · exact .refl s
  · split
    · exact .refl s
    · next passes =>
      exact .of_berth (fun i => .refl _) id rfl id rfl (lockKept_writeProfile (by simpa using passes))
        (fun set => ⟨set, rfl, rfl⟩) id id id

/-! ### SET_CONDITION -/

/-- The effective profiles are as R62 has them once recomputed, at every configured station. -/
theorem profilesEffective_recomputeAll (h : ∀ i : Station, (s.station i).config = none → (s.station i).lcc.effective = none) :
    (recomputeAll s).profilesEffective := by
  intro i
  rw [(recomputeAll_recomputed s).ceilingNow, recomputeAll_station]
  cases config : (s.station i).config with
  | none =>
    rw [StationState.underCeiling_none config, config]
    exact h i config
  | some d =>
    rw [StationState.underCeiling_some config, config]
    rfl

theorem State.profilesEffective.none (h : s.profilesEffective) (i : Station) (config : (s.station i).config = none) :
    (s.station i).lcc.effective = none := by
  rw [h i, config]
  rfl

/-- The Report Queue stays apart through the reports of a recomputation (R182). -/
theorem KeysKept.recomputeAll (s : State) : KeysKept s (recomputeAll s) := by
  rw [Machine.recomputeAll, State.forStations]
  exact foldl_keeps (P := KeysKept s) (fun u i k => k.trans (StationOps.recompute u i).keeps.keys) allStations id

/-- Recomputing the effective profiles under new ceilings, in a part that differs from this one in its closed values. -/
theorem Course.recomputeAll (u : State) (stations : u.stations = s.stations) (holders : u.dsa.holders = s.dsa.holders)
    (settled : s.dsa.settled → u.dsa.settled) (zone : u.zoneHold = s.zoneHold) (link : u.link = s.link)
    (locked : s.lockKept → u.lockKept)
    (snapshots : s.berth.locked = true → u.berth.locked = true ∧ u.profiles.snapshot = s.profiles.snapshot ∧
      u.berth.thresholdSnapshot = s.berth.thresholdSnapshot) : Course s (recomputeAll u) := by
  have same (i : Station) : u.station i = s.station i := congrArg (Vector.get · i) stations
  have rest := (recomputeAll_recomputed u).rest
  have keys := KeysKept.trans (KeysKept.of_link link) (KeysKept.recomputeAll u)
  have profiles (h : s.profilesEffective) := profilesEffective_recomputeAll (s := u) fun i config => by
    rw [same] at config ⊢
    exact h.none i config
  have effective (i : Station) : (s.station i).SameButEffective ((Machine.recomputeAll u).station i) := by
    rw [recomputeAll_station, same]
    exact StationState.sameButEffective_underCeiling _ _
  generalize Machine.recomputeAll u = v at *
  refine .of_berth effective profiles ?_ (fun h => ?_) ?_ (fun h => ?_) (fun set => ?_) (fun h => ?_) keys fun h => ?_
  · rw [rest]
    exact holders
  · rw [rest]
    exact settled h
  · rw [rest]
    exact zone
  · rw [rest]
    exact locked h
  · rw [rest]
    exact snapshots set
  · rw [State.inboundBounded, rest, link]
    exact h
  · rw [State.requestFits, rest, link]
    exact h

theorem applySetCondition_inRange {cls : Nat} (h : ¬3 < cls) (s : State) :
    applySetCondition s cls = (recomputeAll (s.withCondition (conditionNo cls)), .accepted) := by
  rw [applySetCondition, if_neg h, State.withCondition]

theorem Course.applySetCondition (s : State) (cls : Nat) : Course s (applySetCondition s cls).1 := by
  by_cases out : 3 < cls
  · rw [applySetCondition_outOfRange out]
    exact .refl s
  · rw [applySetCondition_inRange out]
    have locked : s.lockKept → (s.withCondition (conditionNo cls)).lockKept := id
    dsimp only
    exact .recomputeAll (s.withCondition (conditionNo cls)) rfl rfl id rfl rfl locked fun set => ⟨set, rfl, rfl⟩

/-! ### COMMISSION_LOCK, SET_COUNTER, RESTART -/

theorem ProfileTable.snap_limits (t : ProfileTable) (n : ProfileNo) : t.snap.limits.get n = (t.profiles.get n).limits := by
  fin_cases n <;> rfl

theorem Course.applyCommissionLock (s : State) (x : Unit) : Course s (applyCommissionLock s x).1 := by
  dsimp only [Machine.applyCommissionLock]
  split
  · exact .refl s
  · next clear =>
    refine .of_berth (fun i => .refl _) id rfl id rfl (fun _ _ => ?_) (fun set => absurd set clear) id id id
    refine ⟨s.profiles.snap, s.settings.releaseThreshold, rfl, rfl, Nat.le_refl _, fun n => ?_, fun k => Nat.le_refl _⟩
    rw [ProfileTable.snap_limits]
    exact ⟨Nat.le_refl _, Nat.le_refl _⟩

theorem Course.applySetCounter (s : State) (c : CarriedCounter) : Course s (applySetCounter s c).1 := by
  unfold Machine.applySetCounter
  split
  · exact .refl s
  · split
    · exact .beside rfl rfl rfl rfl rfl id id id
    · exact .refl s

theorem Course.applyRestart (s : State) (x : Unit) : Course s (applyRestart s x).1 :=
  .of_berth (fun _ => .refl _) id rfl id rfl id (fun set => ⟨set, rfl, rfl⟩) (fun _ => Nat.zero_le _)
    (fun _ => List.pairwise_singleton _ _) id

/-! ### CONFIGURE_BERTH -/

/-- What storing items can change: the berth record, K, the ceiling table and the routing set (Chapter 8, section 8.2). -/
structure ItemsStored (s t : State) : Prop where
  eq : t = { s with
    berth := { s.berth with config := t.berth.config }
    dsa := { s.dsa with slots := t.dsa.slots }
    profiles := { s.profiles with ceiling := t.profiles.ceiling }
    routing := t.routing }

theorem ItemsStored.refl (s : State) : ItemsStored s s := ⟨rfl⟩

theorem ItemsStored.trans (h : ItemsStored s t) (k : ItemsStored t u) : ItemsStored s u := by
  refine ⟨?_⟩
  rw [k.eq, h.eq]

theorem storeItem_stored (s : State) (it : BerthItem) : ItemsStored s (storeItem s it) := by
  unfold storeItem
  split_ifs <;> exact ⟨rfl⟩

theorem foldl_storeItem_stored (items : List BerthItem) (s : State) : ItemsStored s (items.foldl storeItem s) :=
  foldl_keeps (P := ItemsStored s) (fun u it k => k.trans (storeItem_stored u it)) items (.refl s)

theorem ItemsStored.slots_eq (h : ItemsStored s t) (slots : t.dsa.slots = s.dsa.slots) : t.dsa = s.dsa := by
  rw [h.eq, slots]

/-- The numbers of the fields of the berth record leave the release threshold, but row 9. -/
theorem BerthConfig.store_releaseThreshold (c : BerthConfig) (number v : Nat) :
    (c.store number v).releaseThreshold = if number = 9 then v else c.releaseThreshold := by
  by_cases row : number = 9
  · rw [if_pos row, row]
    rfl
  · rw [if_neg row]
    unfold BerthConfig.store
    split
    case h_9 => exact absurd rfl row
    all_goals rfl

theorem storeItem_threshold (s : State) (it : BerthItem) : (storeItem s it).settings.releaseThreshold =
    if it.number = 9 then it.num else s.settings.releaseThreshold := by
  by_cases slots : it.number = 11
  · simp [storeItem, slots, State.settings]
  by_cases ceiling : it.number = 27
  · simp [storeItem, ceiling, State.settings]
  by_cases routing : it.number = 28
  · simp [storeItem, routing, State.settings]
  rw [storeItem, if_neg slots, if_neg ceiling, if_neg routing]
  exact BerthConfig.store_releaseThreshold _ _ _

theorem storeItem_ceiling (s : State) (it : BerthItem) :
    (storeItem s it).profiles.ceiling = if it.number = 27 then ceilingOf it.value else s.profiles.ceiling := by
  unfold storeItem
  split_ifs with slots <;> first | rfl | omega

theorem storeItem_slots (s : State) (it : BerthItem) :
    (storeItem s it).dsa.slots = if it.number = 11 then it.num else s.dsa.slots := by
  unfold storeItem
  split_ifs <;> rfl

/-- Under the lock each entry of an accepted ceiling item stands within its snapshot (R165). -/
theorem ceilingOf_le {bytes : List Byte} {snap : ProfileSnapshot} (passes : ceilingExceeds bytes snap = false)
    (k : ConditionClass) : ((ceilingOf bytes).get k).val ≤ (snap.ceiling.get k).val := by
  have entry (k : Fin 4) : byteAt bytes k.val ≤ (snap.ceiling.get k).val := by
    by_contra above
    have inside : k.val < bytes.length := by
      by_contra outside
      rw [byteAt, List.getD_eq_default _ _ (Nat.not_lt.mp outside)] at above
      exact above (Nat.zero_le _)
    have listed : k.val < (List.zipWith (fun b p => decide ((p : ProfileNo).val < b.toNat)) bytes
        snap.ceiling.toList).length := by simp [inside]
    have exceeds : (List.zipWith (fun b p => decide ((p : ProfileNo).val < b.toNat)) bytes
        snap.ceiling.toList)[k.val] = true := by
      rw [byteAt, List.getD_eq_getElem _ _ inside, Vector.get_eq_getElem] at above
      rw [List.getElem_zipWith, decide_eq_true_iff]
      exact Nat.not_le.mp above
    have some : ceilingExceeds bytes snap = true := List.any_eq_true.mpr ⟨_, List.getElem_mem listed, exceeds⟩
    rw [passes] at some
    cases some
  have reduced (k : Fin 4) : (profileNo (byteAt bytes k.val)).val ≤ (snap.ceiling.get k).val :=
    Nat.le_trans (Nat.mod_le _ _) (entry k)
  fin_cases k
  · exact reduced 0
  · exact reduced 1
  · exact reduced 2
  · exact reduced 3

/-- What the items of a list that the lock lets pass leave of the closed values, the slots and the condition in force. -/
structure ItemsKeep (s t : State) : Prop where
  stored : ItemsStored s t
  locked : s.lockKept → t.lockKept
  slots : t.dsa.slots = s.dsa.slots ∨ (s.dsa.holders = [] ∧ s.dsa.waiting = [])

theorem storeItem_lockKept {it : BerthItem} (frame : ItemsStored s t)
    (passes : s.berth.locked = true → s.lockRefusesItem it = false) (h : t.lockKept) : (storeItem t it).lockKept := by
  have stored := storeItem_stored t it
  have threshold := storeItem_threshold t it
  have ceilings := storeItem_ceiling t it
  intro set
  have was : t.berth.locked = true := by
    rw [stored.eq] at set
    exact set
  obtain ⟨snap, limit, taken, closed, below, profiles, ceiling⟩ := h was
  have passes := passes (by rw [frame.eq] at was; exact was)
  have snapshots : s.profiles.snapshot = some snap ∧ s.berth.thresholdSnapshot = some limit := by
    rw [frame.eq] at taken closed
    exact ⟨taken, closed⟩
  refine ⟨snap, limit, ?_, ?_, ?_, fun n => ?_, fun k => ?_⟩
  · rw [stored.eq]
    exact taken
  · rw [stored.eq]
    exact closed
  · rw [threshold]
    split
    · next row => simpa [State.lockRefusesItem, row, snapshots] using passes
    · exact below
  · rw [State.profile, stored.eq]
    exact profiles n
  · rw [ceilings]
    split
    · next row => exact ceilingOf_le (by simpa [State.lockRefusesItem, row, snapshots] using passes) k
    · exact ceiling k

theorem foldl_storeItem_keeps (items : List BerthItem) (slots : s.dsa.refusesSlots items = false)
    (passes : s.berth.locked = true → ∀ it ∈ items, s.lockRefusesItem it = false) :
    ItemsKeep s (items.foldl storeItem s) := by
  refine List.foldlRecOn items storeItem (motive := ItemsKeep s) ⟨.refl s, id, .inl rfl⟩ fun u keeps it hit => ?_
  refine ⟨keeps.stored.trans (storeItem_stored u it), fun h =>
    storeItem_lockKept keeps.stored (fun set => passes set it hit) (keeps.locked h), ?_⟩
  rw [storeItem_slots]
  split
  · next row =>
    by_cases same : it.num = s.dsa.slots
    · exact .inl same
    · right
      have idle := List.any_eq_false.mp slots it hit
      simpa [row, same] using idle
  · exact keeps.slots

/-- An accepted list of items leaves the arbiter's grant rule nothing to do (R96). -/
theorem itemsStored_eq {items : List BerthItem} (slots : s.dsa.refusesSlots items = false)
    (passes : s.berth.locked = true → ∀ it ∈ items, s.lockRefusesItem it = false) :
    itemsStored s items =
      let s1 := items.foldl storeItem s
      let s2 := if namesRow items 27 then recomputeAll s1 else s1
      if namesRow items 29 || namesRow items 30 then watchStored s2 else s2 := by
  have keeps := foldl_storeItem_keeps items slots passes
  have dsa : (if namesRow items 27 then recomputeAll (items.foldl storeItem s) else items.foldl storeItem s).dsa =
      (items.foldl storeItem s).dsa := by
    split
    · rw [(recomputeAll_recomputed _).rest]
    · rfl
  dsimp only [itemsStored]
  by_cases same : (items.foldl storeItem s).dsa.slots = s.dsa.slots
  · rw [if_neg (c := _ ≠ s.dsa.slots) (by rw [dsa]; exact not_not.mpr same)]
  · obtain ⟨_, nobody⟩ := keeps.slots.resolve_left same
    rw [if_pos (c := _ ≠ s.dsa.slots) (by rw [dsa]; exact same), arbitrate_noneWaiting]
    rw [dsa, keeps.stored.eq]
    exact nobody

theorem foldl_storeItem_ceiling {items : List BerthItem} (named : namesRow items 27 = false) (s : State) :
    (items.foldl storeItem s).profiles.ceiling = s.profiles.ceiling :=
  List.foldlRecOn items storeItem (motive := fun u => u.profiles.ceiling = s.profiles.ceiling) rfl fun u keeps it hit => by
    rw [storeItem_ceiling, if_neg]
    · exact keeps
    · simpa using List.any_eq_false.mp named it hit

theorem Course.itemsStored {items : List BerthItem} (slots : s.dsa.refusesSlots items = false)
    (passes : s.berth.locked = true → ∀ it ∈ items, s.lockRefusesItem it = false) : Course s (itemsStored s items) := by
  have keeps := foldl_storeItem_keeps items slots passes
  have ceilingStands (named : namesRow items 27 = false) := foldl_storeItem_ceiling named s
  rw [itemsStored_eq slots passes]
  dsimp only
  generalize items.foldl storeItem s = u at *
  have rest := keeps.stored.eq
  have snapshots : s.berth.locked = true → u.berth.locked = true ∧ u.profiles.snapshot = s.profiles.snapshot ∧
      u.berth.thresholdSnapshot = s.berth.thresholdSnapshot := fun set => by
    rw [rest]
    exact ⟨set, rfl, rfl⟩
  have settled : s.dsa.settled → u.dsa.settled := by
    intro h
    rcases keeps.slots with same | ⟨free, nobody⟩
    · rwa [keeps.stored.slots_eq same]
    · rw [rest]
      exact ⟨⟨by simp [free], h.1.2⟩, .inl nobody⟩
  have stored : Course s (if namesRow items 27 = true then Machine.recomputeAll u else u) := by
    split
    · exact .recomputeAll u (by rw [rest]) (by rw [rest]) settled (by rw [State.zoneHold, rest]; rfl) (by rw [rest])
        keeps.locked snapshots
    · next unnamed =>
      have ceiling : u.ceilingNow = s.ceilingNow := by
        rw [State.ceilingNow, ceilingStands (by simpa using unnamed), rest]
        rfl
      have same (i : Station) : u.station i = s.station i := by
        rw [rest]
        rfl
      refine .of_berth (fun i => ?_) (fun h i => ?_) (by rw [rest]) settled (by rw [State.zoneHold, rest]; rfl) keeps.locked
        snapshots (fun h => ?_) (KeysKept.of_link (by rw [rest])) fun h => ?_
      · rw [same]
        exact .refl _
      · rw [same, ceiling]
        exact h i
      · rw [State.inboundBounded, rest]
        exact h
      · rw [State.requestFits, rest]
        exact h
  have watched (v : State) : Course v (watchStored v) := by
    have cleared := Course.modWatch v fun w => { w with firstExpirySeen := false }
    exact .ite (fun _ => cleared) fun _ => cleared.trans (.modWatch _ _)
  exact .ite (fun _ => stored.trans (watched _)) fun _ => stored

theorem Course.applyConfigureBerth (s : State) (items : List BerthItem) : Course s (applyConfigureBerth s items).1 := by
  dsimp only [Machine.applyConfigureBerth]
  split
  · exact .refl s
  · split
    · exact .refl s
    · next slots =>
      split
      · exact .refl s
      · next passes =>
        refine .itemsStored (by simpa using slots) fun set it hit => ?_
        rw [set, Bool.true_and, List.any_eq_true] at passes
        by_contra refuses
        exact passes ⟨it, hit, by simpa using refuses⟩

end Berth

end Sys2Proof.Machine

/-!
PROOF. Every command but a reset keeps what a step keeps, and a reset leaves all of it as its tables have it: the invariants of
every step (O52 to O58), of a reset (O3), and the fault records and the service of a station (O59, O60).
-/
namespace Sys2Proof.Machine

section Commands

variable {s t u : State}

/-! ### What resets leave -/

theorem State.atReset_station (cause : ResetCause) (found : Pins) (i : Station) :
    (State.atReset cause found).station i = StationState.atReset (found.stations.get i) := by
  fin_cases i <;> rfl

theorem atReset_invariants (cause : ResetCause) (found : Pins) : (State.atReset cause found).invariants := by
  have station := State.atReset_station cause found
  refine ⟨fun i => ?_, fun i => ?_, fun i => ?_, fun i => ?_, fun i => ?_, fun _ i => ?_, Nat.zero_le _, .inl rfl,
    List.Pairwise.nil, fun i => ?_, fun set => ?_, Nat.zero_le _, List.pairwise_singleton _ _, fun w stands => ?_⟩
  · rw [station]
    exact ⟨Nat.zero_le _, Nat.zero_le _⟩
  · rw [station]
    exact ⟨Nat.zero_le _, fun _ => rfl⟩
  · rw [station]
    rfl
  · rw [station]
    exact .inl rfl
  · rw [station]
    exact iff_of_false (by simp [State.atReset, Dsa.atReset, Dsa.holds]) fun moving => moving rfl
  · rw [station]
    rfl
  · rw [station]
    rfl
  · cases set
  · cases stands

/-- Every invariant together says what a step keeps. -/
theorem State.invariants_iff (s : State) : s.invariants ↔
    s.measuresBounded ∧ s.countsBounded ∧ s.profilesEffective ∧ s.driveSafe true ∧ s.dsa.settled ∧ s.needsMatch ∧
      s.lockKept ∧ s.inboundBounded ∧ distinctKeys s.link.reports ∧ s.requestFits := by
  rw [State.driveSafe_iff]
  simp only [State.invariants, Dsa.settled, Dsa.inOrder, Dsa.busy, State.slotsBounded, State.noSlotIdle,
    State.waitingOrdered]
  tauto

/-! ### Commands -/

theorem Course.detect (s : State) (i : Station) (kind : FaultKind) : Course s (detect s i kind) :=
  (StationWork.detect s i kind).course

theorem Course.takeHanded (s : State) (i : Station) (kind : FaultKind) : Course s (takeHanded s i kind) :=
  (StationWork.takeHanded s i kind).course

/-- A detection at the end of a timer, or of one handed over before (R111, R137). -/
theorem Course.timeout (s : State) (i : Station) (kind : FaultKind) {due : Prop} [Decidable due] :
    Course s (if due then Machine.detect s i kind else Machine.takeHanded s i kind) :=
  .ite (fun _ => .detect s i kind) fun _ => .takeHanded s i kind

theorem Course.unknownRequest (h : exec .unknownRequest s = .next t) : Course s t := by
  change execUnknownRequest s = _ at h
  unfold execUnknownRequest at h
  split at h
  · cases h
    exact .refl s
  · split at h
    · cases h
      exact .refl s
    · cases h
      exact (Course.dropHead s).trans (.replyTo _ _ _ _)

theorem Course.sliceExpiry (s : State) (i : Station) : Course s (match s.dsa.holderOf i with
    | some h => if h.slice = .running 0 then Machine.expireSlice s h else s
    | none => s) := by
  split
  · exact .ite (fun _ => .expireSlice s _) fun _ => .refl s
  · exact .refl s

theorem Course.rawEdge (s : State) (input : Input) (level : Bool) :
    Course s (s.setFilter input ((s.filter input).rawEdge level s.settings.filterWidth)) := by
  cases input with
  | sensor i which => exact .modFilters s i fun f => f.set which _
  | zoneHold => exact .zoneFilter s (s.zoneFilter.rawEdge_level _ _)

/-- The command by which the handler works a station range: its code, its decoder and the turns it may take (R173). -/
def rangedCommand : Instr → Option (Byte × (List Byte → Decoded RangeRequest) × Nat)
  | .readStations n => some (0x03, decodeRange 0 fun _ => .readStations, n)
  | .configureStation n => some (0x07, decodeConfigureStation, n)
  | .deploy n => some (0x0B, decodeRange 4 fun b => .deploy (numAt b 2 3) (byteAt b 5), n)
  | .lock n => some (0x0C, decodeRange 0 fun _ => .lock, n)
  | .release n => some (0x0D, decodeRelease, n)
  | .armRelease n => some (0x0E, decodeRange 0 fun _ => .armRelease, n)
  | .rewind n => some (0x0F, decodeRange 0 fun _ => .rewind, n)
  | .halt n => some (0x10, decodeRange 0 fun _ => .halt, n)
  | .selectProfile n => some (0x11, decodeRange 1 fun b => .selectProfile (byteAt b 2), n)
  | .clearFault n => some (0x12, decodeRange 0 fun _ => .clearFault, n)
  | _ => none

theorem exec_ranged {c : Instr} {code : Byte} {decode : List Byte → Decoded RangeRequest} {turns : Nat}
    (h : rangedCommand c = some (code, decode, turns)) (s : State) :
    exec c s = .next (serveStations s code decode turns) := by
  cases c
  case readStations | configureStation | deploy | lock | release | armRelease | rewind | halt | selectProfile | clearFault =>
    cases h
    rfl
  all_goals cases h

theorem decodesFor_ranged {c : Instr} {code : Byte} {decode : List Byte → Decoded RangeRequest} {turns : Nat}
    (h : rangedCommand c = some (code, decode, turns)) : decodesFor code decode := by
  cases c
  case configureStation => cases h; exact decodesFor_decodeConfigureStation
  case release => cases h; exact decodesFor_decodeRelease
  case readStations | deploy | lock | armRelease | rewind | halt | selectProfile | clearFault =>
    cases h
    exact decodesFor_decodeRange fun _ => rfl
  all_goals cases h

/-- The codes of CLEAR_FAULT and CONFIGURE_STATION are those of no other command. -/
theorem lasting_of_ranged {c : Instr} {code : Byte} {decode : List Byte → Decoded RangeRequest} {turns : Nat}
    (h : rangedCommand c = some (code, decode, turns)) (notClears : clearsRecords c = false) (r : StationRequest)
    (own : r.code = code) : r.lasting := by
  have other : code ≠ 0x12 ∧ code ≠ 0x07 := by
    cases c
    case configureStation | clearFault => cases notClears
    case readStations | deploy | lock | release | armRelease | rewind | halt | selectProfile =>
      cases h
      decide
    all_goals cases h
  subst own
  exact ⟨fun e => other.1 (by rw [e]; rfl), fun d e => other.2 (by rw [e]; rfl)⟩

/-- Every command but a reset and those that work a station range. -/
theorem exec_course_unranged {c : Instr} (h : exec c s = .next t) (notReset : resetsPart c = false)
    (unranged : rangedCommand c = none) : Course s t := by
  cases c
  case powerOnReset | pinReset => cases notReset
  case readStations | configureStation | deploy | lock | release | armRelease | rewind | halt | selectProfile | clearFault =>
    cases unranged
  case unknownRequest => exact .unknownRequest h
  all_goals obtain rfl := Host.Outcome.next.inj h
  case frameReceived bytes => exact .receiveBytes s bytes
  case frameCheckFailed bytes => exact .receiveBytes s bytes
  case frameGapTimeout late => exact (Course.modLink id id id).trans (.receiveBytes _ _)
  case identify | readBerth | readProfiles | readCounters => exact .serveRead s _ _
  case configureBerth => exact .serveBerth Course.applyConfigureBerth s _ _
  case writeProfile => exact .serveBerth Course.applyWriteProfile s _ _
  case setCondition => exact .serveBerth Course.applySetCondition s _ _
  case commissionLock => exact .serveBerth Course.applyCommissionLock s _ _
  case setCounter => exact .serveBerth Course.applySetCounter s _ _
  case restart => exact .serveBerth Course.applyRestart s _ _
  case transmitNextFrame => exact .transmitNext s
  case linkWatchExpiry => exact .ite (fun _ => .watchExpires s) fun _ => .refl s
  case sampleRecordReceived i bytes => exact (StationWork.takeSampleBytes s i bytes).course
  case sampleRecordGap i => exact (StationWork.modMuOther rfl rfl).course
  case sampleTimeout i => exact .ite (fun _ => (StationWork.loseStream s i).course) fun _ => .refl s
  case encoderEdge i a b => exact (StationWork.encoderMoves s i a b).course
  case speedWindowEnd i => exact .ite (fun _ => .windowEnds s i) fun _ => .refl s
  case stallTimeout i => exact .timeout s i .stall
  case driveReadyTimeout i => exact .timeout s i .driveNotReady
  case brakeLiftTimeout i => exact .timeout s i .brakeStuck
  case stopTimeout i => exact .timeout s i .overrun
  case brakeSetTimeout i => exact .ite (fun _ => .brakeSetExpires s i) fun _ => .refl s
  case rawInputEdge input level => exact .rawEdge s input level
  case filterWidthElapsed input => exact .ite (fun _ => .filterPasses s input) fun _ => .refl s
  case sliceExpiry i => exact .sliceExpiry s i
  case pulseDelayEnd i =>
    exact .ite (fun _ => ((StationWork.energize s i).trans (.confirmTest _ i)).course) fun _ => .refl s
  case pulseWidthEnd i =>
    exact .ite (fun _ => ((StationWork.endPulse s i).trans (.confirmTest _ i)).course) fun _ => .refl s
  case confirmTimeout i =>
    exact .ite (fun _ => (StationWork.confirmTimesOut s i).course) fun _ => (StationWork.takeExhaustion s i).course
  case conflictTimeout i =>
    exact .ite (fun _ => ((StationWork.modLpu s i _).trans (.detect _ i _)).course) fun _ => .refl s
  case armExpiry i => exact .ite (fun _ => (StationWork.armEnds s i).course) fun _ => .refl s
  case timeBaseTick => exact .timeBaseTick s

/-- Every command but a reset keeps what a step keeps. -/
theorem exec_kept {c : Instr} (h : exec c s = .next t) (notReset : resetsPart c = false) : Kept s t := by
  cases ranged : rangedCommand c with
  | none => exact (exec_course_unranged h notReset ranged).toKept
  | some served =>
    obtain ⟨code, decode, turns⟩ := served
    obtain rfl := Host.Outcome.next.inj ((exec_ranged ranged s).symm.trans h)
    exact .serveStations (decodesFor_ranged ranged) s turns

/-- Every command but a reset, CLEAR_FAULT and CONFIGURE_STATION keeps the fault records and the service besides. -/
theorem exec_course {c : Instr} (fits : s.requestFits) (h : exec c s = .next t) (notReset : resetsPart c = false)
    (notClears : clearsRecords c = false) : Course s t := by
  cases ranged : rangedCommand c with
  | none => exact exec_course_unranged h notReset ranged
  | some served =>
    obtain ⟨code, decode, turns⟩ := served
    obtain rfl := Host.Outcome.next.inj ((exec_ranged ranged s).symm.trans h)
    exact .serveStations (decodesFor_ranged ranged) (lasting_of_ranged ranged notClears) fits turns

/-- A reset leaves the invariants of every step, and the lock clear (R1, R164). -/
theorem exec_reset {c : Instr} (h : exec c s = .next t) (reset : resetsPart c = true) :
    t.invariants ∧ t.berth.locked = false ∧ ∀ i : Station, (t.station i).lcc.lineState = .offline := by
  have left (cause : ResetCause) (found : Pins) : (resetTo s cause found).invariants ∧
      (resetTo s cause found).berth.locked = false ∧
      ∀ i : Station, ((resetTo s cause found).station i).lcc.lineState = .offline := by
    refine ⟨atReset_invariants cause found, rfl, fun i => ?_⟩
    change ((State.atReset cause found).station i).lcc.lineState = .offline
    rw [State.atReset_station]
    rfl
  cases c
  case powerOnReset found => cases h; exact left .powerOn found
  case pinReset => cases h; exact left .resetPin s.pins
  all_goals cases reset

/-- A step idles, or runs the command at the front of the queue (R3). -/
theorem step_cases (h : step s = .next t) :
    t = s ∨ ∃ c rest, s.pending = c :: rest ∧ exec c { s with pending := rest } = .next t := by
  unfold step at h
  split at h
  · cases h
    exact .inl rfl
  · next c rest queue => exact .inr ⟨c, rest, queue, h⟩

/-- A step of the part, seen from the state with the command taken off the queue: it keeps what a step keeps, or it is a
reset. -/
theorem step_kept (h : step s = .next t) : Kept s t ∨
    (t.invariants ∧ t.berth.locked = false ∧ ∃ c ∈ s.pending.head?, resetsPart c = true) := by
  rcases step_cases h with rfl | ⟨c, rest, queue, run⟩
  · exact .inl (Course.refl t).toKept
  · cases reset : resetsPart c with
    | false =>
      have taken : Course s { s with pending := rest } := .beside rfl rfl rfl rfl rfl id id id
      exact .inl (taken.toKept.trans (exec_kept run reset))
    | true =>
      obtain ⟨invariants, clear, _⟩ := exec_reset run reset
      exact .inr ⟨invariants, clear, c, by rw [queue]; rfl, reset⟩

end Commands

/-! ### The obligations -/

/-- Settles O1: the step function's own branch. -/
theorem stepRunsFrontCommand : Obligations.StepRunsFrontCommand := by
  unfold Obligations.StepRunsFrontCommand
  intro c rest s
  rfl

/-- Settles O3: each block's reset values meet the invariants. -/
theorem invariantsHoldAtReset : Obligations.InvariantsHoldAtReset :=
  ⟨atReset_invariants, atReset_invariants .powerOn Pins.inactive⟩

/-- Settles O52: every command keeps the measures and the counts of every station apart from each other (`Kept`). -/
theorem stepKeepsMeasures : Obligations.StepKeepsMeasures := by
  unfold Obligations.StepKeepsMeasures
  intro s t measures counts h
  rcases step_kept h with kept | ⟨invariants, _⟩
  · exact ⟨kept.measures measures, kept.counts counts⟩
  · obtain ⟨measures, counts, _⟩ := t.invariants_iff.mp invariants
    exact ⟨measures, counts⟩

/-- Settles O53: the effective profile follows each change of its configuration and of the ceiling in force. -/
theorem stepKeepsEffectiveProfiles : Obligations.StepKeepsEffectiveProfiles := by
  unfold Obligations.StepKeepsEffectiveProfiles
  intro s t profiles h
  rcases step_kept h with kept | ⟨invariants, _⟩
  · exact kept.profiles profiles
  · obtain ⟨_, _, profiles, _⟩ := t.invariants_iff.mp invariants
    exact profiles

/-- What safe drives put out (Table 5-3, R100). -/
theorem State.driveSafe.outputs {s : State} (h : s.driveSafe true) (i : Station) :
    (s.demandOut i ≠ 0 → (s.station i).dhu.phase ∈ [DrivePhase.running, .stopping]) ∧
    (s.brakeRelease i = true → s.dsa.holds i = true ∧ s.zoneFilter.level = false ∧
      (s.station i).dhu.phase ∈ [DrivePhase.brakeWait, .running, .stopping]) := by
  refine ⟨fun demand => ?_, fun released => ?_⟩
  · simpa using (h i).2.1.resolve_left demand
  · have moving : (s.station i).dhu.phase ∈ [DrivePhase.brakeWait, .running, .stopping] := by
      unfold State.brakeRelease at released
      split at released
      case h_1 phase | h_2 phase | h_3 phase => simp [phase]
      case h_4 => cases released
    have active : (s.station i).dhu.phase.isActive = true ∧ (s.station i).dhu.phase ≠ .idle := by
      generalize (s.station i).dhu.phase = phase at moving ⊢
      revert phase
      decide
    exact ⟨(h i).1.mpr active.2, h.zone_clear active.1, moving⟩

/-- Settles O54: safe drives (`State.driveSafe`) are kept by every command, and say what the outputs show. -/
theorem stepKeepsDriveOutputsSafe : Obligations.StepKeepsDriveOutputsSafe := by
  unfold Obligations.StepKeepsDriveOutputsSafe
  intro s t demands slots zone h
  have safe : t.driveSafe true := by
    rcases step_kept h with kept | ⟨invariants, _⟩
    · exact kept.safe (s.driveSafe_iff.mpr ⟨demands, slots, zone⟩)
    · obtain ⟨_, _, _, safe, _⟩ := t.invariants_iff.mp invariants
      exact safe
  obtain ⟨demands, slots, zone⟩ := t.driveSafe_iff.mp safe
  exact ⟨demands, slots, zone, safe.outputs⟩

/-- Settles O55: the arbiter's order and no idle slot (`Dsa.settled`) are kept by every command. -/
theorem stepKeepsArbiterOrder : Obligations.StepKeepsArbiterOrder := by
  unfold Obligations.StepKeepsArbiterOrder
  intro s t slots idle ordered h
  rcases step_kept h with kept | ⟨invariants, _⟩
  · obtain ⟨⟨slots, ordered⟩, idle⟩ := kept.settled ⟨⟨slots, ordered⟩, idle⟩
    exact ⟨slots, idle, ordered⟩
  · obtain ⟨_, _, _, _, ⟨⟨slots, ordered⟩, idle⟩, _⟩ := t.invariants_iff.mp invariants
    exact ⟨slots, idle, ordered⟩

/-- Settles O56: a need comes with each entry of a motion state and goes with each change of state. -/
theorem stepKeepsNeeds : Obligations.StepKeepsNeeds := by
  unfold Obligations.StepKeepsNeeds
  intro s t needs h
  rcases step_kept h with kept | ⟨invariants, _⟩
  · exact kept.needs needs
  · obtain ⟨_, _, _, _, _, needs, _⟩ := t.invariants_iff.mp invariants
    exact needs

/-- Settles O57: the berth requests alone write closed values, each under the lock's test, and a reset alone clears it. -/
theorem stepKeepsLockedValues : Obligations.StepKeepsLockedValues := by
  unfold Obligations.StepKeepsLockedValues
  intro s t locked h
  rcases step_kept h with kept | ⟨invariants, clear, c, front, reset⟩
  · refine ⟨kept.locked locked, fun set _ => ?_, fun set _ => ?_⟩
    · obtain ⟨_, snapshot, threshold⟩ := kept.snapshots set
      exact ⟨snapshot, threshold⟩
    · obtain ⟨stays, _⟩ := kept.snapshots set
      exact stays
  · obtain ⟨_, _, _, _, _, _, locked, _⟩ := t.invariants_iff.mp invariants
    refine ⟨locked, fun _ stays => ?_, fun _ noReset => ?_⟩
    · cases clear.symm.trans stays
    · cases reset.symm.trans (noReset c front)

/-- Settles O58: the inbound queue, the keys of the Report Queue and the request under way are kept by every command. -/
theorem stepKeepsQueues : Obligations.StepKeepsQueues := by
  unfold Obligations.StepKeepsQueues
  intro s t h
  rcases step_kept h with kept | ⟨invariants, _⟩
  · exact ⟨kept.inbound, kept.keys, kept.fits⟩
  · obtain ⟨_, _, _, _, _, _, _, inbound, keys, fits⟩ := t.invariants_iff.mp invariants
    exact ⟨fun _ => inbound, fun _ => keys, fun _ => fits⟩

/-- Settles O59: every command but those keeps each fault record that stands (`Course.lasts`). -/
theorem faultRecordsContinue : Obligations.FaultRecordsContinue := by
  unfold Obligations.FaultRecordsContinue
  intro s t c i old fits h stands notReset notClears
  exact ((exec_course fits h notReset notClears).lasts i).record old stands

/-! ### OFFLINE -/

/-- Every station that is OFFLINE stays so. -/
def OfflineKept (s t : State) : Prop :=
  ∀ i : Station, (s.station i).lcc.lineState = .offline → (t.station i).lcc.lineState = .offline

section OfflineKept

variable {s t u : State}

theorem OfflineKept.of_stations (h : t.stations = s.stations) : OfflineKept s t := fun i off => by
  rwa [State.station, h]

theorem OfflineKept.trans (h : OfflineKept s t) (k : OfflineKept t u) : OfflineKept s u := fun i off => k i (h i off)

theorem Course.offlineKept (h : Course s t) : OfflineKept s t := fun i off => (h.lasts i).service.mpr off

theorem advance_offlineKept (s : State) (w : Working) (part : List Byte) : OfflineKept s (advance s w part) := by
  dsimp only [advance]
  split <;> exact .of_stations rfl

/-- No request but CONFIGURE_STATION works at an OFFLINE station (R8). -/
theorem applyRequest_offlineKept {r : StationRequest} (other : ∀ d, r ≠ .configureStation d) (j : Station) :
    OfflineKept s (applyRequest s j r).1 := by
  by_cases clear : r = .clearFault
  · subst clear
    intro i off
    by_cases own : i = j
    · subst own
      simp [applyRequest, inServiceOnly, State.inService, off]
    · rw [((StationEdit.applyRequest s j .clearFault).ops.keeps.beside.others i own).lcc]
      exact off
  · exact (StationWork.applyRequest rfl clear other).course.offlineKept

theorem oneTurn_offlineKept {w : Working} (other : ∀ d, w.request ≠ .configureStation d) (i : Station) :
    OfflineKept s (oneTurn s w i) := by
  by_cases read : w.request = .readStations
  · rw [oneTurn_read read]
    split
    · exact advance_offlineKept s w _
    · exact .of_stations rfl
  · rw [oneTurn_request read]
    exact (applyRequest_offlineKept other i).trans (advance_offlineKept _ w _)

theorem runTurns_offlineKept (n : Nat) : ∀ s : State,
    (∀ w, s.link.working = some w → ∀ d, w.request ≠ .configureStation d) → OfflineKept s (runTurns n s) := by
  induction n with
  | zero => exact fun s _ => .of_stations rfl
  | succ n ih =>
    intro s other
    unfold runTurns
    split
    · exact .of_stations rfl
    · next w under =>
      split
      · refine (oneTurn_offlineKept (other w under) _).trans (ih _ fun w' next => ?_)
        rw [oneTurn_working next]
        exact other w under
      · have ended : OfflineKept s (finishWorking s w) := .of_stations rfl
        refine ended.trans (ih _ fun w' next => ?_)
        rw [finishWorking_working] at next
        cases next

theorem serveStations_offlineKept {code : Byte} {decode : List Byte → Decoded RangeRequest} (h : decodesFor code decode)
    (other : code ≠ 0x07) (fits : s.requestFits) (turns : Nat) : OfflineKept s (serveStations s code decode turns) := by
  have taken := Course.stationFrameTaken h s
  rw [serveStations_eq]
  split
  · next own =>
    refine taken.offlineKept.trans (runTurns_offlineKept turns _ fun w under d configures => other ?_)
    obtain ⟨ofCode, _⟩ := taken.fits fits w under
    simp only [State.workingOn, under, decide_eq_true_eq] at own
    rw [← own, ofCode, configures]
    rfl
  · exact taken.offlineKept

theorem rangedCommand_code {c : Instr} {code : Byte} {decode : List Byte → Decoded RangeRequest} {turns : Nat}
    (h : rangedCommand c = some (code, decode, turns)) (other : ∀ n, c ≠ .configureStation n) : code ≠ 0x07 := by
  cases c
  case configureStation n => exact absurd rfl (other n)
  case readStations | deploy | lock | release | armRelease | rewind | halt | selectProfile | clearFault =>
    cases h
    decide
  all_goals cases h

theorem exec_offlineKept {c : Instr} (fits : s.requestFits) (h : exec c s = .next t)
    (other : ∀ n, c ≠ .configureStation n) : OfflineKept s t := by
  cases reset : resetsPart c with
  | true =>
    obtain ⟨_, _, offline⟩ := exec_reset h reset
    exact fun i _ => offline i
  | false =>
    cases ranged : rangedCommand c with
    | none => exact (exec_course_unranged h reset ranged).offlineKept
    | some served =>
      obtain ⟨code, decode, turns⟩ := served
      obtain rfl := Host.Outcome.next.inj ((exec_ranged ranged s).symm.trans h)
      exact serveStations_offlineKept (decodesFor_ranged ranged) (rangedCommand_code ranged other) fits turns

end OfflineKept

/-- Settles O60: every other command leaves an OFFLINE station OFFLINE (`exec_offlineKept`). -/
theorem offlineLeftByConfigureStation : Obligations.OfflineLeftByConfigureStation := by
  unfold Obligations.OfflineLeftByConfigureStation
  intro s t c i fits h off left
  by_contra other
  exact left (exec_offlineKept fits h (fun n e => other ⟨n, e⟩) i off)

end Sys2Proof.Machine

/-!
PROOF. Resets (O2), the layout of the station record (Table 9-4), and what the Transmitter sends (O10): each code is its place in
its row of Table 9-3, the flag bytes spell their flags, and a report's payload is the one of its kind.
-/
namespace Sys2Proof.Machine

/-! ### Resets -/

theorem Quarter.ofLevels_enc (q : Quarter) : Quarter.ofLevels q.encA q.encB = q := by
  cases q <;> rfl

theorem atReset_afterReset (cause : ResetCause) (found : Pins) : AfterReset cause found (State.atReset cause found) := by
  refine ⟨fun i => ?_, rfl, rfl, rfl, rfl, rfl, rfl, rfl, rfl, rfl, rfl, rfl, ?_, rfl, rfl, fun n => ?_, rfl, rfl, rfl,
    rfl⟩
  · rw [State.atReset_station, ← Quarter.ofLevels_eq]
    exact ⟨rfl, rfl, rfl, rfl, rfl, rfl, rfl⟩
  · have silent (i : Station) : ((State.atReset cause found).station i).shown = 0 := by
      rw [State.atReset_station]
      rfl
    have none : allStations.any (fun i => decide (((State.atReset cause found).station i).shown &&&
        (State.atReset cause found).routing ≠ 0)) = false := by
      simp [silent]
    rw [State.berthAlarm, none]
    rfl
  · fin_cases n <;> rfl

theorem AfterReset.resetTo {cause : ResetCause} {found : Pins} (s : State)
    (h : AfterReset cause found (State.atReset cause found)) : AfterReset cause found (resetTo s cause found) := h

theorem State.pins_station (s : State) (i : Station) : s.pins.stations.get i = (s.station i).pins := by
  fin_cases i <;> rfl

/-- Settles O2: the state after a reset block by block, a pin reset finding the pins as they stand. -/
theorem resetStates : Obligations.ResetStates := by
  unfold Obligations.ResetStates
  intro found s
  refine ⟨⟨_, rfl, .resetTo s (atReset_afterReset .powerOn found), rfl⟩,
    ⟨_, rfl, .resetTo s (atReset_afterReset .resetPin s.pins), rfl, rfl, fun i => ?_⟩⟩
  change ((State.atReset .resetPin s.pins).station i).mu.quarter = _ ∧ ∀ which : Sensor,
    ((((State.atReset .resetPin s.pins).station i).filters).get which).level = _
  rw [State.atReset_station, State.pins_station]
  exact ⟨Quarter.ofLevels_enc _, fun which => by cases which <;> rfl⟩

/-! ### Codes (Table 9-3) -/

theorem LineState.be8_code (l : LineState) : be8 l.code = [codeIn lineStateRow l] := by
  cases l <;> rfl

theorem Reason.be8_code (r : Reason) : be8 r.code = [codeIn reasonRow r] := by
  cases r <;> rfl

theorem FaultKind.be8_code (k : FaultKind) : be8 k.code = [codeIn faultKindRow k] := by
  cases k <;> rfl

theorem DrivePhase.be8_code (p : DrivePhase) :
    be8 p.code = [codeIn [DrivePhase.idle, .driveWait, .brakeWait, .running, .stopping, .setting, .held] p] := by
  cases p <;> rfl

theorem LatchPosition.be8_code (p : LatchPosition) :
    be8 p.code = [codeIn [LatchPosition.closed, .opened, .moving, .conflict] p] := by
  cases p <;> rfl

theorem profileByte_eq (p : Option ProfileNo) : profileByte p = [optionalProfile p] := by
  cases p <;> rfl

/-! ### Numbers -/

theorem beInt16_eq (z : Int) : beInt16 z = beBytes 2 (z % 65536).toNat := by
  rw [beInt16, BitVec.toNat_ofInt]
  rfl

theorem beInt32_eq (z : Int) : beInt32 z = beBytes 4 (z % 4294967296).toNat := by
  rw [beInt32, BitVec.toNat_ofInt]
  rfl

/-! ### The slot -/

theorem positionIn_eq (i : Station) (l : List WaitEntry) (n : Nat) :
    positionIn i l n = match l.findIdx? fun e => decide (e.station = i) with
      | some k => k + n
      | none => 0 := by
  induction l generalizing n with
  | nil => rfl
  | cons e l ih =>
    rw [positionIn, List.findIdx?_cons]
    by_cases own : e.station = i
    · simp [own]
    · rw [if_neg own, ih, if_neg (by simpa using own)]
      cases l.findIdx? fun e => decide (e.station = i) with
      | none => rfl
      | some k =>
        change k + (n + 1) = k + 1 + n
        omega

theorem Dsa.be8_position (d : Dsa) (i : Station) :
    be8 (d.position i) = [match d.waiting.findIdx? fun e => decide (e.station = i) with
      | some k => BitVec.ofNat 8 (k + 1)
      | none => 0] := by
  rw [Dsa.position, positionIn_eq]
  cases d.waiting.findIdx? fun e => decide (e.station = i) <;> rfl

theorem State.be8_slotStatus (s : State) (i : Station) :
    be8 (s.slotStatus i) = [if s.dsa.holds i then (if (s.station i).dhu.phase = .held then 3 else 2)
      else if s.dsa.waits i then 1 else 0] := by
  unfold State.slotStatus
  split_ifs <;> rfl

/-! ### Flags -/

theorem recordFlags_eq (a : StationState) (correction : Option Int) :
    be8 (bitsToNat [a.mu.saturated, a.mu.referenced, a.filters.headSeated.level, a.filters.stowed.level,
      a.lcc.armExpiry.isSome, a.lcc.fault.isSome, correction.isSome]) = [a.recordFlags correction] := by
  unfold StationState.recordFlags
  generalize a.mu.saturated = b0, a.mu.referenced = b1, a.filters.headSeated.level = b2, a.filters.stowed.level = b3,
    a.lcc.armExpiry.isSome = b4, a.lcc.fault.isSome = b5, correction.isSome = b6
  revert b0 b1 b2 b3 b4 b5 b6
  decide

theorem alarmBits_eq (held saturated lost unreferenced : Bool) :
    be8 (BitVec.ofBool unreferenced ++ BitVec.ofBool lost ++ BitVec.ofBool saturated ++ BitVec.ofBool held).toNat =
      [(if held then 1 else 0) + (if saturated then 2 else 0) + (if lost then 4 else 0) + (if unreferenced then 8 else 0)] := by
  revert held saturated lost unreferenced
  decide

theorem recordAlarms_eq (a : StationState) : be8 a.alarmSet.toNat = [a.recordAlarms] := by
  rw [StationState.alarmSet, alarmBits_eq]
  unfold StationState.recordAlarms StationState.overloadHeldAlarm StationState.saturatedAlarm
    StationState.sampleLostAlarm StationState.unreferencedAlarm
  by_cases off : a.lcc.lineState = .offline
  · simp [off]
  · cases referenced : a.mu.referenced <;> simp [off]

/-! ### The record -/

theorem faultRecordBytes_eq (r : FaultRecord) : faultRecordBytes r =
    [codeIn faultKindRow r.first, codeIn lineStateRow r.stateAtEntry] ++ beBytes 4 r.berthTime.toNat ++
      beBytes 2 r.tension ++ beBytes 3 r.count ++ beBytes 2 r.further.toNat := by
  rw [faultRecordBytes, FaultKind.be8_code, LineState.be8_code]
  rfl

/-- The station record in the words of Table 9-4. -/
theorem stationRecord_eq (s : State) (i : Station) (correction : Option Int) :
    stationRecord s i correction = s.recordBytes i correction := by
  dsimp only [stationRecord, State.recordBytes]
  rw [LineState.be8_code, Reason.be8_code, profileByte_eq, profileByte_eq, profileByte_eq, beInt16_eq,
    DrivePhase.be8_code, State.be8_slotStatus, Dsa.be8_position, LatchPosition.be8_code, recordFlags_eq, recordAlarms_eq]
  cases (s.station i).lcc.fault <;> cases correction <;>
    simp only [faultRecordBytes_eq, beInt32_eq, List.append_assoc, List.cons_append, List.nil_append] <;> rfl

/-! ### The Transmitter -/

theorem exec_transmitNextFrame (s : State) : exec .transmitNextFrame s = .next (transmitNext s) := rfl

theorem transmitNext_reply {s : State} {reply : List Byte} (h : s.link.replySlot = some reply) :
    transmitNext s = { s with link := { s.link with replySlot := none, lineTx := some (frameOf reply) } } := by
  simp only [transmitNext, h]
  rfl

theorem transmitNext_idle {s : State} (slot : s.link.replySlot = none) (reports : s.link.reports = []) :
    transmitNext s = { s with link := { s.link with lineTx := none } } := by
  have free : transmitNext s = s.modLink fun l => { l with lineTx := none } := by
    simp only [transmitNext, slot, reports]
  exact free

theorem transmitNext_report {s : State} {e : ReportEntry} {rest : List ReportEntry} (slot : s.link.replySlot = none)
    (reports : s.link.reports = e :: rest) : transmitNext s = s.sends rest (reportPayload s e) := by
  simp only [transmitNext, slot, reports]
  rfl

/-- The stations in HELD in the bits of a ZONE report (R183). -/
theorem heldStations_eq (s : State) :
    heldStations s = (allStations.map fun j => if (s.station j).dhu.phase = .held then 2 ^ j.val else 0).sum := by
  have bit (j : Station) : (decide ((s.station j).dhu.phase = .held)).toNat =
      if (s.station j).dhu.phase = .held then 1 else 0 := by
    split_ifs with held <;> simp [held]
  have scaled (k : Nat) (p : Prop) [Decidable p] : (if p then k else 0) = k * if p then 1 else 0 := by
    split_ifs <;> simp
  have weighed (l : List Station) : (l.map fun j => if (s.station j).dhu.phase = .held then 2 ^ j.val else 0) =
      l.map fun j => 2 ^ j.val * if (s.station j).dhu.phase = .held then 1 else 0 :=
    List.map_congr_left fun j _ => scaled _ _
  rw [weighed]
  simp only [heldStations, allStations, List.map_cons, List.map_nil, bitsToNat, bit, List.sum_cons, List.sum_nil,
    Fin.isValue, Fin.coe_ofNat_eq_mod, Nat.reduceMod, Nat.reducePow]
  omega

/-- Settles O10: the reply first, else the head report, its payload read off the state by kind. -/
theorem transmitterSendsNext : Obligations.TransmitterSendsNext := by
  unfold Obligations.TransmitterSendsNext
  intro s reply rest i event n
  simp only [exec_transmitNextFrame]
  refine ⟨fun h => by rw [transmitNext_reply h], fun slot reports => by rw [transmitNext_idle slot reports],
    fun slot => ⟨fun h => ?_, fun h => ?_, fun h => ?_, fun h => ?_, fun h => ?_⟩⟩
  all_goals rw [transmitNext_report slot h]
  · rw [reportPayload, stationRecord_eq]
    rfl
  · rw [reportPayload]
    generalize s.settings.watchMode = mode
    cases event <;> cases mode <;> rfl
  · rw [reportPayload, heldStations_eq]
    rfl
  · rfl
  · rw [reportPayload]
    generalize s.berth.resetCause = cause
    cases cause <;> rfl

end Sys2Proof.Machine

/-!
PROOF. Bytes and requests taken in pieces: what the Receiver makes of a frame that fails its checks (O6, R169), of a run of
bytes cut in two and of a station range worked in two (O29, R169, R173), and the records that the Measurement Unit does not
take (O31, R46, R49).
-/
namespace Sys2Proof.Machine

/-! ### The Receiver over a run of bytes -/

theorem scanBytes_noStart {l : List Byte} (h : ∀ b ∈ l, b ≠ 0xA5) : scanBytes 0 l = { frames := [], held := [] } := by
  induction l with
  | nil => rfl
  | cons b l ih =>
    obtain ⟨first, later⟩ := List.forall_mem_cons.mp h
    rw [scanBytes, if_pos first, ih later]

/-- A frame that fails a check is hunted again from the byte behind its start byte (R169). -/
theorem scanBytes_failed {rest : List Byte} (h : checkFrame rest = .failed) :
    scanBytes 0 (0xA5 :: rest) = scanBytes 0 rest := by
  rw [scanBytes, if_neg (not_not.mpr rfl), h]

theorem scanBytes_incomplete {rest : List Byte} (h : checkFrame rest = .incomplete) :
    scanBytes 0 (0xA5 :: rest) = { frames := [], held := 0xA5 :: rest } := by
  rw [scanBytes, if_neg (not_not.mpr rfl), h]

theorem scanBytes_good {rest payload : List Byte} (h : checkFrame rest = .good payload) :
    scanBytes 0 (0xA5 :: rest) = { scanBytes (payload.length + 3) rest with
      frames := payload :: (scanBytes (payload.length + 3) rest).frames } := by
  rw [scanBytes, if_neg (not_not.mpr rfl), h]

theorem checkFrame_failed {len : Byte} {body : List Byte}
    (h : len.toNat < 2 ∨ 250 < len.toNat ∨
      (body.length = len.toNat + 2 ∧ body.drop len.toNat ≠ be16 (crc (len :: body.take len.toNat)).toNat)) :
    checkFrame (len :: body) = .failed := by
  rw [checkFrame]
  by_cases bad : len.toNat < 2 ∨ 250 < len.toNat
  · exact if_pos bad
  · obtain ⟨whole, wrong⟩ := (or_assoc.mpr h).resolve_left bad
    have check : (body.drop len.toNat).take 2 = body.drop len.toNat :=
      List.take_of_length_le (by rw [List.length_drop]; omega)
    rw [if_neg (show ¬(len.toNat < Config.payloadMin ∨ Config.payloadMax < len.toNat) from bad),
      if_neg (by omega)]
    exact if_neg (by rw [check]; exact wrong.symm)

/-- The payload of a good frame and its check are bytes behind the start byte. -/
theorem length_of_checkFrame_good {rest payload : List Byte} (h : checkFrame rest = .good payload) :
    payload.length + 3 ≤ rest.length := by
  cases rest with
  | nil => cases h
  | cons len rest =>
    rw [checkFrame] at h
    dsimp only at h
    split_ifs at h with bad short
    obtain rfl := FrameCheck.good.inj h
    rw [List.length_take, List.length_cons]
    omega

/-- More bytes do not change what the bytes of a whole frame come to. -/
theorem checkFrame_append {rest : List Byte} (h : checkFrame rest ≠ .incomplete) (more : List Byte) :
    checkFrame (rest ++ more) = checkFrame rest := by
  cases rest with
  | nil => exact absurd rfl h
  | cons len rest =>
    rw [List.cons_append, checkFrame, checkFrame]
    rw [checkFrame] at h
    split_ifs at h ⊢ with bad longer short
    · rfl
    · exact absurd rfl h
    · rw [List.length_append] at longer
      omega
    · exact absurd rfl h
    · have payload : (rest ++ more).take len.toNat = rest.take len.toNat := List.take_append_of_le_length (by omega)
      have check : ((rest ++ more).drop len.toNat).take 2 = (rest.drop len.toNat).take 2 := by
        rw [List.drop_append_of_le_length (by omega), List.take_append_of_le_length (by rw [List.length_drop]; omega)]
      rw [payload, check]

/-- Bytes behind a run already taken are taken behind the bytes it left held (R169). -/
theorem scanBytes_append (more : List Byte) : ∀ (bytes : List Byte) (skip : Nat), skip ≤ bytes.length →
    scanBytes skip (bytes ++ more) =
      { frames := (scanBytes skip bytes).frames ++ (scanBytes 0 ((scanBytes skip bytes).held ++ more)).frames
        held := (scanBytes 0 ((scanBytes skip bytes).held ++ more)).held } := by
  intro bytes
  induction bytes with
  | nil =>
    intro skip le
    obtain rfl := Nat.le_zero.mp le
    rfl
  | cons b bytes ih =>
    intro skip le
    cases skip with
    | succ skip => exact ih skip (Nat.le_of_succ_le_succ le)
    | zero =>
      by_cases start : b = 0xA5
      · subst start
        cases checked : checkFrame bytes with
        | incomplete => rw [scanBytes_incomplete checked, List.nil_append]
        | failed =>
          have longer := (checkFrame_append (by simp [checked]) more).trans checked
          rw [List.cons_append, scanBytes_failed longer, scanBytes_failed checked, ih 0 (Nat.zero_le _)]
        | good payload =>
          have longer := (checkFrame_append (by simp [checked]) more).trans checked
          rw [List.cons_append, scanBytes_good longer, scanBytes_good checked, ih _ (length_of_checkFrame_good checked)]
          rfl
      · rw [List.cons_append, scanBytes, if_pos start, scanBytes, if_pos start, ih 0 (Nat.zero_le _)]

/-! ### Bytes on LINK_RX -/

theorem exec_frameCheckFailed (bytes : List Byte) (s : State) :
    exec (.frameCheckFailed bytes) s = .next (receiveBytes s bytes) := rfl

theorem exec_frameGapTimeout (late : Byte) (s : State) :
    exec (.frameGapTimeout late) s = .next (receiveBytes (s.modLink fun l => { l with rxHeld := [] }) [late]) := rfl

/-- The Receiver holds these bytes of a frame in collection (R169). -/
def State.collecting (s : State) (bytes : List Byte) : State := s.modLink fun l => { l with rxHeld := bytes }

theorem collecting_acceptFrame (s : State) (bytes payload : List Byte) :
    acceptFrame (s.collecting bytes) payload = (acceptFrame s payload).collecting bytes := by
  simp only [acceptFrame, watchFrame_eq, enqueue_eq]
  rfl

theorem foldl_acceptFrame_collecting (s : State) (bytes : List Byte) (frames : List (List Byte)) :
    frames.foldl acceptFrame (s.collecting bytes) = (frames.foldl acceptFrame s).collecting bytes := by
  induction frames generalizing s with
  | nil => rfl
  | cons payload frames ih => rw [List.foldl_cons, collecting_acceptFrame, ih, List.foldl_cons]

theorem receiveBytes_eq (s : State) (bytes : List Byte) :
    receiveBytes s bytes = ((scanBytes 0 (s.link.rxHeld ++ bytes)).frames.foldl acceptFrame s).collecting
      (scanBytes 0 (s.link.rxHeld ++ bytes)).held :=
  foldl_acceptFrame_collecting s _ _

theorem receiveBytes_append (s : State) (bytes more : List Byte) :
    receiveBytes s (bytes ++ more) = receiveBytes (receiveBytes s bytes) more := by
  have held : (receiveBytes s bytes).link.rxHeld = (scanBytes 0 (s.link.rxHeld ++ bytes)).held := by
    rw [receiveBytes_eq]
    rfl
  rw [receiveBytes_eq s, receiveBytes_eq (receiveBytes s bytes), held, ← List.append_assoc,
    scanBytes_append more _ 0 (Nat.zero_le _)]
  dsimp only
  rw [List.foldl_append, receiveBytes_eq s, foldl_acceptFrame_collecting]
  rfl

theorem collecting_self {s : State} {bytes : List Byte} (h : s.link.rxHeld = bytes) : s.collecting bytes = s := by
  subst h
  rfl

/-- Settles O6: the Receiver hunts a failed frame again from the byte behind its start byte (`scanBytes_failed`), and bytes
without a start byte are discarded (`scanBytes_noStart`). -/
theorem badFramesLeaveNoTrace : Obligations.BadFramesLeaveNoTrace := by
  unfold Obligations.BadFramesLeaveNoTrace
  intro s len late body
  refine ⟨fun hunting bad => ⟨receiveBytes s (len :: body), ?_, rfl, fun noStart => ?_⟩, ?_⟩
  · rw [exec_frameCheckFailed, receiveBytes_eq, receiveBytes_eq, hunting, List.nil_append, List.nil_append,
      scanBytes_failed (checkFrame_failed bad)]
  · rw [receiveBytes_eq, hunting, List.nil_append, scanBytes_noStart noStart]
    exact collecting_self hunting
  · rw [exec_frameGapTimeout, receiveBytes_eq]
    by_cases start : late = 0xA5
    · subst start
      rfl
    · have discarded : scanBytes 0 [late] = { frames := [], held := [] } := scanBytes_noStart (by simpa using start)
      rw [if_neg start, State.modLink_link, List.nil_append, discarded]
      rfl

/-! ### A station range worked in two steps -/

theorem runTurns_add (m n : Nat) (s : State) : runTurns (m + n) s = runTurns n (runTurns m s) := by
  induction m generalizing s with
  | zero => rw [Nat.zero_add]; rfl
  | succ m ih =>
    cases working : s.link.working with
    | none => rw [runTurns_idle _ working, runTurns_idle _ working, runTurns_idle _ working]
    | some w =>
      rw [Nat.add_right_comm]
      simp only [runTurns, working, ih]

/-- The request of this code is under way, or done with its reply in the slot. -/
def State.workedFor (s : State) (code : Byte) : Prop :=
  s.workingOn code = true ∨ (s.link.working = none ∧ s.link.replySlot ≠ none)

theorem workedFor_of_working {s : State} {w : Working} {code : Byte} (h : s.link.working = some w) (own : w.code = code) :
    s.workedFor code :=
  .inl (by simp [State.workingOn, h, own])

theorem workedFor_finishWorking (s : State) (w : Working) (code : Byte) : (finishWorking s w).workedFor code :=
  .inr ⟨rfl, by simp [finishWorking, placeReply]⟩

theorem workedFor_advance (s : State) (w : Working) (part : List Byte) : (advance s w part).workedFor w.code := by
  unfold advance
  dsimp only
  split_ifs
  · exact workedFor_finishWorking s _ _
  · exact workedFor_of_working rfl rfl

theorem workedFor_oneTurn (s : State) (w : Working) (i : Station) : (oneTurn s w i).workedFor w.code := by
  by_cases read : w.request = .readStations
  · rw [oneTurn_read read]
    split_ifs
    · exact workedFor_advance s w _
    · exact workedFor_finishWorking s w _
  · rw [oneTurn_request read]
    exact workedFor_advance _ w _

theorem workedFor_runTurns {code : Byte} (n : Nat) : ∀ {s : State}, s.workedFor code → (runTurns n s).workedFor code := by
  induction n with
  | zero => exact id
  | succ n ih =>
    intro s h
    cases working : s.link.working with
    | none => rwa [runTurns_idle _ working]
    | some w =>
      have own : w.code = code := by simpa [State.workedFor, State.workingOn, working] using h
      subst own
      simp only [runTurns, working]
      refine ih ?_
      split
      · exact workedFor_oneTurn s w _
      · exact workedFor_finishWorking s w _

/-- With its own request under way, or with a reply to be sent, the handler takes no frame. -/
theorem stationFrameTaken_of_workedFor {s : State} {code : Byte} (h : s.workedFor code)
    (decode : List Byte → Decoded RangeRequest) : stationFrameTaken s code decode = s := by
  unfold stationFrameTaken
  obtain own | ⟨idle, replied⟩ := h
  · exact if_pos own
  · obtain ⟨reply, slot⟩ := Option.ne_none_iff_exists'.mp replied
    have waits : s.headFrame = none := by simp [State.headFrame, slot]
    rw [if_neg (by simp [State.workingOn, idle]), takeStationFrame, waits]

/-- A reply in its slot keeps the handler from the next frame (R172). -/
theorem headFrame_replyTo (s : State) (frame : List Byte) (result : FrameResult) (body : List Byte) :
    (replyTo s frame result body).headFrame = none := rfl

theorem takeStationFrame_noHead {s : State} (h : s.headFrame = none) (code : Byte)
    (decode : List Byte → Decoded RangeRequest) : takeStationFrame s code decode = s := by
  rw [takeStationFrame, h]

/-- A frame is taken once: another step of the handler finds its request under way, its reply in the slot, or the same
frame that it did not take. -/
theorem stationFrameTaken_twice (s : State) (code : Byte) (decode : List Byte → Decoded RangeRequest) :
    stationFrameTaken (stationFrameTaken s code decode) code decode = stationFrameTaken s code decode := by
  by_cases own : (stationFrameTaken s code decode).workingOn code = true
  · exact if_pos own
  · have fresh : stationFrameTaken s code decode = takeStationFrame s code decode := by
      unfold stationFrameTaken at own ⊢
      split_ifs at own ⊢ with before
      · exact absurd before own
      · rfl
    rw [fresh] at own ⊢
    rw [stationFrameTaken, if_neg own]
    unfold takeStationFrame at own ⊢
    split at own
    · next none_ => rw [none_]
    · next f head =>
      dsimp only at own ⊢
      split_ifs at own ⊢ with other
      · simp only [head, other, ne_eq, not_false_eq_true, if_true]
      · split at own
        · next e _ => exact takeStationFrame_noHead (headFrame_replyTo _ f e []) code decode
        · exact absurd (by simp [State.workingOn]) own

/-- At most `m` turns and then at most `n` come to at most `m + n` (R173; log 8). -/
theorem serveStations_add (s : State) (code : Byte) (decode : List Byte → Decoded RangeRequest) (m n : Nat) :
    serveStations s code decode (m + n) = serveStations (serveStations s code decode m) code decode n := by
  have again := stationFrameTaken_twice s code decode
  rw [serveStations_eq s, serveStations_eq s code decode m]
  generalize stationFrameTaken s code decode = taken at again ⊢
  by_cases own : taken.workingOn code = true
  · rw [if_pos own, if_pos own, runTurns_add]
    have worked : (runTurns m taken).workedFor code := workedFor_runTurns m (.inl own)
    rw [serveStations_eq, stationFrameTaken_of_workedFor worked]
    obtain underWay | ⟨idle, -⟩ := worked
    · rw [if_pos underWay]
    · rw [runTurns_idle n idle, ite_self]
  · rw [if_neg own, if_neg own, serveStations_eq, again, if_neg own]

/-- Settles O29: the Receiver takes later bytes behind those it holds (`receiveBytes_append`), and every command of a station
range goes on with the request under way (`serveStations_add`). -/
theorem workTakenInPieces : Obligations.WorkTakenInPieces := by
  unfold Obligations.WorkTakenInPieces
  intro s a b m n
  refine ⟨⟨_, exec_frameReceived a s, ?_⟩, fun f hf => ?_⟩
  · rw [exec_frameReceived, exec_frameReceived, receiveBytes_append]
  · have ranged : ∃ code decode, ∀ k, rangedCommand (f k) = some (code, decode, k) := by
      simp only [List.mem_cons, List.not_mem_nil, or_false] at hf
      rcases hf with rfl | rfl | rfl | rfl | rfl | rfl | rfl | rfl | rfl | rfl <;> exact ⟨_, _, fun _ => rfl⟩
    obtain ⟨code, decode, served⟩ := ranged
    exact ⟨_, exec_ranged (served m) s, by
      rw [exec_ranged (served (m + n)), exec_ranged (served n), serveStations_add]⟩

/-! ### Bytes on SAMPLE -/

theorem exec_sampleRecordReceived (i : Station) (bytes : List Byte) (s : State) :
    exec (.sampleRecordReceived i bytes) s = .next (takeSampleBytes s i bytes) := rfl

theorem takeSampleBytes_eq (s : State) (i : Station) (bytes : List Byte) :
    takeSampleBytes s i bytes =
      if (s.station i).mu.sampleHeld.length < 4 ∧ (((s.station i).mu.sampleHeld ++ bytes).take 4).length = 4 ∧
          s.inService i = true then
        takeRecord (s.holdRecord i (((s.station i).mu.sampleHeld ++ bytes).take 4)) i
          (((s.station i).mu.sampleHeld ++ bytes).take 4)
      else s.holdRecord i (((s.station i).mu.sampleHeld ++ bytes).take 4) := rfl

/-- A CONVERTER_FAULT and an undecodable record are no sample (R49). -/
theorem takeRecord_bad {status high low check : Byte} (h : 2 ≤ status.toNat ∨ check ≠ status ^^^ high ^^^ low) (s : State)
    (i : Station) : takeRecord s i [status, high, low, check] = s := by
  have refused : decodeSample [status, high, low, check] = .undecodable ∨
      decodeSample [status, high, low, check] = .converterFault := by
    rw [decodeSample]
    by_cases wrong : check ≠ status ^^^ high ^^^ low
    · exact .inl (if_pos wrong)
    · have large := h.resolve_right wrong
      rw [if_neg wrong, if_neg (by bv_omega), if_neg (by bv_omega)]
      split_ifs
      · exact .inr rfl
      · exact .inl rfl
  unfold takeRecord
  rcases refused with refused | refused <;> rw [refused]

theorem holdRecord_self {s : State} {i : Station} {record : List Byte} (h : (s.station i).mu.sampleHeld = record) :
    s.holdRecord i record = s := by
  subst h
  exact s.setStation_self i

/-- Settles O31: the bytes held are cut at the fourth (`takeSampleBytes_eq`), and a record that is no sample leaves the state
that holds it (`takeRecord_bad`). -/
theorem otherRecordsDiscarded : Obligations.OtherRecordsDiscarded := by
  unfold Obligations.OtherRecordsDiscarded
  intro s i bytes more status high low check
  simp only [exec_sampleRecordReceived, Host.Outcome.next.injEq]
  refine ⟨fun _ completes refused => ?_, fun whole => ?_, fun full => ?_, rfl⟩
  · rw [takeSampleBytes_eq, completes]
    split_ifs with handed
    · have inService : (s.station i).lcc.lineState ≠ .offline := by simpa [State.inService] using handed.2.2
      exact takeRecord_bad (refused.imp_right fun h => h.resolve_right inService) _ i
    · rfl
  · have four : ((s.station i).mu.sampleHeld ++ bytes).length = 4 := by rw [List.length_append, whole]
    rw [takeSampleBytes_eq, takeSampleBytes_eq, ← List.append_assoc, ← four, List.take_left, List.take_length]
  · rw [takeSampleBytes_eq, if_neg (by omega)]
    exact holdRecord_self (by rw [← full, List.take_left])

end Sys2Proof.Machine

/-!
PROOF. Frames that are answered at once: those that fail a test of R172 (O7), the read requests (O8, R174 to R179) and
READ_STATIONS (O9, R177).
-/
namespace Sys2Proof.Machine

/-! ### A frame whose body is refused -/

section Refused

variable {α : Type} {s : State} {code tag : Byte} {body : List Byte} {rest : List (List Byte)} {e : FrameResult}

theorem takeFrame_undecoded {decode : List Byte → Decoded α} {serve : State → α → State × List Byte}
    (h : HandlerTakes s (code :: tag :: body) rest) (hd : decode body = .error e) :
    takeFrame s code decode serve = s.answeredWith rest [code ||| 0x80, tag, BitVec.ofNat 8 e.code] := by
  simp [takeFrame, headFrame_of_handlerTakes h, dropHead_of_handlerTakes h, frameCode, frameTag, frameBody, hd, replyTo,
    placeReply, replyPayload, be8, ← State.taking_answering, State.answering]

theorem exec_undecoded {c : Instr} {decode : List Byte → Decoded α} {serve : State → α → State × List Byte}
    (arm : exec c s = .next (takeFrame s code decode serve)) (h : HandlerTakes s (code :: tag :: body) rest)
    (hd : decode body = .error e) :
    exec c s = .next (s.answeredWith rest [code ||| 0x80, tag, BitVec.ofNat 8 e.code]) := by
  rw [arm, takeFrame_undecoded h hd]

theorem takeStationFrame_undecoded {decode : List Byte → Decoded RangeRequest}
    (h : HandlerTakes s (code :: tag :: body) rest) (hd : decode body = .error e) :
    takeStationFrame s code decode = s.answeredWith rest [code ||| 0x80, tag, BitVec.ofNat 8 e.code] := by
  simp [takeStationFrame, headFrame_of_handlerTakes h, dropHead_of_handlerTakes h, frameCode, frameTag, frameBody, hd,
    replyTo, placeReply, replyPayload, be8, ← State.taking_answering, State.answering]

/-- A station request whose body fails to decode is answered with that frame result and applied to nothing (R172). -/
theorem serveStations_undecoded {decode : List Byte → Decoded RangeRequest}
    (h : HandlerTakes s (code :: tag :: body) rest) (hd : decode body = .error e) (n : Nat) :
    serveStations s code decode n = s.answeredWith rest [code ||| 0x80, tag, BitVec.ofNat 8 e.code] := by
  have idle : s.workingOn code = false := by simp [State.workingOn, h.2.1]
  have answered : stationFrameTaken s code decode =
      s.answeredWith rest [code ||| 0x80, tag, BitVec.ofNat 8 e.code] := by
    rw [stationFrameTaken, if_neg (by simp [idle]), takeStationFrame_undecoded h hd]
  rw [serveStations_eq, answered, if_neg]
  simp [State.workingOn, State.answeredWith, Link.answered, h.2.1]

theorem exec_ranged_undecoded {c : Instr} {decode : List Byte → Decoded RangeRequest} {n : Nat}
    (ranged : rangedCommand c = some (code, decode, n)) (h : HandlerTakes s (code :: tag :: body) rest)
    (hd : decode body = .error e) :
    exec c s = .next (s.answeredWith rest [code ||| 0x80, tag, BitVec.ofNat 8 e.code]) := by
  rw [exec_ranged ranged, serveStations_undecoded h hd]

end Refused

/-! ### Bodies that are refused -/

section Bodies

variable {body : List Byte}

theorem decodeEmpty_badLength (h : body.length ≠ 0) : decodeEmpty body = .error .badLength :=
  if_neg (by simpa using h)

theorem ofLength_badLength {n : Nat} (h : body.length ≠ n) : ofLength n body = .error .badLength := if_neg h

theorem decodeWriteProfile_badLength (h : body.length ≠ 11) : decodeWriteProfile body = .error .badLength := by
  rw [decodeWriteProfile, ofLength_badLength h]

theorem decodeSetCondition_badLength (h : body.length ≠ 1) : decodeSetCondition body = .error .badLength := by
  rw [decodeSetCondition, ofLength_badLength h]

theorem decodeRange_badLength {extra : Nat} {request : List Byte → StationRequest} (h : body.length ≠ extra + 2) :
    decodeRange extra request body = .error .badLength := if_pos h

/-- A range that ends before it begins, or past station 11, is not valid (R173). -/
theorem not_rangeValid (h : ¬((body.getD 0 0).toNat ≤ (body.getD 1 0).toNat ∧ (body.getD 1 0).toNat ≤ 11)) :
    (!rangeValid body) = true := by
  rw [Bool.not_eq_true', ← Bool.not_eq_true]
  exact mt rangeValid_iff.mp h

theorem decodeRange_badField {extra : Nat} {request : List Byte → StationRequest} {a b : Byte} {fields : List Byte}
    (length : fields.length = extra) (h : ¬(a.toNat ≤ b.toNat ∧ b.toNat ≤ 11)) :
    decodeRange extra request (a :: b :: fields) = .error .badField := by
  rw [decodeRange, if_neg (by simp [length]), if_pos (not_rangeValid (body := a :: b :: fields) h)]

theorem decodeRelease_badLength (two : body.length ≠ 2) (three : body.length ≠ 3) :
    decodeRelease body = .error .badLength := if_pos ⟨two, three⟩

theorem decodeRelease_badField {a b : Byte} {fields : List Byte} (length : fields.length ≤ 1)
    (h : ¬(a.toNat ≤ b.toNat ∧ b.toNat ≤ 11) ∨ ∃ f ∈ fields, 1 < f.toNat) :
    decodeRelease (a :: b :: fields) = .error .badField := by
  rw [decodeRelease, if_neg (by simp only [List.length_cons]; omega), if_pos]
  refine h.imp (not_rangeValid ·) ?_
  rintro ⟨f, mem, large⟩
  obtain ⟨g, rfl⟩ := List.length_eq_one_iff.mp (Nat.le_antisymm length (List.length_pos_of_mem mem))
  obtain rfl := List.mem_singleton.mp mem
  exact ⟨rfl, large⟩

theorem decodeConfigureStation_badFlags (h : 32 ≤ (body.getD 2 0).toNat) :
    decodeConfigureStation body = .error .badField := by
  refine if_pos ⟨?_, h⟩
  by_contra short
  rw [List.getD_eq_default _ _ (by omega)] at h
  exact absurd h (by decide)

theorem decodeConfigureStation_badLength (flags : (body.getD 2 0).toNat < 32) (h : ¬laidOut body) :
    decodeConfigureStation body = .error .badLength := by
  rw [decodeConfigureStation, if_neg fun other => absurd other.2 (Nat.not_le.mpr flags)]
  refine if_pos ?_
  by_contra both
  obtain ⟨long, length⟩ := not_or.mp both
  exact h ⟨Nat.lt_of_not_le long, not_not.mp length⟩

theorem decodeConfigureStation_badRange (flags : (body.getD 2 0).toNat < 32) (laid : laidOut body)
    (h : ¬((body.getD 0 0).toNat ≤ (body.getD 1 0).toNat ∧ (body.getD 1 0).toNat ≤ 11)) :
    decodeConfigureStation body = .error .badField := by
  obtain ⟨long, length⟩ := laid
  rw [decodeConfigureStation, if_neg fun other => absurd other.2 (Nat.not_le.mpr flags)]
  exact (if_neg (not_or.mpr ⟨Nat.not_le.mpr long, not_not.mpr length⟩)).trans (if_pos (not_rangeValid h))

end Bodies

/-! ### Items of CONFIGURE_BERTH -/

/-- The item of a CONFIGURE_BERTH body that the row and value spell (R180). -/
def berthItem (x : Nat × Nat) : BerthItem := { number := x.1, value := beBytes (fieldWidth x.1) x.2 }

theorem length_beBytes_fieldWidth (row v : Nat) : (beBytes (fieldWidth row) v).length = fieldWidth row := by
  unfold fieldWidth
  split <;> rfl

theorem decodeItems_nil (n : Nat) : decodeItems n [] = .ok [] := by
  cases n <;> rfl

theorem decodeItems_itemBytes {x : Nat × Nat} (h : wellSized x) (n : Nat) (tail : List Byte) :
    decodeItems (n + 1) (itemBytes x ++ tail) =
      match decodeItems n tail with
      | .error e => .error e
      | .ok items => .ok (berthItem x :: items) := by
  obtain ⟨low, high, -⟩ := h
  have number : (BitVec.ofNat 8 x.1).toNat = x.1 := by
    rw [BitVec.toNat_ofNat]
    omega
  have width := length_beBytes_fieldWidth x.1 x.2
  have drop : (beBytes (fieldWidth x.1) x.2 ++ tail).drop (fieldWidth x.1) = tail := List.drop_left' width
  have take : (beBytes (fieldWidth x.1) x.2 ++ tail).take (fieldWidth x.1) = beBytes (fieldWidth x.1) x.2 :=
    List.take_left' width
  rw [itemBytes, List.cons_append, decodeItems, number, if_neg (by omega),
    if_neg (by rw [List.length_append, width]; omega), drop, take]
  rfl

/-- Well-sized items are decoded in order, and what follows them as a body of its own (R180). -/
theorem decodeItems_append {items : List (Nat × Nat)} (h : ∀ x ∈ items, wellSized x) (n : Nat) (tail : List Byte) :
    decodeItems (n + items.length) (items.flatMap itemBytes ++ tail) =
      match decodeItems n tail with
      | .error e => .error e
      | .ok more => .ok (items.map berthItem ++ more) := by
  induction items with
  | nil =>
    rw [List.length_nil, Nat.add_zero, List.flatMap_nil, List.nil_append]
    cases decodeItems n tail <;> rfl
  | cons x items ih =>
    obtain ⟨sized, others⟩ := List.forall_mem_cons.mp h
    rw [List.flatMap_cons, List.append_assoc, List.length_cons, ← Nat.add_assoc, decodeItems_itemBytes sized, ih others]
    cases decodeItems n tail <;> rfl

theorem length_flatMap_itemBytes (items : List (Nat × Nat)) : items.length ≤ (items.flatMap itemBytes).length := by
  induction items with
  | nil => exact Nat.le_refl 0
  | cons x items ih =>
    rw [List.flatMap_cons, List.length_append, List.length_cons, itemBytes, List.length_cons]
    omega

/-- A body of well-sized items and a further byte is refused as that byte is. -/
theorem decodeItems_refused {items : List (Nat × Nat)} (h : ∀ x ∈ items, wellSized x) {a : Byte} {fields : List Byte}
    {e : FrameResult} (refused : ∀ n, decodeItems (n + 1) (a :: fields) = .error e) :
    decodeItems (items.flatMap itemBytes ++ a :: fields).length (items.flatMap itemBytes ++ a :: fields) = .error e := by
  have fuel : (items.flatMap itemBytes ++ a :: fields).length =
      ((items.flatMap itemBytes).length - items.length + fields.length + 1) + items.length := by
    have enough := length_flatMap_itemBytes items
    rw [List.length_append, List.length_cons]
    omega
  rw [fuel, decodeItems_append h, refused]

theorem exec_configureBerth (s : State) : exec .configureBerth s =
    .next (serveBerth s 0x06 (fun body => decodeItems body.length body) applyConfigureBerth) := rfl

/-! ### Unknown codes -/

theorem exec_unknownRequest {s : State} {code tag : Byte} {body : List Byte} {rest : List (List Byte)}
    (h : HandlerTakes s (code :: tag :: body) rest) (unknown : code.toNat = 0 ∨ 20 < code.toNat) :
    exec .unknownRequest s = .next (s.answeredWith rest [code ||| 0x80, tag, 1]) := by
  have notRequest : isRequestCode code = false := by
    simp [isRequestCode]
    omega
  have arm : exec .unknownRequest s = execUnknownRequest s := rfl
  rw [arm, execUnknownRequest, headFrame_of_handlerTakes h]
  dsimp only
  rw [if_neg (by simp [frameCode, notRequest]), dropHead_of_handlerTakes h]
  rfl

/-- Settles O7: each test that fails is an error of the body's decoder, which the handler answers at once
(`takeFrame_undecoded`, `exec_ranged_undecoded`). -/
theorem frameFaultsAnswered : Obligations.FrameFaultsAnswered := by
  unfold Obligations.FrameFaultsAnswered
  intro s code tag a b body fields items rest n
  refine ⟨exec_unknownRequest, fun c hc h length => ?_, fun c hc h length bad => ?_, fun h two three => ?_,
    fun h length bad => ?_, fun h => ⟨fun flags => ?_, fun flags laid => ?_, fun flags laid bad => ?_⟩,
    fun sized h => ⟨fun unknown => ?_, fun low high short => ?_⟩⟩
  · simp only [List.mem_cons, List.not_mem_nil, or_false] at hc
    rcases hc with rfl | rfl | rfl | rfl | rfl | rfl | rfl | rfl | rfl | rfl | rfl | rfl | rfl | rfl | rfl | rfl
    exacts [exec_undecoded rfl h (decodeEmpty_badLength length), exec_undecoded rfl h (decodeEmpty_badLength length),
      exec_ranged_undecoded rfl h (decodeRange_badLength length), exec_undecoded rfl h (decodeEmpty_badLength length),
      exec_undecoded rfl h (decodeEmpty_badLength length), exec_undecoded rfl h (decodeWriteProfile_badLength length),
      exec_undecoded rfl h (decodeSetCondition_badLength length), exec_undecoded rfl h (decodeEmpty_badLength length),
      exec_ranged_undecoded rfl h (decodeRange_badLength length),
      exec_ranged_undecoded rfl h (decodeRange_badLength length),
      exec_ranged_undecoded rfl h (decodeRange_badLength length),
      exec_ranged_undecoded rfl h (decodeRange_badLength length),
      exec_ranged_undecoded rfl h (decodeRange_badLength length),
      exec_ranged_undecoded rfl h (decodeRange_badLength length),
      exec_ranged_undecoded rfl h (decodeRange_badLength length), exec_undecoded rfl h (decodeEmpty_badLength length)]
  · simp only [List.mem_cons, List.not_mem_nil, or_false] at hc
    rcases hc with rfl | rfl | rfl | rfl | rfl | rfl | rfl | rfl <;>
      exact exec_ranged_undecoded rfl h (decodeRange_badField length bad)
  · exact exec_ranged_undecoded rfl h (decodeRelease_badLength two three)
  · exact exec_ranged_undecoded rfl h (decodeRelease_badField length bad)
  · exact exec_ranged_undecoded rfl h (decodeConfigureStation_badFlags flags)
  · exact exec_ranged_undecoded rfl h (decodeConfigureStation_badLength flags laid)
  · exact exec_ranged_undecoded rfl h (decodeConfigureStation_badRange flags laid bad)
  · exact exec_undecoded (exec_configureBerth s) h (decodeItems_refused sized fun n => if_pos unknown)
  · exact exec_undecoded (exec_configureBerth s) h (decodeItems_refused sized fun n =>
      (if_neg (by omega)).trans (if_pos short))

/-! ### Reads without fields -/

/-- A read request is answered with the body of its reply and changes nothing else (R174). -/
theorem serveRead_reply {s : State} {code tag : Byte} {rest : List (List Byte)} (h : HandlerTakes s [code, tag] rest)
    (body : State → List Byte) :
    serveRead s code body = s.answeredWith rest ([code ||| 0x80, tag, 0] ++ body (s.taking rest)) := by
  simp [serveRead, takeFrame, headFrame_of_handlerTakes h, dropHead_of_handlerTakes h, frameCode, frameTag, frameBody,
    decodeEmpty, replyTo, placeReply, replyPayload, FrameResult.code, be8, ← State.taking_answering, State.answering]

theorem exec_serveRead {s : State} {c : Instr} {code tag : Byte} {rest : List (List Byte)} {body : State → List Byte}
    (arm : exec c s = .next (serveRead s code body)) (h : HandlerTakes s [code, tag] rest) {bytes : List Byte}
    (spelt : body (s.taking rest) = bytes) :
    exec c s = .next (s.answeredWith rest ([code ||| 0x80, tag, 0] ++ bytes)) := by
  rw [arm, serveRead_reply h, spelt]

theorem identifyBody_eq (s : State) : identifyBody s =
    ([0x45, 0x53, 0x4B, 0x55, 0x4C, 0x4F, 0x4E, 0x4D, 0x4C, 0x31, 0x32, 0x10, 12] : List Byte) ++
      ([if s.berth.locked then 1 else 0,
        match s.berth.resetCause with | .powerOn => 0 | .resetPin => 1 | .restartRequest => 2] : List Byte) := by
  unfold identifyBody
  generalize s.berth.resetCause = cause
  cases cause <;> rfl

/-- Four bytes are the number they spell (R194). -/
theorem be32_of_bytes {a b c d : Nat} (_ : a < 256) (_ : b < 256) (_ : c < 256) (_ : d < 256) :
    be32 (a * 16777216 + b * 65536 + c * 256 + d) =
      [BitVec.ofNat 8 a, BitVec.ofNat 8 b, BitVec.ofNat 8 c, BitVec.ofNat 8 d] := by
  simp only [be32, List.cons.injEq, and_true]
  refine ⟨?_, ?_, ?_, ?_⟩ <;> apply BitVec.eq_of_toNat_eq <;> simp only [BitVec.toNat_ofNat] <;> omega

/-- The four entries of the ceiling table are the four bytes of its row (R61, R176). -/
theorem ceilingRow_eq (ceiling : Vector ProfileNo 4) :
    ceiling.toList.flatMap (fun p => be8 p.val) = beBytes 4 ((ceiling.get 0).val * 16777216 + (ceiling.get 1).val * 65536 +
      (ceiling.get 2).val * 256 + (ceiling.get 3).val) := by
  have entries : ceiling.toList = [ceiling.get 0, ceiling.get 1, ceiling.get 2, ceiling.get 3] := by
    obtain ⟨⟨l⟩, size⟩ := ceiling
    match l, size with
    | [a, b, c, d], _ => rfl
  have small (k : Fin 4) : (ceiling.get k).val < 256 := by omega
  rw [entries]
  exact (be32_of_bytes (small 0) (small 1) (small 2) (small 3)).symm

theorem berthRow_watchMode (s : State) : berthRow s 29 = s.settings.watchMode.code := by
  rw [berthRow]
  cases s.settings.watchMode <;> rfl

/-- The thirty fields in the order of the rows of Table 8-3 (R176). -/
theorem berthFields_eq (s : State) :
    berthFields s = (List.range 30).flatMap fun k => beBytes (fieldWidth (k + 1)) (berthRow s (k + 1)) := by
  have rows : List.range 30 = [0, 1, 2, 3, 4, 5, 6, 7, 8, 9, 10, 11, 12, 13, 14, 15, 16, 17, 18, 19, 20, 21, 22, 23, 24, 25,
      26, 27, 28, 29] := by decide
  rw [rows]
  simp only [List.flatMap_cons, List.flatMap_nil, List.append_nil, Nat.reduceAdd]
  simp only [fieldWidth, berthRow_watchMode]
  simp only [berthRow, beBytes]
  unfold berthFields
  simp only [ceilingRow_eq, beBytes, List.append_assoc]

theorem readBerthBody_eq (s : State) : readBerthBody s =
    (List.range 30).flatMap (fun k => beBytes (fieldWidth (k + 1)) (berthRow s (k + 1))) ++
      be8 s.profiles.condition.val ++ beFlag s.berth.locked ++
      be16 (match s.berth.thresholdSnapshot with | some v => v | none => 0xFFFF) ++ beFlag s.berthAlarm ++
      beFlag s.watch.hold ++ beFlag s.watch.firstExpirySeen ++ be16 s.watch.remaining ++ beFlag s.zoneFilter.level ++
      be32 s.berthTime.toNat ++ be8 s.dsa.holders.length ++ be8 s.dsa.waiting.length := by
  rw [readBerthBody, berthFields_eq]
  cases s.berth.thresholdSnapshot <;> rfl

theorem flagBits_eq (low high : Bool) :
    be8 (bitsToNat [low, high]) = [if low then (if high then 3 else 1) else (if high then 2 else 0)] := by
  revert low high
  decide

/-- Settles O8: each read is answered with the body of its reply (`serveRead_reply`), spelt out field by field. -/
theorem readReplies : Obligations.ReadReplies := by
  unfold Obligations.ReadReplies
  intro s tag rest
  refine ⟨fun h => exec_serveRead rfl h (identifyBody_eq _), fun h => ?_, fun h => ?_, fun h => ?_⟩
  · simp only [List.append_assoc]
    have spelt := exec_serveRead (c := .readBerth) rfl h (readBerthBody_eq _)
    simp only [List.append_assoc] at spelt
    exact spelt
  · simp only [List.append_assoc]
    refine exec_serveRead rfl h ?_
    simp only [readProfilesBody, List.append_assoc]
    rfl
  · refine exec_serveRead rfl h (congrArg (s.counters.toList.flatMap ·) (funext fun c => ?_))
    rw [counterBytes, flagBits_eq]

/-! ### READ_STATIONS -/

/-- The stations of a range, in ascending order. -/
def stationsIn (first last : Station) : List Station := allStations.filter fun j => decide (first ≤ j ∧ j ≤ last)

theorem stationsIn_val : ∀ first last : Station, first ≤ last →
    (stationsIn first last).map Fin.val = List.range' first.val (last.val + 1 - first.val) := by decide

section Range

variable {first last : Station} (ordered : first ≤ last)

include ordered

theorem length_stationsIn : (stationsIn first last).length = last.val + 1 - first.val := by
  have length := congrArg List.length (stationsIn_val first last ordered)
  rwa [List.length_map, List.length_range'] at length

theorem getElem_stationsIn {k : Nat} (h : k < (stationsIn first last).length) (low : first.val + k < 12) :
    (stationsIn first last)[k] = ⟨first.val + k, low⟩ := by
  have place := List.getElem_of_eq (stationsIn_val first last ordered) (i := k) (by simpa using h)
  rw [List.getElem_map, List.getElem_range', Nat.one_mul] at place
  exact Fin.ext place

/-- The records of one more station of the range (R177). -/
theorem recordsFrom_succ (s : State) {k : Nat} (h : k < last.val + 1 - first.val) (low : first.val + k < 12) :
    recordsFrom s first last (k + 1) = recordsFrom s first last k ++ [s.recordBytes ⟨first.val + k, low⟩ none] := by
  have inRange : k < (stationsIn first last).length := by rwa [length_stationsIn ordered]
  have next : (stationsIn first last).take (k + 1) = (stationsIn first last).take k ++ [⟨first.val + k, low⟩] := by
    rw [List.take_succ_eq_append_getElem inRange, getElem_stationsIn ordered inRange low]
  have mapped := congrArg (List.map fun j => s.recordBytes j none) next
  rwa [List.map_append] at mapped

end Range

/-- READ_STATIONS under way with the records of `k` stations of its range (R173, R177). -/
def readingAt (s : State) (tag : Byte) (first last : Station) (k : Nat) : Working :=
  { code := 0x03, tag := tag, request := .readStations, next := first.val + k, last := last.val, done := k,
    body := (recordsFrom s first last k).flatten }

/-- The reply of READ_STATIONS with the records of `k` stations (R177). -/
def recordsReply (s : State) (tag : Byte) (first last : Station) (k : Nat) : List Byte :=
  [0x83, tag, 0, BitVec.ofNat 8 k] ++ (recordsFrom s first last k).flatten

section Reading

variable {s : State} {tag : Byte} {first last : Station} {rest : List (List Byte)}

theorem finishWorking_readingAt (idle : s.link.working = none) (w : Working) (k : Nat) :
    finishWorking (s.serving rest w) (readingAt s tag first last k) =
      s.answeredWith rest (recordsReply s tag first last k) := by
  rw [← State.serving_replied idle rest w (recordsReply s tag first last k)]
  simp [finishWorking, placeReply, State.replied, recordsReply, readingAt, replyPayload, FrameResult.code, be8,
    State.modLink]

/-- One turn of READ_STATIONS: its record does not fit, or it is the last, or the next one follows (R177). -/
theorem oneTurn_readingAt (idle : s.link.working = none) (ordered : first ≤ last) {k : Nat}
    (h : k < last.val + 1 - first.val) (low : first.val + k < 12) :
    oneTurn (s.serving rest (readingAt s tag first last k)) (readingAt s tag first last k) ⟨first.val + k, low⟩ =
      if 4 + (recordsFrom s first last (k + 1)).flatten.length ≤ 250 then
        if k + 1 = last.val + 1 - first.val then s.answeredWith rest (recordsReply s tag first last (k + 1))
        else s.serving rest (readingAt s tag first last (k + 1))
      else s.answeredWith rest (recordsReply s tag first last k) := by
  have more := congrArg List.flatten (recordsFrom_succ ordered s h low)
  rw [List.flatten_append, List.flatten_singleton] at more
  have record : stationRecord (s.serving rest (readingAt s tag first last k)) ⟨first.val + k, low⟩ none =
      s.recordBytes ⟨first.val + k, low⟩ none := stationRecord_eq s _ none
  have fits : recordFits (readingAt s tag first last k) (s.recordBytes ⟨first.val + k, low⟩ none) = true ↔
      4 + (recordsFrom s first last (k + 1)).flatten.length ≤ 250 := by
    rw [recordFits, decide_eq_true_iff, more, List.length_append, Nat.add_assoc]
    rfl
  rw [oneTurn_read rfl, record]
  refine if_congr fits ?_ (finishWorking_readingAt idle _ k)
  have joined : ({ readingAt s tag first last k with
      next := first.val + k + 1, done := k + 1
      body := (recordsFrom s first last k).flatten ++ s.recordBytes ⟨first.val + k, low⟩ none } : Working) =
      readingAt s tag first last (k + 1) := by
    rw [readingAt, readingAt, more]
    rfl
  have last_ : last.val ≤ first.val + k ↔ k + 1 = last.val + 1 - first.val := by omega
  have advanced : advance (s.serving rest (readingAt s tag first last k)) (readingAt s tag first last k)
      (s.recordBytes ⟨first.val + k, low⟩ none) =
      if last.val ≤ first.val + k then
        finishWorking (s.serving rest (readingAt s tag first last k)) (readingAt s tag first last (k + 1))
      else s.serving rest (readingAt s tag first last (k + 1)) := by
    rw [← joined]
    rfl
  rw [advanced, finishWorking_readingAt idle]
  exact if_congr last_ rfl rfl

/-- With turns enough, READ_STATIONS answers the records that fit from here on (R177). -/
theorem runTurns_readingAt (idle : s.link.working = none) (ordered : first ≤ last) (m : Nat) : ∀ {k : Nat},
    k < last.val + 1 - first.val → last.val + 1 - first.val ≤ k + m →
    4 + (recordsFrom s first last k).flatten.length ≤ 250 →
    ∃ n ≤ last.val + 1 - first.val,
      runTurns m (s.serving rest (readingAt s tag first last k)) = s.answeredWith rest (recordsReply s tag first last n) ∧
      4 + (recordsFrom s first last n).flatten.length ≤ 250 ∧
      (n = last.val + 1 - first.val ∨ 250 < 4 + (recordsFrom s first last (n + 1)).flatten.length) := by
  have done (n m : Nat) : runTurns m (s.answeredWith rest (recordsReply s tag first last n)) =
      s.answeredWith rest (recordsReply s tag first last n) := runTurns_idle m idle
  induction m with
  | zero => intro k h enough; omega
  | succ m ih =>
    intro k h enough short
    have low : first.val + k < 12 := by omega
    have turn : runTurns (m + 1) (s.serving rest (readingAt s tag first last k)) =
        runTurns m (oneTurn (s.serving rest (readingAt s tag first last k)) (readingAt s tag first last k)
          ⟨first.val + k, low⟩) := by
      rw [runTurns]
      exact congrArg (runTurns m) (dif_pos low)
    rw [turn, oneTurn_readingAt idle ordered h low]
    split_ifs with fits last_
    · exact ⟨k + 1, last_.le, done _ m, fits, .inl last_⟩
    · exact ih (by omega) (by omega) fits
    · exact ⟨k, h.le, done _ m, short, .inr (by omega)⟩

end Reading

/-- Settles O9: from its first station on the request gains a record a turn while the payload allows it
(`oneTurn_readingAt`), and twelve turns are enough for every range. -/
theorem readStationsReply : Obligations.ReadStationsReply := by
  unfold Obligations.ReadStationsReply
  intro s tag first last rest n h ordered turns
  have le : first.val ≤ last.val := ordered
  have decoded : decodeRange 0 (fun _ => .readStations) [BitVec.ofNat 8 first.val, BitVec.ofNat 8 last.val] =
      .ok { first := first.val, last := last.val, request := .readStations } := by
    have range : first.val ≤ last.val ∧ last.val ≤ 11 := ⟨ordered, by omega⟩
    simp [decodeRange, rangeValid, byteAt, toNat_byte_station, range, -BitVec.toNat_ofNat]
  have taken : stationFrameTaken s 0x03 (decodeRange 0 fun _ => .readStations) =
      s.serving rest (readingAt s tag first last 0) := by
    have idle : ¬s.workingOn 0x03 = true := by simp [State.workingOn, h.2.1]
    rw [stationFrameTaken, if_neg idle, takeStationFrame, headFrame_of_handlerTakes h]
    simp only [frameCode, frameTag, frameBody, List.drop, decoded, dropHead_of_handlerTakes h]
    rfl
  have served : exec (.readStations n) s = .next (runTurns n (s.serving rest (readingAt s tag first last 0))) := by
    have arm : exec (.readStations n) s =
        .next (serveStations s 0x03 (decodeRange 0 fun _ => .readStations) n) := exec_ranged rfl s
    rw [arm, serveStations_eq, taken]
    rfl
  obtain ⟨k, inRange, runs, short, stops⟩ := runTurns_readingAt (tag := tag) (rest := rest) h.2.1 ordered n (k := 0)
    (by omega) (by omega) (by simp [recordsFrom])
  exact ⟨k, inRange, by rw [served, runs]; rfl, short, stops⟩

end Sys2Proof.Machine

/-!
PROOF. WRITE_PROFILE (O13) and CONFIGURE_BERTH (O17): what their bodies decode to, their tests in the words of the statements,
and what storing a list of items makes of the rows of Table 8-3.
-/
namespace Sys2Proof.Machine

/-! ### WRITE_PROFILE -/

/-- The body of a WRITE_PROFILE (Table 9-5). -/
def profileBody (number : Nat) (p : Profile) : List Byte :=
  be8 number ++ be16 p.low ++ be16 p.high ++ be16 p.overload ++ be16 p.doseLimit ++ be16 p.adjustSpeed

theorem toNat_ofNat_byte {n : Nat} (h : n < 256) : (BitVec.ofNat 8 n).toNat = n := by
  rw [BitVec.toNat_ofNat]
  exact Nat.mod_eq_of_lt h

theorem decodeWriteProfile_body {number : Nat} {p : Profile} (hn : number < 256) (hlow : p.low < 65536)
    (hhigh : p.high < 65536) (hoverload : p.overload < 65536) (hdose : p.doseLimit < 65536)
    (hspeed : p.adjustSpeed < 65536) : decodeWriteProfile (profileBody number p) = .ok (number, p) := by
  have decoded : decodeWriteProfile (profileBody number p) =
      .ok ((BitVec.ofNat 8 number).toNat,
        { low := ofBe (be16 p.low), high := ofBe (be16 p.high), overload := ofBe (be16 p.overload),
          doseLimit := ofBe (be16 p.doseLimit), adjustSpeed := ofBe (be16 p.adjustSpeed) }) := rfl
  rw [decoded, toNat_ofNat_byte hn, ofBe_be16 hlow, ofBe_be16 hhigh, ofBe_be16 hoverload, ofBe_be16 hdose,
    ofBe_be16 hspeed]

theorem profileValid_iff (number : Nat) (p : Profile) : profileValid number p = true ↔ number ≤ 7 ∧ p.valid := by
  simp only [profileValid, Profile.valid, Bool.and_eq_true, decide_eq_true_eq]
  omega

theorem lockRefusesProfile_iff (s : State) (n : ProfileNo) (p : Profile) :
    s.lockRefusesProfile n p = true ↔ s.aboveSnapshot n p := by
  unfold State.lockRefusesProfile State.aboveSnapshot
  cases s.profiles.snapshot <;> simp

theorem profileNo_val (n : ProfileNo) : profileNo n.val = n := Fin.ext (Nat.mod_eq_of_lt n.isLt)

theorem applyWriteProfile_outOfRange {number : Nat} {p : Profile} (h : ¬(number ≤ 7 ∧ p.valid)) (s : State) :
    applyWriteProfile s (number, p) = (s, .outOfRange) :=
  if_pos (by simpa using mt (profileValid_iff number p).mp h)

theorem applyWriteProfile_locked {s : State} {n : ProfileNo} {p : Profile} (valid : p.valid) (h : s.aboveSnapshot n p) :
    applyWriteProfile s (n.val, p) = (s, .locked) := by
  have passes : profileValid n.val p = true := (profileValid_iff _ p).mpr ⟨by omega, valid⟩
  have refuses := (lockRefusesProfile_iff s n p).mpr h
  simp only [applyWriteProfile, passes, profileNo_val, refuses, Bool.not_true, Bool.false_eq_true, if_false, if_true]

theorem applyWriteProfile_accepted {s : State} {n : ProfileNo} {p : Profile} (valid : p.valid) (h : ¬s.aboveSnapshot n p) :
    applyWriteProfile s (n.val, p) = (writeProfile s n p, .accepted) := by
  have passes : profileValid n.val p = true := (profileValid_iff _ p).mpr ⟨by omega, valid⟩
  have lets := mt (lockRefusesProfile_iff s n p).mp h
  simp only [applyWriteProfile, passes, profileNo_val, lets, Bool.not_true, Bool.false_eq_true, if_false]

theorem exec_writeProfile_served {s t : State} {tag : Byte} {body : List Byte} {rest : List (List Byte)}
    {carried : Nat × Profile} {result : Result} (h : HandlerTakes s (0x08 :: tag :: body) rest)
    (hd : decodeWriteProfile body = .ok carried) (ha : applyWriteProfile (s.taking rest) carried = (t, result)) :
    exec .writeProfile s = .next (t.answering (berthReply 0x08 tag (BitVec.ofNat 8 result.code))) :=
  congrArg Host.Outcome.next (serveBerth_decoded h hd ha)

/-- Settles O13: the three outcomes of `applyWriteProfile`, and the one profile that an accepted request writes. -/
theorem writeProfileByTheRules : Obligations.WriteProfileByTheRules := by
  unfold Obligations.WriteProfileByTheRules
  intro s tag number p rest hn hlow hhigh hoverload hdose hspeed h
  have decoded := decodeWriteProfile_body hn hlow hhigh hoverload hdose hspeed
  refine ⟨fun bad => exec_writeProfile_served h decoded (applyWriteProfile_outOfRange bad _), fun n own valid => ?_⟩
  subst own
  refine ⟨fun above => exec_writeProfile_served h decoded (applyWriteProfile_locked (s := s.taking rest) valid above),
    fun below => ⟨_, exec_writeProfile_served h decoded (applyWriteProfile_accepted (s := s.taking rest) valid below),
      rfl, rfl, fun m => ?_⟩⟩
  exact State.profile_writeProfile s n m p

/-! ### The items of CONFIGURE_BERTH -/

theorem vector4_toList {α : Type} (v : Vector α 4) : v.toList = [v.get 0, v.get 1, v.get 2, v.get 3] := by
  obtain ⟨⟨l⟩, size⟩ := v
  match l, size with
  | [a, b, c, d], _ => rfl

theorem berthItem_number (x : Nat × Nat) : (berthItem x).number = x.1 := rfl

section Item

variable {x : Nat × Nat} (h : wellSized x)

theorem ofBe_beBytes {row v : Nat} (h : v < 256 ^ fieldWidth row) : ofBe (beBytes (fieldWidth row) v) = v := by
  have widths : fieldWidth row = 1 ∨ fieldWidth row = 2 ∨ fieldWidth row = 3 ∨ fieldWidth row = 4 := by
    unfold fieldWidth
    split <;> simp
  rcases widths with w | w | w | w <;> rw [w] at h ⊢
  · exact (Nat.zero_add _).trans (toNat_ofNat_byte h)
  · exact ofBe_be16 h
  · exact ofBe_be24 h
  · exact ofBe_be32 h

include h

theorem berthItem_num : (berthItem x).num = x.2 := ofBe_beBytes h.2.2

/-- An item lies in the range of its row (Table 8-3, R61). -/
theorem berthItem_inRange : (berthItem x).inRange = true ↔ rowInRange x.1 x.2 := by
  have num := berthItem_num h
  obtain ⟨row, v⟩ := x
  obtain ⟨low, high, sized⟩ := h
  dsimp only at low high sized num ⊢
  by_cases ceiling : row = 27
  · subst ceiling
    have bytes : (berthItem (27, v)).value = [BitVec.ofNat 8 (v / 16777216), BitVec.ofNat 8 (v / 65536),
        BitVec.ofNat 8 (v / 256), BitVec.ofNat 8 v] := rfl
    have sized : v < 4294967296 := sized
    rw [BerthItem.inRange, berthItem_number, if_neg (show ¬27 = 26 by decide), if_pos rfl, bytes]
    simp only [List.all_cons, List.all_nil, notIncreasing, Bool.and_true, Bool.and_eq_true, decide_eq_true_eq,
      BitVec.toNat_ofNat, rowInRange]
    omega
  by_cases width : row = 26
  · subst width
    rw [BerthItem.inRange, berthItem_number, if_pos rfl, num, decide_eq_true_iff]
    rfl
  · rw [BerthItem.inRange, berthItem_number, if_neg width, if_neg ceiling, num, decide_eq_true_iff]
    clear num
    interval_cases row <;> simp only [fieldRange, rowInRange, Nat.zero_le, true_and] <;> omega

/-- The lock refuses an item above its snapshot (R160, R165). -/
theorem lockRefusesItem_berthItem (s : State) : s.lockRefusesItem (berthItem x) = false ↔ s.rowKeptByLock x.1 x.2 := by
  have num := berthItem_num h
  obtain ⟨row, v⟩ := x
  obtain ⟨low, high, sized⟩ := h
  dsimp only at low high sized num ⊢
  rw [State.lockRefusesItem, berthItem_number, State.rowKeptByLock]
  by_cases ceiling : row = 27
  · subst ceiling
    have sized : v < 4294967296 := sized
    have bytes : (berthItem (27, v)).value = [BitVec.ofNat 8 (v / 16777216), BitVec.ofNat 8 (v / 65536),
        BitVec.ofNat 8 (v / 256), BitVec.ofNat 8 v] := rfl
    have top : (BitVec.ofNat 8 (v / 16777216)).toNat = v / 16777216 := toNat_ofNat_byte (by omega)
    rw [if_pos rfl, bytes]
    cases s.profiles.snapshot with
    | none => simp
    | some snap =>
      simp only [ceilingExceeds, vector4_toList, List.zipWith_cons_cons, List.zipWith_nil_right, List.any_cons, List.any_nil,
        id_eq, Bool.or_false, Bool.or_eq_false_iff, decide_eq_false_iff_not, Nat.not_lt, Option.some.injEq, forall_eq',
        forall_const, top, BitVec.toNat_ofNat, Nat.reducePow, Nat.reduceEqDiff, false_implies, and_true]
  · rw [if_neg ceiling]
    by_cases threshold : row = 9
    · subst threshold
      rw [if_pos rfl, num]
      cases s.berth.thresholdSnapshot <;> simp
    · simp [ceiling, threshold]

end Item

/-- Every item is in range and no row is named twice (R159, R160). -/
theorem itemsValid_map {items : List (Nat × Nat)} (h : ∀ x ∈ items, wellSized x) :
    itemsValid (items.map berthItem) = true ↔ (∀ x ∈ items, rowInRange x.1 x.2) ∧ (items.map Prod.fst).Nodup := by
  induction items with
  | nil => simp [itemsValid]
  | cons x items ih =>
    obtain ⟨sized, others⟩ := List.forall_mem_cons.mp h
    have named : (items.map berthItem).any (fun y => decide (y.number = x.1)) = true ↔ x.1 ∈ items.map Prod.fst := by
      simp only [List.any_map, List.any_eq_true, Function.comp_apply, decide_eq_true_eq, List.mem_map]
      rfl
    rw [List.map_cons, itemsValid, Bool.and_eq_true, Bool.and_eq_true, berthItem_inRange sized, ih others, berthItem_number,
      Bool.not_eq_true', ← Bool.not_eq_true, named, List.map_cons, List.nodup_cons, List.forall_mem_cons]
    tauto

theorem namesRow_map (items : List (Nat × Nat)) (row : Nat) :
    namesRow (items.map berthItem) row = true ↔ row ∈ items.map Prod.fst := by
  simp only [namesRow, List.any_map, List.any_eq_true, Function.comp_apply, decide_eq_true_eq, List.mem_map]
  rfl

theorem refusesSlots_map {items : List (Nat × Nat)} (h : ∀ x ∈ items, wellSized x) (d : Dsa) :
    d.refusesSlots (items.map berthItem) = true ↔
      (∃ x ∈ items, x.1 = 11 ∧ x.2 ≠ d.slots) ∧ ¬(d.holders = [] ∧ d.waiting = []) := by
  simp only [Dsa.refusesSlots, List.any_map, List.any_eq_true, Function.comp_apply, Bool.and_eq_true, decide_eq_true_eq,
    Bool.not_eq_true', Bool.and_eq_false_iff, List.isEmpty_eq_false_iff, not_and_or, ← exists_and_right]
  simp only [berthItem_number]
  refine exists_congr fun x => ?_
  constructor
  · rintro ⟨mem, ⟨row, other⟩, busy⟩
    rw [berthItem_num (h x mem)] at other
    exact ⟨⟨mem, row, other⟩, busy⟩
  · rintro ⟨⟨mem, row, other⟩, busy⟩
    rw [← berthItem_num (h x mem)] at other
    exact ⟨mem, ⟨row, other⟩, busy⟩

/-! ### The rows of Table 8-3 -/

theorem berthRow_congr {s t : State} (settings : t.settings = s.settings) (slots : t.dsa.slots = s.dsa.slots)
    (ceiling : t.profiles.ceiling = s.profiles.ceiling) (routing : t.routing = s.routing) (row : Nat) :
    berthRow t row = berthRow s row := by
  unfold berthRow
  rw [settings, slots, ceiling, routing]

/-- The record, K, the ceiling table and the routing set, as one state each row of Table 8-3 is read off. -/
theorem storeItem_record {s : State} {it : BerthItem} (slots : it.number ≠ 11) (ceiling : it.number ≠ 27)
    (routing : it.number ≠ 28) : storeItem s it =
      { s with berth := { s.berth with config := s.berth.config.store it.number it.num } } := by
  rw [storeItem, if_neg slots, if_neg ceiling, if_neg routing]

/-- A row of the berth record takes the value stored in it, if a mode code is one of the four (Table 8-3). -/
theorem berthRow_store_same {s : State} {row v : Nat} (low : 1 ≤ row) (high : row ≤ 30) (slots : row ≠ 11)
    (ceiling : row ≠ 27) (routing : row ≠ 28) (mode : row = 29 → v ≤ 3) :
    berthRow { s with berth := { s.berth with config := s.berth.config.store row v } } row = v := by
  by_cases watch : row = 29
  · subst watch
    have small := mode rfl
    interval_cases v <;> rfl
  · interval_cases row <;> first | rfl | contradiction

theorem berthRow_store_ne {s : State} {row other v : Nat} (ne : row ≠ other) :
    berthRow { s with berth := { s.berth with config := s.berth.config.store other v } } row = berthRow s row := by
  unfold BerthConfig.store
  split <;> unfold berthRow <;> split <;> first | rfl | exact absurd rfl ne

theorem berthRow_slots_ne {s : State} {row v : Nat} (ne : row ≠ 11) :
    berthRow (s.modDsa fun d => { d with slots := v }) row = berthRow s row := by
  unfold berthRow
  split <;> first | rfl | exact absurd rfl ne

theorem berthRow_ceiling_ne {s : State} {row : Nat} {v : Vector ProfileNo 4} (ne : row ≠ 27) :
    berthRow { s with profiles := { s.profiles with ceiling := v } } row = berthRow s row := by
  unfold berthRow
  split
  case h_27 => exact absurd rfl ne
  all_goals rfl

theorem berthRow_routing_ne {s : State} {row : Nat} {v : RoutingSet} (ne : row ≠ 28) :
    berthRow { s with routing := v } row = berthRow s row := by
  unfold berthRow
  split <;> first | rfl | exact absurd rfl ne

/-- The ceiling table of four bytes that are in range is the number they spell (R61). -/
theorem berthRow_ceilingOf {s : State} {v : Nat} (range : rowInRange 27 v) :
    berthRow { s with profiles := { s.profiles with ceiling := ceilingOf (be32 v) } } 27 = v := by
  have row : berthRow { s with profiles := { s.profiles with ceiling := ceilingOf (be32 v) } } 27 =
      (BitVec.ofNat 8 (v / 16777216)).toNat % 8 * 16777216 + (BitVec.ofNat 8 (v / 65536)).toNat % 8 * 65536 +
        (BitVec.ofNat 8 (v / 256)).toNat % 8 * 256 + (BitVec.ofNat 8 v).toNat % 8 := rfl
  obtain ⟨first, second, third, fourth⟩ := range
  rw [row, toNat_ofNat_byte (by omega)]
  have highest : v / 16777216 % 8 = v / 16777216 := by omega
  have high : v / 65536 % 256 % 8 = v / 65536 % 256 := by omega
  have low : v / 256 % 256 % 8 = v / 256 % 256 := by omega
  have lowest : v % 256 % 8 = v % 256 := by omega
  have carryHigh : v / 65536 / 256 = v / 16777216 := Nat.div_div_eq_div_mul v 65536 256
  have carryLow : v / 256 / 256 = v / 65536 := Nat.div_div_eq_div_mul v 256 256
  rw [BitVec.toNat_ofNat, BitVec.toNat_ofNat, BitVec.toNat_ofNat, highest, high, low, lowest]
  clear row first second third fourth highest high low lowest
  omega

/-- An item is stored in its row, and every other row stands (R159). -/
theorem berthRow_storeItem {x : Nat × Nat} (h : wellSized x) (range : rowInRange x.1 x.2) (s : State) (row : Nat) :
    berthRow (storeItem s (berthItem x)) row = if row = x.1 then x.2 else berthRow s row := by
  have num := berthItem_num h
  obtain ⟨own, v⟩ := x
  obtain ⟨low, high, -⟩ := h
  dsimp only at low high num range ⊢
  by_cases slots : own = 11
  · subst slots
    have stored : storeItem s (berthItem (11, v)) = s.modDsa fun d => { d with slots := v } := by
      rw [storeItem, if_pos (berthItem_number _), num]
    rw [stored]
    split_ifs with same
    · rw [same]
      rfl
    · exact berthRow_slots_ne same
  by_cases ceiling : own = 27
  · subst ceiling
    have stored : storeItem s (berthItem (27, v)) =
        { s with profiles := { s.profiles with ceiling := ceilingOf (be32 v) } } := rfl
    rw [stored]
    split_ifs with same
    · rw [same]
      exact berthRow_ceilingOf range
    · exact berthRow_ceiling_ne same
  by_cases routing : own = 28
  · subst routing
    have stored : storeItem s (berthItem (28, v)) = { s with routing := BitVec.ofNat 19 v } := by
      rw [storeItem, berthItem_number, if_neg (show ¬28 = 11 by decide), if_neg (show ¬28 = 27 by decide), if_pos rfl, num]
    rw [stored]
    split_ifs with same
    · rw [same]
      exact (BitVec.toNat_ofNat v 19).trans (Nat.mod_eq_of_lt range)
    · exact berthRow_routing_ne same
  · rw [storeItem_record slots ceiling routing, num, berthItem_number]
    split_ifs with same
    · rw [same]
      exact berthRow_store_same low high slots ceiling routing fun watch => by subst watch; exact range
    · exact berthRow_store_ne same

/-- Every item of a list that names no row twice is stored in its row, and every other row stands (R159). -/
theorem berthRow_foldl_storeItem {items : List (Nat × Nat)} (h : ∀ x ∈ items, wellSized x)
    (range : ∀ x ∈ items, rowInRange x.1 x.2) (distinct : (items.map Prod.fst).Nodup) (s : State) :
    (∀ x ∈ items, berthRow ((items.map berthItem).foldl storeItem s) x.1 = x.2) ∧
      ∀ row, row ∉ items.map Prod.fst → berthRow ((items.map berthItem).foldl storeItem s) row = berthRow s row := by
  induction items generalizing s with
  | nil => simp
  | cons x items ih =>
    obtain ⟨sized, others⟩ := List.forall_mem_cons.mp h
    obtain ⟨first, later⟩ := List.forall_mem_cons.mp range
    obtain ⟨new, apart⟩ := List.nodup_cons.mp distinct
    obtain ⟨stored, stand⟩ := ih others later apart (storeItem s (berthItem x))
    refine ⟨List.forall_mem_cons.mpr ⟨?_, stored⟩, fun row absent => ?_⟩
    · rw [List.map_cons, List.foldl_cons, stand x.1 new, berthRow_storeItem sized first, if_pos rfl]
    · rw [List.map_cons, List.mem_cons, not_or] at absent
      obtain ⟨other, outside⟩ := absent
      rw [List.map_cons, List.foldl_cons, stand row outside, berthRow_storeItem sized first, if_neg other]

/-! ### What a stored list brings about -/

/-- The state with its ceiling item's recomputation done, if one is named (R61). -/
def recomputedFor (items : List BerthItem) (u : State) : State := if namesRow items 27 then recomputeAll u else u

/-- The recomputation touches the stations and the Report Queue alone. -/
theorem recomputedFor_rest (items : List BerthItem) (u : State) : recomputedFor items u =
    { u with stations := (recomputedFor items u).stations
             link := { u.link with reports := (recomputedFor items u).link.reports } } := by
  unfold recomputedFor
  split
  · exact (recomputeAll_recomputed u).rest
  · rfl

/-- The state with its Link Watch reloaded, if a link watch item is named (R191). -/
def watchedFor (items : List BerthItem) (u : State) : State :=
  if namesRow items 29 || namesRow items 30 then watchStored u else u

theorem watchedFor_eq (items : List BerthItem) (u : State) : watchedFor items u =
    { u with watch := if namesRow items 29 = true ∨ namesRow items 30 = true then
        { u.watch with firstExpirySeen := false
                       remaining := if u.watch.hold then u.watch.remaining else u.settings.watchTime * 1000 }
      else u.watch } := by
  unfold watchedFor
  simp only [Bool.or_eq_true]
  split_ifs with named hold
  · rw [watchStored, if_pos hold]
    rfl
  · rw [watchStored, if_neg hold]
    rfl
  · rfl

/-- A list that is accepted is stored, then the effective profiles follow, then the Link Watch (R61, R191). -/
theorem itemsStored_stages {s : State} {items : List BerthItem} (slots : s.dsa.refusesSlots items = false)
    (passes : s.berth.locked = true → ∀ it ∈ items, s.lockRefusesItem it = false) :
    itemsStored s items = watchedFor items (recomputedFor items (items.foldl storeItem s)) := itemsStored_eq slots passes

section Stages

variable (s : State) (items : List BerthItem)

/-- The stages of a stored list touch what their items name, the stations and the reports (R61, R159, R191). -/
theorem itemsStored_frame : ∃ u v w : State, u = items.foldl storeItem s ∧ v = recomputedFor items u ∧
    w = watchedFor items v ∧ ItemsStored s u ∧
    v = { u with stations := v.stations, link := { u.link with reports := v.link.reports } } ∧
    w = { v with watch := if namesRow items 29 = true ∨ namesRow items 30 = true then
        { v.watch with firstExpirySeen := false
                       remaining := if v.watch.hold then v.watch.remaining else v.settings.watchTime * 1000 }
      else v.watch } :=
  ⟨_, _, _, rfl, rfl, rfl, foldl_storeItem_stored items s, recomputedFor_rest items _, watchedFor_eq items _⟩

end Stages

/-- All that a stored list leaves as it was (R159). -/
theorem stagesAnswered_frame {s s' u v w : State} {named : Prop} [Decidable named] (stored : ItemsStored s' u)
    (recomputed : v = { u with stations := v.stations, link := { u.link with reports := v.link.reports } })
    (watched : w = { v with watch := if named then
        { v.watch with firstExpirySeen := false
                       remaining := if v.watch.hold then v.watch.remaining else v.settings.watchTime * 1000 }
      else v.watch })
    (rest : List (List Byte)) (reply : List Byte) (taken : s' = s.taking rest) : w.answering reply = { s with
      berth := { s.berth with config := (w.answering reply).berth.config }
      dsa := { s.dsa with slots := (w.answering reply).dsa.slots }
      profiles := { s.profiles with ceiling := (w.answering reply).profiles.ceiling }
      routing := (w.answering reply).routing
      stations := (w.answering reply).stations
      watch := if named then
          { s.watch with firstExpirySeen := false
                         remaining := if s.watch.hold then s.watch.remaining
                           else (w.answering reply).settings.watchTime * 1000 }
        else s.watch
      link := { s.link.answered rest reply with reports := (w.answering reply).link.reports } } := by
  subst taken
  obtain ⟨config, slots, ceiling, routing, rfl⟩ : ∃ config slots ceiling routing, u = { s.taking rest with
      berth := { s.berth with config := config }, dsa := { s.dsa with slots := slots }
      profiles := { s.profiles with ceiling := ceiling }, routing := routing } := ⟨_, _, _, _, stored.eq⟩
  obtain ⟨stations, reports, rfl⟩ : ∃ stations reports, v = { s.taking rest with
      berth := { s.berth with config := config }, dsa := { s.dsa with slots := slots }
      profiles := { s.profiles with ceiling := ceiling }, routing := routing, stations := stations
      link := { (s.taking rest).link with reports := reports } } := ⟨_, _, recomputed⟩
  subst watched
  rfl

theorem recomputedFor_station {items : List BerthItem} (u : State) (i : Station) :
    (recomputedFor items u).station i =
      if namesRow items 27 = true then (u.station i).underCeiling u.ceilingNow else u.station i := by
  unfold recomputedFor
  split
  · exact recomputeAll_station u i
  · rfl

/-- The reports of a stored list are those of the in-service stations whose effective profile it changes (R63, R182). -/
theorem recomputedFor_reports (items : List BerthItem) (u : State) :
    ReportsFor (fun i => ((recomputedFor items u).station i).lcc.effective ≠ (u.station i).lcc.effective ∧
      (u.station i).lcc.lineState ≠ .offline) u.link.reports (recomputedFor items u).link.reports := by
  have station (i : Station) := recomputedFor_station (items := items) u i
  by_cases named : namesRow items 27 = true
  · have all : recomputedFor items u = recomputeAll u := if_pos named
    rw [all] at station ⊢
    refine (recomputeAll_reports u).congr fun i => ?_
    rw [station, if_pos named]
    rfl
  · have none_ : recomputedFor items u = u := if_neg named
    rw [none_]
    exact .refl (fun i => by simp) _

/-- Settles O17: the tests of `applyConfigureBerth` in the words of the statement, and what an accepted list makes of the rows
(`berthRow_foldl_storeItem`), the effective profiles (`recomputedFor_reports`) and the Link Watch (`watchedFor_eq`). -/
theorem configureBerthByTheRules : Obligations.ConfigureBerthByTheRules := by
  unfold Obligations.ConfigureBerthByTheRules
  intro s tag items rest sized h
  have decoded : decodeItems (items.flatMap itemBytes).length (items.flatMap itemBytes) = .ok (items.map berthItem) := by
    obtain ⟨fuel, length⟩ := Nat.exists_eq_add_of_le' (length_flatMap_itemBytes items)
    have whole := decodeItems_append sized fuel []
    rw [List.append_nil, decodeItems_nil, ← length] at whole
    simpa only [List.append_nil] using whole
  have served {t : State} {result : Result} (applied : applyConfigureBerth (s.taking rest) (items.map berthItem) = (t, result)) :
      exec .configureBerth s = .next (t.answering (berthReply 0x06 tag (BitVec.ofNat 8 result.code))) := by
    rw [exec_configureBerth]
    exact congrArg Host.Outcome.next (serveBerth_decoded (decode := fun body => decodeItems body.length body) h decoded applied)
  have valid := itemsValid_map sized
  have slots := refusesSlots_map sized s.dsa
  have locks (x : Nat × Nat) (hx : x ∈ items) : (s.taking rest).lockRefusesItem (berthItem x) = false ↔
      s.rowKeptByLock x.1 x.2 := lockRefusesItem_berthItem (sized x hx) (s.taking rest)
  refine ⟨fun bad => ?_, fun range distinct => ⟨fun other busy => ?_,
    fun free => ⟨fun locked above => ?_, fun within => ?_⟩⟩⟩
  · exact served (if_pos (by simpa using mt valid.mp bad))
  all_goals have passes : ¬(!itemsValid (items.map berthItem)) = true := by simpa using valid.mpr ⟨range, distinct⟩
  · exact served ((if_neg passes).trans (if_pos (slots.mpr ⟨other, busy⟩)))
  all_goals
    have fits : ¬(s.taking rest).dsa.refusesSlots (items.map berthItem) = true := by
      refine mt slots.mp ?_
      rintro ⟨⟨x, mem, row, ne⟩, busy⟩
      exact free.elim (fun same => ne (same x mem row)) busy
  · obtain ⟨x, mem, refused⟩ := above
    have refuses : ((s.taking rest).berth.locked && (items.map berthItem).any (s.taking rest).lockRefusesItem) = true := by
      rw [Bool.and_eq_true, List.any_eq_true]
      exact ⟨locked, berthItem x, List.mem_map_of_mem mem, by simpa using mt (locks x mem).mp refused⟩
    exact served ((if_neg passes).trans ((if_neg fits).trans (if_pos refuses)))
  · have lets : (s.taking rest).berth.locked = true →
        ∀ it ∈ items.map berthItem, (s.taking rest).lockRefusesItem it = false := by
      intro locked it hit
      obtain ⟨x, mem, rfl⟩ := List.mem_map.mp hit
      exact (locks x mem).mpr (within locked x mem)
    have accepts : ¬((s.taking rest).berth.locked && (items.map berthItem).any (s.taking rest).lockRefusesItem) = true := by
      rw [Bool.and_eq_true, List.any_eq_true]
      rintro ⟨locked, it, hit, refuses⟩
      rw [lets locked it hit] at refuses
      cases refuses
    have applied : applyConfigureBerth (s.taking rest) (items.map berthItem) =
        (itemsStored (s.taking rest) (items.map berthItem), .accepted) :=
      (if_neg passes).trans ((if_neg fits).trans (if_neg accepts))
    refine ⟨_, served applied, ?_⟩
    obtain ⟨u, v, w, hu, hv, hw, stored, recomputed, watched⟩ := itemsStored_frame (s.taking rest) (items.map berthItem)
    obtain ⟨rows, others⟩ := berthRow_foldl_storeItem sized range distinct (s.taking rest)
    have station := recomputedFor_station (items := items.map berthItem) u
    have reports := recomputedFor_reports (items.map berthItem) u
    have unnamed (absent : ¬namesRow (items.map berthItem) 27 = true) : v = u := hv.trans (if_neg absent)
    rw [itemsStored_stages (by simpa using fits) lets, ← hu, ← hv, ← hw]
    rw [← hu] at rows others
    rw [← hv] at station reports
    clear hu hv hw
    have was (i : Station) : u.station i = s.station i := by rw [stored.eq]; rfl
    have table : u.ceilingNow = u.profiles.ceiling.get s.profiles.condition := by rw [stored.eq]; rfl
    have queue : u.link.reports = s.link.reports := by rw [stored.eq]; rfl
    have ceiling : w.profiles.ceiling = u.profiles.ceiling := by rw [watched, recomputed]
    have same (row : Nat) : berthRow w row = berthRow u row :=
      berthRow_congr (by rw [watched, recomputed]; rfl) (by rw [watched, recomputed]) (by rw [watched, recomputed])
        (by rw [watched, recomputed]) row
    have stands (i : Station) : w.station i = v.station i := by rw [watched]; rfl
    have keptReports : w.link.reports = v.link.reports := by rw [watched]
    simp only [namesRow_map] at station unnamed watched
    refine ⟨fun x mem => (same x.1).trans (rows x mem), fun row _ absent => (same row).trans (others row absent), ?_,
      fun i => ?_, ?_, fun absent => ?_⟩
    · exact stagesAnswered_frame stored recomputed watched rest (berthReply 0x06 tag 0) rfl
    · change w.station i = _
      rw [stands, station, was, table, ← ceiling]
      rfl
    · change ReportsFor (fun i => (w.station i).lcc.effective ≠ _ ∧ _) _ w.link.reports
      rw [keptReports, ← queue]
      refine reports.congr fun i => ?_
      rw [stands, was]
    · change w.link.reports = _
      rw [keptReports, unnamed absent, queue]

end Sys2Proof.Machine

/-!
PROOF. The station requests that touch one station alone: ABSENT at an OFFLINE station (O18), ARM_RELEASE and the arm's expiry
(O24), SELECT_PROFILE (O25) and CLEAR_FAULT (O26).
-/
namespace Sys2Proof.Machine

/-! ### A request for one station -/

section Request

variable {s u : State} {c : Instr} {code tag : Byte} {i : Station} {fields : List Byte} {rest : List (List Byte)}
  {decode : List Byte → Decoded RangeRequest} {n : Nat} {request : StationRequest} {result : Result}

/-- The handler applies the request at its only station and answers with its result (R7, R173). -/
theorem exec_ranged_applied (ranged : rangedCommand c = some (code, decode, n + 1))
    (h : HandlerTakes s (requestFor code tag i fields) rest)
    (hd : decode (BitVec.ofNat 8 i.val :: BitVec.ofNat 8 i.val :: fields) =
      .ok { first := i.val, last := i.val, request := request }) (hr : request ≠ .readStations)
    (ha : applyRequest (s.serving rest (workingAt code tag request i)) i request = (u, result)) :
    exec c s = .next (u.replied (replyFor code tag (BitVec.ofNat 8 result.code))) := by
  rw [exec_ranged ranged, serveStations_single h hd hr, ha]

/-- A request that applies nothing is answered, and nothing else changes (R7). -/
theorem exec_ranged_unapplied (ranged : rangedCommand c = some (code, decode, n + 1))
    (h : HandlerTakes s (requestFor code tag i fields) rest)
    (hd : decode (BitVec.ofNat 8 i.val :: BitVec.ofNat 8 i.val :: fields) =
      .ok { first := i.val, last := i.val, request := request }) (hr : request ≠ .readStations)
    (ha : applyRequest (s.serving rest (workingAt code tag request i)) i request =
      (s.serving rest (workingAt code tag request i), result)) :
    exec c s = .next (s.answeredWith rest (replyFor code tag (BitVec.ofNat 8 result.code))) := by
  rw [exec_ranged_applied ranged h hd hr ha, State.serving_replied h.2.1]

end Request

theorem inServiceOnly_offline {s : State} {i : Station} (h : (s.station i).lcc.lineState = .offline) (result : Applied) :
    inServiceOnly s i result = (s, .absent) := by
  simp [inServiceOnly, State.inService, h]

/-- RELEASE for one station decodes to its rewind flag, an omitted byte as set (R23, R172). -/
theorem decodeRelease_single (i : Station) {fields : List Byte} {rewind : Bool}
    (h : fields = [] ∧ rewind = true ∨ fields = [if rewind then 1 else 0]) :
    decodeRelease (BitVec.ofNat 8 i.val :: BitVec.ofNat 8 i.val :: fields) =
      .ok { first := i.val, last := i.val, request := .release rewind } := by
  have inRange : i.val ≤ 11 := by omega
  rcases h with ⟨rfl, rfl⟩ | rfl
  · simp [decodeRelease, rangeValid, byteAt, toNat_byte_station, inRange, -BitVec.toNat_ofNat]
  · cases rewind <;>
      simp [decodeRelease, rangeValid, byteAt, toNat_byte_station, inRange, -BitVec.toNat_ofNat]

/-- A request without further fields for one station (R173). -/
theorem decodeRange_plain (request : StationRequest) (i : Station) :
    decodeRange 0 (fun _ => request) [BitVec.ofNat 8 i.val, BitVec.ofNat 8 i.val] =
      .ok { first := i.val, last := i.val, request := request } := decodeRange_single (fields := []) _ i rfl

/-- SELECT_PROFILE for one station decodes to its profile number (R33). -/
theorem decodeSelectProfile_single (i : Station) (number : Byte) :
    decodeRange 1 (fun b => .selectProfile (byteAt b 2)) [BitVec.ofNat 8 i.val, BitVec.ofNat 8 i.val, number] =
      .ok { first := i.val, last := i.val, request := .selectProfile number.toNat } :=
  decodeRange_single (fields := [number]) _ i rfl

/-- Settles O18: every request but CONFIGURE_STATION asks first whether the station is in service (`inServiceOnly_offline`). -/
theorem offlineAnswersAbsent : Obligations.OfflineAnswersAbsent := by
  unfold Obligations.OfflineAnswersAbsent
  intro s i tag x y z m rest n off c hc h
  have absent (w : Working) (result : Applied) : inServiceOnly (s.serving rest w) i result = (s.serving rest w, .absent) :=
    inServiceOnly_offline (s := s.serving rest w) off result
  simp only [List.mem_cons, List.not_mem_nil, or_false] at hc
  rcases hc with rfl | rfl | rfl | rfl | rfl | rfl | rfl | rfl | rfl | rfl <;> dsimp only at h ⊢
  · exact exec_ranged_unapplied (result := .absent) rfl h (decodeRange_single (fields := [x, y, z, m]) _ i rfl) (by simp)
      (absent _ _)
  · exact exec_ranged_unapplied (result := .absent) rfl h (decodeRange_plain .lock i) (by simp) (absent _ _)
  · exact exec_ranged_unapplied (result := .absent) rfl h (decodeRelease_single i (.inl ⟨rfl, rfl⟩)) (by simp) (absent _ _)
  · exact exec_ranged_unapplied (result := .absent) rfl h (decodeRelease_single i (rewind := false) (.inr rfl)) (by simp)
      (absent _ _)
  · exact exec_ranged_unapplied (result := .absent) rfl h (decodeRelease_single i (rewind := true) (.inr rfl)) (by simp)
      (absent _ _)
  · exact exec_ranged_unapplied (result := .absent) rfl h (decodeRange_plain .armRelease i) (by simp) (absent _ _)
  · exact exec_ranged_unapplied (result := .absent) rfl h (decodeRange_plain .rewind i) (by simp) (absent _ _)
  · exact exec_ranged_unapplied (result := .absent) rfl h (decodeRange_plain .halt i) (by simp) (absent _ _)
  · exact exec_ranged_unapplied (result := .absent) rfl h (decodeSelectProfile_single i x) (by simp) (absent _ _)
  · exact exec_ranged_unapplied (result := .absent) rfl h (decodeRange_plain .clearFault i) (by simp) (absent _ _)

/-! ### ARM_RELEASE -/

theorem LineState.keepsArm_iff (l : LineState) :
    l.keepsArm = true ↔ l ∈ [LineState.takingUp, .holding, .adjusting, .locking, .fault] := by
  cases l <;> simp [LineState.keepsArm]

theorem applyArmRelease_wrongState {s : State} {i : Station} (h : (s.station i).lcc.lineState.keepsArm = false) :
    applyArmRelease s i = (s, .wrongState) := if_neg (ne_true_of_eq_false h)

/-- An accepted ARM_RELEASE sets the expiry afresh, and a new arm is reported (R128, R130). -/
theorem applyArmRelease_accepted {s : State} {i : Station} (h : (s.station i).lcc.lineState.keepsArm = true) :
    applyArmRelease s i =
      ({ s.setStation i { s.station i with lcc := { (s.station i).lcc with
          armExpiry := some (s.timeBase + BitVec.ofNat 32 s.settings.armWindow) } } with
        link := { s.link with reports := if (s.station i).lcc.armExpiry = none then pendReport (.station i) s.link.reports
          else s.link.reports } }, .accepted) := by
  refine (if_pos h).trans ?_
  cases (s.station i).lcc.armExpiry <;> rfl

/-- An expiry that the time base has reached is due (R128). -/
theorem armDue_of_reached {s : State} {i : Station} (h : (s.station i).lcc.armExpiry = some s.timeBase) :
    s.armDue i = true := by
  simp [State.armDue, h]

/-- Settles O24: the two outcomes of `applyArmRelease`, and the end of an arm that is due. -/
theorem armBeginsAndExpires : Obligations.ArmBeginsAndExpires := by
  unfold Obligations.ArmBeginsAndExpires
  intro s i tag n rest
  refine ⟨fun h serving => ⟨fun outside => ?_, fun inside => ?_⟩, fun reached => ?_⟩
  · have refused := applyArmRelease_wrongState (s := s.serving rest (workingAt 0x0E tag .armRelease i)) (i := i)
      (by simpa using mt (LineState.keepsArm_iff _).mp outside)
    exact exec_ranged_unapplied (result := .wrongState) rfl h (decodeRange_plain .armRelease i) (by simp)
      ((inServiceOnly_inService (s := s.serving rest _) serving _).trans refused)
  · have accepted := applyArmRelease_accepted (s := s.serving rest (workingAt 0x0E tag .armRelease i)) (i := i)
      ((LineState.keepsArm_iff _).mpr inside)
    refine ⟨_, exec_ranged_applied (result := .accepted) rfl h (decodeRange_plain .armRelease i) (by simp)
      ((inServiceOnly_inService (s := s.serving rest _) serving _).trans accepted), ?_, fun j other => ?_, ?_⟩
    · simp only [State.replied, State.modLink, State.serving, State.setStation, Link.answered, h.2.1]
      rfl
    · exact State.station_setStation_ne _ _ other
    · refine (State.station_setStation_same _ _ _).trans ?_
      have sum : s.timeBase + BitVec.ofNat 32 s.settings.armWindow =
          BitVec.ofNat 32 (s.timeBase.toNat + s.settings.armWindow) := by
        rw [BitVec.ofNat_add, BitVec.ofNat_toNat, BitVec.setWidth_eq]
      rw [← sum]
      rfl
  · exact congrArg Host.Outcome.next (if_pos (armDue_of_reached reached))

/-! ### SELECT_PROFILE -/

theorem applySelectProfile_outOfRange {s : State} {i : Station} {number : Nat} (h : 7 < number) :
    applySelectProfile s i number = (s, .outOfRange) := if_pos h

/-- The part with this configuration stored at the station and its effective profile as R62 has it, a change in service
reported (R63). -/
def State.withConfig (s : State) (i : Station) (c : StationConfig) : State :=
  { s.setStation i ((s.station i).configured c s.ceilingNow) with
    link := { s.link with
      reports := if (s.station i).lcc.effective ≠ some (min c.requested s.ceilingNow) ∧
          (s.station i).lcc.lineState ≠ .offline then pendReport (.station i) s.link.reports else s.link.reports } }

theorem recomputeEffective_setConfig (s : State) (i : Station) (c : StationConfig) :
    recomputeEffective (s.setConfig i (some c)) i = s.withConfig i c := by
  have found : (s.setConfig i (some c)).station i = { s.station i with config := some c } :=
    State.station_setConfig_same _ _ _
  have under : ((s.setConfig i (some c)).station i).underCeiling (s.setConfig i (some c)).ceilingNow =
      (s.station i).configured c s.ceilingNow := by
    rw [found]
    rfl
  have twice : (s.setConfig i (some c)).setStation i ((s.station i).configured c s.ceilingNow) =
      s.setStation i ((s.station i).configured c s.ceilingNow) := State.setStation_setStation s i _ _
  have outcome := recomputeEffective_cases (s.setConfig i (some c)) i
  rw [StationState.ceilingReported, under, found, twice] at outcome
  unfold State.withConfig
  obtain ⟨same, unchanged⟩ | ⟨⟨changed, serving⟩, reported⟩ | ⟨offline, stored⟩ := outcome
  · have stands : (s.station i).lcc.effective = some (min c.requested s.ceilingNow) :=
      (congrArg (fun a => a.lcc.effective) same).symm
    rw [unchanged, if_neg fun other => other.1 stands, same]
    rfl
  · have other : (s.station i).lcc.effective ≠ some (min c.requested s.ceilingNow) := fun e => changed e.symm
    rw [reported, if_pos ⟨other, serving⟩]
    rfl
  · rw [stored, if_neg fun other => other.2 offline]
    rfl

theorem applySelectProfile_accepted {s : State} {i : Station} {c : StationConfig} (hc : (s.station i).config = some c)
    (k : ProfileNo) : applySelectProfile s i k.val = (s.withConfig i { c with requested := k }, .accepted) := by
  rw [applySelectProfile, if_neg (by omega), hc, profileNo_val, ← recomputeEffective_setConfig]
  rfl

/-- Settles O25: a number in range is stored with the effective profile it gives (`recomputeEffective_setConfig`). -/
theorem selectProfileByTheRules : Obligations.SelectProfileByTheRules := by
  unfold Obligations.SelectProfileByTheRules
  intro s i tag number c n rest h serving hc
  refine ⟨fun large => ?_, fun k hk => ?_⟩
  · exact exec_ranged_unapplied (result := .outOfRange) rfl h (decodeSelectProfile_single i number) (by simp)
      ((inServiceOnly_inService (s := s.serving rest _) serving _).trans (applySelectProfile_outOfRange large))
  · have accepted := applySelectProfile_accepted (s := s.serving rest (workingAt 0x11 tag (.selectProfile number.toNat) i)) hc k
    rw [hk] at accepted
    refine ⟨_, exec_ranged_applied (result := .accepted) rfl h (decodeSelectProfile_single i number) (by simp)
      ((inServiceOnly_inService (s := s.serving rest _) serving _).trans accepted), ?_, fun j other => ?_, ?_⟩
    · have reports : (if (s.station i).lcc.effective ≠ some (min k s.ceilingNow) ∧
          (s.station i).lcc.lineState ≠ .offline then pendReport (.station i) s.link.reports else s.link.reports) =
          if (s.station i).lcc.effective = some (min k s.ceilingNow) then s.link.reports
            else pendReport (.station i) s.link.reports := by
        by_cases same : (s.station i).lcc.effective = some (min k s.ceilingNow) <;> simp [same, serving]
      rw [← reports]
      simp only [State.replied, State.modLink, State.serving, State.withConfig, State.setStation, Link.answered, h.2.1]
      rfl
    · exact State.station_setStation_ne _ _ other
    · exact State.station_setStation_same _ _ _

/-! ### CLEAR_FAULT -/

theorem stillPresent_iff (s : State) (i : Station) : stillPresent s i = true ↔ s.conditionPresent i := by
  simp [stillPresent, State.conditionPresent, or_assoc]

section ClearFault

variable {s : State} {i : Station}

theorem applyClearFault_wrongState (outside : (s.station i).lcc.lineState ≠ .fault) (clear : (s.station i).lcc.fault = none)
    (low : (s.station i).lcc.overloadHeld = false) : applyClearFault s i = (s, .wrongState) :=
  if_pos ⟨outside, clear, low⟩

variable (found : (s.station i).lcc.lineState = .fault ∨ (s.station i).lcc.fault ≠ none ∨
  (s.station i).lcc.overloadHeld = true)

include found

theorem clearFault_taken : ¬(¬(s.station i).lcc.lineState = .fault ∧ (s.station i).lcc.fault = none ∧
    (s.station i).lcc.overloadHeld = false) := by
  rintro ⟨outside, clear, low⟩
  simp [outside, clear, low] at found

theorem applyClearFault_stillPresent (present : s.conditionPresent i) :
    applyClearFault s i = (s, .stillPresent) :=
  (if_neg (clearFault_taken found)).trans (if_pos ((stillPresent_iff s i).mpr present))

theorem applyClearFault_accepted (absent : ¬s.conditionPresent i) :
    applyClearFault s i =
      (if (s.station i).lcc.lineState = .fault then leaveFault (clearRecord s i) i else clearRecord s i, .accepted) := by
  refine (if_neg (clearFault_taken found)).trans ((if_neg (mt (stillPresent_iff s i).mp absent)).trans ?_)
  split_ifs <;> rfl

end ClearFault

theorem mem_reports_clearRecord {s : State} {i : Station} (h : (s.station i).lcc.overloadHeld = true) :
    ReportEntry.station i ∈ (clearRecord s i).link.reports := by
  rw [clearRecord, if_pos h]
  exact mem_reports_reportStation _ i

theorem clearRecord_station (s : State) (i : Station) : (clearRecord s i).station i =
    { s.station i with lcc := { (s.station i).lcc with fault := none, overloadHeld := false } } := by
  unfold clearRecord
  dsimp only
  split <;> simp

theorem clearRecord_dsa (s : State) (i : Station) : (clearRecord s i).dsa = s.dsa := by
  unfold clearRecord
  dsimp only
  split <;> simp

/-- A station that leaves FAULT has lock mode ON_REQUEST (R32). -/
def StationState.onRequest (a : StationState) : StationState := { a with lcc := { a.lcc with lockMode := .onRequest } }

/-- A station that leaves FAULT enters a state by its filtered sensors (R32). -/
theorem leaveFault_becomes (s : State) (i : Station) : StationBecomes i s (leaveFault s i)
    (if (s.station i).filters.stowed.level then
      { (s.station i).onRequest.moved .stowed .faultCleared with
        mu := { (s.station i).mu with count := 0, referenced := true, correction := none } }
    else if (s.station i).latch = .closed ∧ (s.station i).filters.headSeated.level = true then
      (s.station i).onRequest.moved .holding .faultCleared
    else (s.station i).onRequest.moved .lineOut .faultCleared) := by
  have chosen := (StationBecomes.refl i s).modLcc fun l => { l with lockMode := .onRequest }
  have stowed := enterStowed_becomes (s.modLcc i fun l => { l with lockMode := .onRequest }) i .faultCleared none
  have moves (new : LineState) := changeState_becomes (s.modLcc i fun l => { l with lockMode := .onRequest }) i new .faultCleared
  simp only [State.station_modLcc_same] at stowed moves
  dsimp only [leaveFault]
  split_ifs
  · exact chosen.trans stowed
  · exact chosen.trans (moves .holding)
  · exact chosen.trans (moves .lineOut)

theorem mem_reports_leaveFault (s : State) (i : Station) : ReportEntry.station i ∈ (leaveFault s i).link.reports := by
  unfold leaveFault
  dsimp only
  split_ifs <;> exact mem_reports_changeState _ i _ _

/-- The station once CLEAR_FAULT has cleared its record (R32). -/
def StationState.cleared (a : StationState) : StationState :=
  { a with lcc := { a.lcc with fault := none, overloadHeld := false } }

/-- Settles O26: the three outcomes of `applyClearFault`, and what leaving FAULT makes of the station by its filtered sensors
(`leaveFault_becomes`). -/
theorem clearFaultByTheRules : Obligations.ClearFaultByTheRules := by
  unfold Obligations.ClearFaultByTheRules
  intro s i tag n rest h serving
  have serves (result : Applied) : inServiceOnly (s.serving rest (workingAt 0x12 tag .clearFault i)) i result = result :=
    inServiceOnly_inService (s := s.serving rest _) serving result
  refine ⟨fun outside clear low => ?_, fun found => ⟨fun present => ?_, fun absent => ?_⟩⟩
  · exact exec_ranged_unapplied (result := .wrongState) rfl h (decodeRange_plain .clearFault i) (by simp)
      ((serves _).trans (applyClearFault_wrongState (s := s.serving rest _) outside clear low))
  · exact exec_ranged_unapplied (result := .stillPresent) rfl h (decodeRange_plain .clearFault i) (by simp)
      ((serves _).trans (applyClearFault_stillPresent (s := s.serving rest _) found present))
  · have applied := (serves _).trans (applyClearFault_accepted (s := s.serving rest (workingAt 0x12 tag .clearFault i))
      found absent)
    have cleared := clearRecord_becomes (s.serving rest (workingAt 0x12 tag .clearFault i)) i
    have station : (clearRecord (s.serving rest (workingAt 0x12 tag .clearFault i)) i).station i = (s.station i).cleared :=
      clearRecord_station _ i
    have dsa : (clearRecord (s.serving rest (workingAt 0x12 tag .clearFault i)) i).dsa = s.dsa := clearRecord_dsa _ i
    have held (h : (s.station i).lcc.overloadHeld = true) := mem_reports_clearRecord
      (s := s.serving rest (workingAt 0x12 tag .clearFault i)) h
    generalize clearRecord (s.serving rest (workingAt 0x12 tag .clearFault i)) i = u at *
    have executed := exec_ranged_applied (c := .clearFault (n + 1)) (result := .accepted) rfl h
      (decodeRange_plain .clearFault i) (by simp) applied
    have filters : (s.station i).cleared.filters = (s.station i).filters := rfl
    have latch : (s.station i).cleared.latch = (s.station i).latch := rfl
    by_cases inFault : (s.station i).lcc.lineState = .fault
    · rw [State.serving_station, if_pos inFault] at executed
      have left := leaveFault_becomes u i
      have reported := mem_reports_leaveFault u i
      refine ⟨_, executed, (cleared.trans left).served _, fun _ => reported, fun outside => absurd inFault outside,
        fun _ => ⟨reported, fun stowed => ?_, fun away closed seated => ?_, fun away free => ?_⟩⟩
      all_goals
        rw [State.replied_station]
        have becomes := left.station
        rw [station, filters, latch] at becomes
      · rw [if_pos stowed] at becomes
        exact becomes
      · rw [if_neg (ne_true_of_eq_false away), if_pos ⟨closed, seated⟩] at becomes
        exact becomes
      · rw [if_neg (ne_true_of_eq_false away), if_neg free] at becomes
        exact becomes
    · rw [State.serving_station, if_neg inFault] at executed
      exact ⟨_, executed, cleared.served _, held, fun _ => ⟨station, dsa⟩, fun inside => absurd inside inFault⟩

end Sys2Proof.Machine

/-!
PROOF. The entries of line states in the words of the statements: what an entry into FAULT leaves of the context, the rewind
that has begun, the attempt sequence that is asked, and the sequence that is confirmed (R6, R18, R19, R24, R26, R29, R52,
R121, R122).
-/
namespace Sys2Proof.Machine

/-! ### FAULT -/

section Fault

variable {s : State} {i : Station} {kind : FaultKind}

/-- The context after an entry into FAULT from this state, its sample stream lost or good (R29, R52; log 10). -/
def StationState.lccFaulted (a : StationState) (kind : FaultKind) (left : LineState) (berthTime : Count32) : Lcc :=
  if a.mu.lost then a.lccLost kind left berthTime else a.lccInFault kind left berthTime

theorem StationState.lccFaulted_of_good {a : StationState} (good : a.mu.lost = false) (kind : FaultKind) (left : LineState)
    (berthTime : Count32) : a.lccFaulted kind left berthTime = a.lccInFault kind left berthTime :=
  if_neg (ne_true_of_eq_false good)

theorem StationState.lccFaulted_of_lost {a : StationState} (lost : a.mu.lost = true) (kind : FaultKind) (left : LineState)
    (berthTime : Count32) : a.lccFaulted kind left berthTime = a.lccLost kind left berthTime := if_pos lost

/-- The station after an entry into FAULT from this state, with these detections left handed (R29, R125, R137). -/
def StationState.inFault (a : StationState) (kind : FaultKind) (left : LineState) (berthTime : Count32)
    (handed : List FaultKind) : StationState :=
  { a with lcc := a.lccFaulted kind left berthTime, mu := { a.mu with correction := none }, lpu := a.lpu.endedByFault,
           handed := handed }

/-- The context of a station that entered FAULT, before the test for a further SENSOR_LOST, is the one of the statements. -/
theorem StationState.faulted_lcc (a : StationState) (kind : FaultKind) (berthTime : Count32) (handed : List FaultKind) :
    (a.faulted kind berthTime handed).lcc = a.lccInFault kind a.lcc.lineState berthTime := by
  have record := StationState.recordFor_eq_recordOf (a := a) (b := a) kind berthTime rfl rfl rfl
  by_cases closed : a.latch = .closed <;>
    simp [StationState.faulted, StationState.lccInFault, Lcc.moved, Lcc.between, record, closed, LineState.keepsArm,
      LineState.clearsCurrent, LineState.isTensioned]

/-- What an entry into FAULT makes of the station, whatever its sample stream (R29, R52; log 10). -/
theorem enterFault_leaves (s : State) (i : Station) (kind : FaultKind) :
    ∃ handed, StationBecomes i s (enterFault s i kind)
      ((s.station i).inFault kind (s.station i).lcc.lineState s.berthTime handed) := by
  refine ⟨(s.station i).handedAfter ((faultStopped s i kind).station i) kind, ?_⟩
  have entered := faultEntered_becomes s i kind
  have context := (s.station i).faulted_lcc kind s.berthTime
    ((s.station i).handedAfter ((faultStopped s i kind).station i) kind)
  rw [enterFault_eq]
  generalize (s.station i).handedAfter ((faultStopped s i kind).station i) kind = handed at *
  generalize faultEntered s i kind = u at *
  by_cases lost : (s.station i).mu.lost = true
  · by_cases closed : (s.station i).latch = .closed
    · rw [if_pos (by simp [lost, closed, LineState.lostIsFault, LineState.isTensioned])]
      have further := entered.trans (addFurther_becomes u i .sensorLost)
      refine further.of_same ⟨?_, entered.station.config, entered.station.lpu, entered.station.filters,
        entered.station.handed, entered.station.mu⟩
      dsimp only
      rw [entered.station.lcc, context]
      simp only [StationState.inFault, StationState.lccFaulted, if_pos lost, StationState.lccLost,
        StationState.recordLost, if_pos closed]
      rfl
    · rw [if_neg (by simp [closed, LineState.lostIsFault, LineState.isTensioned])]
      refine entered.of_same ⟨?_, rfl, rfl, rfl, rfl, rfl⟩
      rw [context]
      simp only [StationState.inFault, StationState.lccFaulted, if_pos lost, StationState.lccLost,
        StationState.recordLost, if_neg closed]
      rfl
  · rw [if_neg (by simp [lost])]
    refine entered.of_same ⟨?_, rfl, rfl, rfl, rfl, rfl⟩
    rw [context]
    simp only [StationState.inFault, StationState.lccFaulted, if_neg lost]

/-- A detection outside FAULT at a station in service, likewise (R29, R137). -/
theorem detect_leaves (serving : (s.station i).lcc.lineState ≠ .offline) (outside : (s.station i).lcc.lineState ≠ .fault)
    (kind : FaultKind) : ∃ handed, StationBecomes i s (detect s i kind)
      ((s.station i).inFault kind (s.station i).lcc.lineState s.berthTime handed) := by
  rw [detect_enters s i kind serving outside]
  exact enterFault_leaves s i kind

/-- The record reads the tension, the count and a record that stands (R139). -/
theorem StationState.recordOf_congr {a b : StationState} (fault : b.lcc.fault = a.lcc.fault)
    (tension : b.mu.tension = a.mu.tension) (count : b.mu.count = a.mu.count) (kind : FaultKind) (left : LineState)
    (berthTime : Count32) : b.recordOf kind left berthTime = a.recordOf kind left berthTime := by
  simp only [StationState.recordOf, fault, tension, count]

theorem StationState.recordLost_congr {a b : StationState} (fault : b.lcc.fault = a.lcc.fault)
    (tension : b.mu.tension = a.mu.tension) (count : b.mu.count = a.mu.count) (latch : b.latch = a.latch)
    (kind : FaultKind) (left : LineState) (berthTime : Count32) :
    b.recordLost kind left berthTime = a.recordLost kind left berthTime := by
  simp only [StationState.recordLost, StationState.recordOf_congr fault tension count, latch]

/-- The context in FAULT reads no item that only another state holds (R29). -/
theorem StationState.lccInFault_congr {a b : StationState}
    (lcc : b.lcc.between .fault .fault = a.lcc.between .fault .fault) (tension : b.mu.tension = a.mu.tension)
    (count : b.mu.count = a.mu.count) (latch : b.latch = a.latch) (kind : FaultKind) (left : LineState)
    (berthTime : Count32) : b.lccInFault kind left berthTime = a.lccInFault kind left berthTime := by
  have fault : b.lcc.fault = a.lcc.fault := (congrArg Lcc.fault lcc :)
  have dose : b.lcc.dose = a.lcc.dose := (congrArg Lcc.dose lcc :)
  have held : b.lcc.overloadHeld = a.lcc.overloadHeld := (congrArg Lcc.overloadHeld lcc :)
  simp only [StationState.lccInFault, lcc, StationState.recordOf_congr fault tension count, latch, dose, held]

/-- A lost stream at an entry is SENSOR_LOST, a further one with the latch CLOSED (R52; log 10). -/
theorem lostAtEntry_leaves (lost : (s.station i).mu.lost = true) (serving : (s.station i).lcc.lineState ≠ .offline)
    (outside : (s.station i).lcc.lineState ≠ .fault) :
    ∃ handed, StationBecomes i s (lostAtEntry s i)
      ((s.station i).inFault .sensorLost (s.station i).lcc.lineState s.berthTime handed) := by
  rw [lostAtEntry, if_pos lost]
  exact detect_leaves serving outside .sensorLost

end Fault

/-! ### REWINDING -/

section Rewinding

variable {s t : State} {i : Station} {reason : Reason}

/-- With the sensor STOWED not asserted and its stream lost, the station goes on from REWINDING to FAULT (R26, R52). -/
theorem enterRewinding_faults (s : State) (i : Station) (reason : Reason)
    (away : (s.station i).filters.stowed.level = false) (lost : (s.station i).mu.lost = true) :
    ∃ (b : StationState) (handed : List FaultKind),
      StationBecomes i s (enterRewinding s i reason) (b.inFault .sensorLost .rewinding s.berthTime handed) ∧
      b.lcc.fault = (s.station i).lcc.fault ∧ b.lcc.armExpiry = none ∧ b.filters = (s.station i).filters ∧
      b.mu = { (s.station i).mu with correction := none, releaseMeasure := b.mu.releaseMeasure } := by
  have begun := rewindBegun_becomes s i reason
  rw [enterRewinding_eq, if_neg (ne_true_of_eq_false away)]
  have tested : ∃ b : StationState, StationBecomes i s (creepTest (rewindBegun s i reason) i) b ∧
      b.lcc.lineState = .rewinding ∧ b.lcc.fault = (s.station i).lcc.fault ∧ b.lcc.armExpiry = none ∧
      b.filters = (s.station i).filters ∧ b.mu = { (s.station i).mu with correction := none } := by
    unfold creepTest
    split_ifs
    · exact ⟨_, (begun.modLcc fun l => { l with
        creepCount := some 0, creepLimit := some (rewindBegun s i reason).settings.creepLimit }).changeSpeed
        (rewindBegun s i reason).settings.creepSpeed, rfl, rfl, rfl, rfl, rfl⟩
    · exact ⟨_, begun, rfl, rfl, rfl, rfl, rfl⟩
  obtain ⟨b, becomes, rewinding, fault, arm, filters, mu⟩ := tested
  have station := becomes.station
  have berthTime := becomes.berth.berthTime
  generalize creepTest (rewindBegun s i reason) i = u at *
  have state : (u.station i).lcc.lineState = .rewinding := by rw [station.lcc, rewinding]
  have measure : (u.station i).mu.lost = true := by
    rw [station.mu, mu]
    exact lost
  obtain ⟨handed, entered⟩ := lostAtEntry_leaves measure (by simp [state]) (by simp [state])
  rw [state, berthTime] at entered
  exact ⟨u.station i, handed, becomes.trans entered, by rw [station.lcc, fault], by rw [station.lcc, arm],
    by rw [station.filters, filters], by rw [station.mu, mu]⟩

/-- A station that enters REWINDING, in the words of the statement (R26). -/
theorem enterRewinding_rewound (s : State) (i : Station) (reason : Reason) :
    (s.station i).Rewound s.settings s.berthTime reason (enterRewinding s i reason) i := by
  have moved := changeState_becomes s i .rewinding reason
  have begun := rewindBegun_becomes s i reason
  refine ⟨fun stowed => ?_, fun away good => ?_, fun away lost => ?_⟩
  · rw [enterRewinding_eq, if_pos stowed]
    have arrived := (moved.trans (arrive_becomes (changeState s i .rewinding reason) i)).station
    refine StationState.SameButDrive.trans ?_ arrived
    refine ⟨?_, moved.station.config, moved.station.lpu, moved.station.filters, moved.station.handed, ?_⟩
    · simp only [StationState.moved, moved.station.lcc, latch_of_same moved.station]
      rfl
    · dsimp only [StationState.arrivalCorrection]
      rw [moved.station.lcc, moved.station.mu]
      rfl
  · rw [enterRewinding_eq, if_neg (ne_true_of_eq_false away)]
    have zeroOrNot : (((rewindBegun s i reason).station i).mu.count = 0 ∧
        ((rewindBegun s i reason).station i).lcc.creepCount = none) ↔ (s.station i).mu.count = 0 := by
      have counted : ((rewindBegun s i reason).station i).mu.count = (s.station i).mu.count := by
        rw [begun.station.mu]; rfl
      have uncrept : ((rewindBegun s i reason).station i).lcc.creepCount = none := by rw [begun.station.lcc]; rfl
      simp [counted, uncrept]
    have settings := begun.settings
    rw [creepTest]
    generalize rewindBegun s i reason = u at *
    by_cases count : (s.station i).mu.count = 0
    · have crept : StationBecomes i s (beginCreep u i) _ := (begun.modLcc fun l => { l with
        creepCount := some 0, creepLimit := some u.settings.creepLimit }).changeSpeed u.settings.creepSpeed
      have stands : ((beginCreep u i).station i).mu.lost = false := by
        rw [crept.station.mu]
        exact good
      rw [if_pos (zeroOrNot.mpr count), lostAtEntry_of_not_lost stands]
      refine StationState.SameButDrive.trans ?_ crept.station
      refine ⟨?_, rfl, rfl, rfl, rfl, rfl⟩
      simp only [count, if_true, settings]
      rfl
    · have stands : (u.station i).mu.lost = false := by
        rw [begun.station.mu]
        exact good
      rw [if_neg (mt zeroOrNot.mp count), lostAtEntry_of_not_lost stands]
      refine StationState.SameButDrive.trans ?_ begun.station
      refine ⟨?_, rfl, rfl, rfl, rfl, rfl⟩
      simp only [count, if_false]
      rfl
  · obtain ⟨b, handed, entered, fault, -, filters, mu⟩ := enterRewinding_faults s i reason away lost
    have gone : b.mu.lost = true := by
      rw [mu]
      exact lost
    have record := StationState.recordLost_congr (a := s.station i) (b := b) fault (by rw [mu]) (by rw [mu])
      (by simp only [StationState.latch, filters]) .sensorLost .rewinding s.berthTime
    rw [entered.station.lcc]
    dsimp only [StationState.inFault]
    rw [StationState.lccFaulted_of_lost gone]
    exact ⟨rfl, rfl, congrArg some record⟩

/-- The statement of a rewind reads of the station what a sequence, its release and its end leave as it was. -/
theorem StationState.Rewound.of_context {a b : StationState} {c : BerthConfig} {berthTime : Count32}
    (h : b.Rewound c berthTime reason t i) (config : b.config = a.config) (filters : b.filters = a.filters)
    (handed : b.handed = a.handed) (fault : b.lcc.fault = a.lcc.fault)
    (mu : b.mu = { a.mu with correction := b.mu.correction, releaseMeasure := b.mu.releaseMeasure })
    (lcc : ∀ new cause, (b.lcc.between new cause).slack = (a.lcc.between new cause).slack) :
    ({ a with lpu := (t.station i).lpu } : StationState).Rewound c berthTime reason t i := by
  obtain ⟨arrives, rewinds, loses⟩ := h
  have count : b.mu.count = a.mu.count := by rw [mu]
  have lost : b.mu.lost = a.mu.lost := by rw [mu]
  have tension : b.mu.tension = a.mu.tension := by rw [mu]
  rw [filters] at arrives rewinds loses
  rw [lost] at rewinds loses
  refine ⟨fun stowed => ?_, fun away good => ?_, fun away gone => ?_⟩
  · have same := arrives stowed
    rw [count, mu] at same
    exact ⟨same.lcc.trans (lcc .stowed .stowed), same.config.trans config, rfl, same.filters,
      same.handed.trans handed, same.mu⟩
  · have same := rewinds away good
    rw [count, mu, lcc] at same
    exact ⟨same.lcc, same.config.trans config, rfl, same.filters, same.handed.trans handed, same.mu⟩
  · obtain ⟨state, cause, record⟩ := loses away gone
    refine ⟨state, cause, ?_⟩
    rw [record]
    exact congrArg some (StationState.recordLost_congr (b := b) (a := { a with lpu := (t.station i).lpu }) fault tension
      count (by simp only [StationState.latch, filters]) _ _ _)

end Rewinding

/-! ### TAKING_UP -/

section TakingUp

variable {s : State} {i : Station} (good : (s.station i).mu.lost = false)

include good

/-- The entry of TAKING_UP away from count 0 (R18, R19). -/
theorem enterTakingUp_becomes (away : (s.station i).mu.count ≠ 0) :
    StationBecomes i s (enterTakingUp s i) ((s.station i).takingUp s.settings.takeupSpeed) := by
  have begun := takeupBegun_becomes s i
  rw [enterTakingUp_eq, limitTest_of_not_atLimit, lostAtEntry_of_not_lost]
  · exact begun
  · rw [begun.station.mu]
    exact good
  · rw [atLimit_of_same begun.station]
    simpa [StationState.takingUp, StationState.atLimit, Lcc.moved] using away

/-- At count 0 the limit test of the entry takes the station on to FAULT with DRUM_LIMIT (R6, R19). -/
theorem enterTakingUp_at_zero (zero : (s.station i).mu.count = 0) :
    ∃ handed, StationBecomes i s (enterTakingUp s i)
      (((s.station i).takingUp s.settings.takeupSpeed).inFault .drumLimit .takingUp s.berthTime handed) := by
  have begun := takeupBegun_becomes s i
  rw [enterTakingUp_eq]
  have station := begun.station
  have berthTime := begun.berth.berthTime
  have atLimit : ((takeupBegun s i).station i).atLimit = true := by
    rw [atLimit_of_same station]
    simp [StationState.takingUp, StationState.atLimit, Lcc.moved, zero]
  have state : ((takeupBegun s i).station i).lcc.lineState = .takingUp := by rw [station.lcc]; rfl
  rw [limitTest, if_pos atLimit]
  generalize takeupBegun s i = u at *
  obtain ⟨handed, entered⟩ := detect_leaves (s := u) (i := i) (by simp [state]) (by simp [state]) .drumLimit
  have whole := begun.trans entered
  rw [state, berthTime] at whole
  rw [lostAtEntry_of_not_lost]
  · refine ⟨handed, whole.of_same ⟨?_, station.config, congrArg Lpu.endedByFault station.lpu, station.filters, rfl, ?_⟩⟩
    rotate_left
    · dsimp only [StationState.inFault]
      rw [station.mu]
    have lost : (u.station i).mu.lost = false := by rw [station.mu]; exact good
    exact (StationState.lccFaulted_of_good lost _ _ _).trans ((StationState.lccInFault_congr (by rw [station.lcc])
      (by rw [station.mu]) (by rw [station.mu]) (latch_of_same station) _ _ _).trans
      (StationState.lccFaulted_of_good (a := (s.station i).takingUp s.settings.takeupSpeed) good _ _ _).symm)
  · rw [whole.station.mu]
    dsimp only [StationState.inFault]
    rw [station.mu]
    exact good

end TakingUp

/-! ### Attempt sequences -/

section Sequences

variable {s : State} {i : Station}

/-- The LPU asked for this sequence under these settings (R119, R120, R121, R126): a head-open pulse is not confirmed. -/
def Lpu.starts (l : Lpu) (sequence : Sequence) (c : BerthConfig) : Lpu :=
  if sequence.confirms then
    l.asked sequence sequence.kind c.retries (c.pulseDelay sequence.kind) (c.pulseWidth sequence.kind)
      (c.confirmTimeout sequence)
  else
    { l.asked sequence sequence.kind 0 (c.pulseDelay sequence.kind) (c.pulseWidth sequence.kind)
        (c.confirmTimeout sequence) with confirmOpen := false, confirmTimer := none }

/-- What a sequence that starts makes of the station (R119, R120, R121). -/
theorem startSequence_becomes (s : State) (i : Station) (sequence : Sequence) :
    StationBecomes i s (startSequence s i sequence)
      { s.station i with lpu := (s.station i).lpu.starts sequence s.settings } := by
  have superseded := (StationBecomes.refl i s).modLpu fun l =>
    { l with sequence := sequence, attempts := 0, confirmOpen := false, confirmTimer := none,
             retries := if sequence.confirms then s.settings.retries else 0,
             pulse := l.pulse.map Pulse.released }
  have lpu : ((s.modLpu i fun l =>
    { l with sequence := sequence, attempts := 0, confirmOpen := false, confirmTimer := none,
             retries := if sequence.confirms then s.settings.retries else 0,
             pulse := l.pulse.map Pulse.released }).station i).lpu = _ := superseded.station.lpu
  have settings := superseded.settings
  dsimp only [startSequence] at *
  generalize (s.modLpu i fun l =>
    { l with sequence := sequence, attempts := 0, confirmOpen := false, confirmTimer := none,
             retries := if sequence.confirms then s.settings.retries else 0,
             pulse := l.pulse.map Pulse.released }) = u at *
  cases pulse : (s.station i).lpu.pulse with
  | some p =>
    rw [askPulse, if_pos (by simp [lpu, pulse])]
    refine (superseded.modLpu fun l => { l with queued := some sequence.kind }).of_same ⟨rfl, rfl, ?_, rfl, rfl, rfl⟩
    cases confirms : sequence.confirms <;> simp [Lpu.starts, Lpu.asked, pulse, confirms, Pulse.released]
  | none =>
    rw [askPulse, if_neg (by simp [lpu, pulse])]
    have begun := superseded.modLpu fun l =>
      { l with attempts := l.attempts + 1,
               pulse := some { kind := sequence.kind, phase := .delay, remaining := u.settings.pulseDelay sequence.kind,
                               width := u.settings.pulseWidth sequence.kind, ofSequence := true } }
    dsimp only [beginPulse]
    split_ifs with atOnce
    · have energized := begun.modLpu fun l => match l.pulse with
        | none => l
        | some p =>
          let pulse := some { p with phase := .energized, remaining := p.width }
          if p.ofSequence && l.sequence.confirms then
            { l with pulse := pulse, confirmOpen := true,
                     confirmTimer := some { elapsed := 0, limit := s.settings.confirmTimeout l.sequence } }
          else { l with pulse := pulse }
      rw [energize, begun.settings]
      refine (energized.drive (DriveOnly.occurrence _ .latchPulse i)).of_same ⟨rfl, rfl, ?_, rfl, rfl, rfl⟩
      rw [settings] at atOnce
      cases confirms : sequence.confirms <;> simp [Lpu.starts, Lpu.asked, pulse, confirms, atOnce, settings]
    · refine begun.of_same ⟨rfl, rfl, ?_, rfl, rfl, rfl⟩
      rw [settings] at atOnce
      cases confirms : sequence.confirms <;> simp [Lpu.starts, Lpu.asked, pulse, confirms, atOnce, settings]

/-- A sequence confirms at the moment it is asked if its first pulse is energized at once and the latch reads its target. -/
theorem Lpu.starts_confirmOpen (l : Lpu) {sequence : Sequence} (confirms : sequence.confirms = true) (c : BerthConfig) :
    (l.starts sequence c).confirmOpen = decide (l.pulse = none ∧ c.pulseDelay sequence.kind = 0) := by
  cases pulse : l.pulse <;> simp [Lpu.starts, Lpu.asked, confirms, pulse]

theorem Lpu.starts_sequence (l : Lpu) (sequence : Sequence) (c : BerthConfig) :
    (l.starts sequence c).sequence = sequence := by
  cases confirms : sequence.confirms <;> cases pulse : l.pulse <;> simp [Lpu.starts, Lpu.asked, confirms, pulse]

theorem confirmTest_of_not {s : State} {i : Station} (h : (s.station i).confirmsNow = false) : confirmTest s i = s := by
  simp [confirmTest, h]

theorem confirmsNow_iff (a : StationState) :
    a.confirmsNow = true ↔ a.lpu.confirmOpen = true ∧ a.lpu.sequence.target = some a.latch := by
  simp [StationState.confirmsNow]

/-- The confirmed LPU has no sequence left (R122). -/
theorem SequenceConfirmed.of_lock (confirms : (s.station i).confirmsNow = true)
    (lock : (s.station i).lpu.sequence = .lock) (locking : (s.station i).lcc.lineState = .locking)
    (good : (s.station i).mu.lost = false) : SequenceConfirmed i s (confirmTest s i) := by
  have ended := (StationBecomes.refl i s).modLpu Lpu.confirmed
  have station : (s.modLpu i Lpu.confirmed).station i = { s.station i with lpu := (s.station i).lpu.confirmed } :=
    State.station_modLpu_same _ _ _
  have outcome : confirmTest s i = enterTakingUp (s.modLpu i Lpu.confirmed) i := by
    simp only [confirmTest, if_pos confirms, reportConfirmed, lock, station, locking]
  rw [outcome]
  have reported : ReportEntry.station i ∈ (enterTakingUp (s.modLpu i Lpu.confirmed) i).link.reports := by
    rw [enterTakingUp_eq]
    have begun : ReportEntry.station i ∈ (takeupBegun (s.modLpu i Lpu.confirmed) i).link.reports :=
      reports_subset_presentNeed _ i _ (mem_reports_changeState _ i _ _)
    exact (StationWork.lostAtEntry (c := s.ceilingNow) _ i).ops.keeps.reports
      ((StationWork.limitTest (c := s.ceilingNow) _ i).ops.keeps.reports begun)
  have stands : ((s.modLpu i Lpu.confirmed).station i).mu.lost = false := by rw [station]; exact good
  have notRelease : ¬(s.station i).lpu.sequence = .release := by simp [lock]
  by_cases count : (s.station i).mu.count = 0
  · obtain ⟨handed, entered⟩ := enterTakingUp_at_zero stands (by rw [station]; exact count)
    rw [station] at entered
    have same := (ended.trans entered).station
    refine ⟨by rw [same.lpu]; rfl, by rw [same.lpu]; rfl, by rw [same.lpu]; rfl, by rw [same.lpu]; rfl, reported,
      fun _ => ⟨fun away => absurd count away, fun _ => ?_⟩, fun release => absurd release notRelease⟩
    exact same.lcc.trans ((StationState.lccFaulted_of_good good _ _ _).trans
      (StationState.lccInFault_congr rfl rfl rfl rfl _ _ _))
  · have entered := enterTakingUp_becomes stands (by rw [station]; exact count)
    rw [station] at entered
    have same := (ended.trans entered).station
    refine ⟨by rw [same.lpu]; rfl, by rw [same.lpu]; rfl, by rw [same.lpu]; rfl, by rw [same.lpu]; rfl, reported,
      fun _ => ⟨fun _ => same.lcc, fun zero => absurd zero count⟩, fun release => absurd release notRelease⟩

/-- What the entry of REWINDING leaves of the pulses: a sequence that has ended stays so (R26, R125). -/
theorem enterRewinding_lpu (s : State) (i : Station) (reason : Reason) :
    ((enterRewinding s i reason).station i).lpu = (s.station i).lpu ∨
      ((enterRewinding s i reason).station i).lpu = (s.station i).lpu.endedByFault := by
  have moved := changeState_becomes s i .rewinding reason
  have begun := rewindBegun_becomes s i reason
  rw [enterRewinding_eq]
  split
  · exact .inl ((arrive_becomes (changeState s i .rewinding reason) i).station.lpu.trans moved.station.lpu)
  · have tested : ((creepTest (rewindBegun s i reason) i).station i).lpu = (s.station i).lpu := by
      unfold creepTest
      split_ifs
      · exact ((begun.modLcc fun l => { l with
          creepCount := some 0, creepLimit := some (rewindBegun s i reason).settings.creepLimit }).changeSpeed
          (rewindBegun s i reason).settings.creepSpeed).station.lpu
      · exact begun.station.lpu
    generalize creepTest (rewindBegun s i reason) i = u at *
    rw [← tested]
    unfold lostAtEntry detect
    split
    · split
      · exact .inl rfl
      · exact .inl (addFurther_becomes u i .sensorLost).station.lpu
      · obtain ⟨handed, entered⟩ := enterFault_leaves u i .sensorLost
        exact .inr entered.station.lpu
    · exact .inl rfl

theorem mem_reports_enterRewinding (s : State) (i : Station) (reason : Reason) :
    ReportEntry.station i ∈ (enterRewinding s i reason).link.reports := by
  rw [enterRewinding_eq]
  split
  · exact mem_reports_changeState _ i _ _
  · have begun : ReportEntry.station i ∈ (rewindBegun s i reason).link.reports :=
      reports_subset_presentNeed _ i _ (mem_reports_changeState _ i _ _)
    exact (StationWork.lostAtEntry (c := s.ceilingNow) _ i).ops.keeps.reports
      ((StationWork.creepTest (c := s.ceilingNow) _ i).ops.keeps.reports begun)

/-- A release that is confirmed in RELEASING goes to REWINDING or LINE_OUT by its rewind flag (R24). -/
theorem SequenceConfirmed.of_release (confirms : (s.station i).confirmsNow = true)
    (release : (s.station i).lpu.sequence = .release) (releasing : (s.station i).lcc.lineState = .releasing) :
    SequenceConfirmed i s (confirmTest s i) := by
  have ended := (StationBecomes.refl i s).modLpu Lpu.confirmed
  have station : (s.modLpu i Lpu.confirmed).station i = { s.station i with lpu := (s.station i).lpu.confirmed } :=
    State.station_modLpu_same _ _ _
  have outcome : confirmTest s i = releaseConfirmed (s.modLpu i Lpu.confirmed) i := by
    simp only [confirmTest, if_pos confirms, reportConfirmed, release, station, releasing]
  have notLock : ¬(s.station i).lpu.sequence = .lock := by simp [release]
  rw [outcome, releaseConfirmed, station]
  split_ifs with rewind
  · have entered := enterRewinding_rewound (s.modLpu i Lpu.confirmed) i .releaseConfirmed
    have pulses := enterRewinding_lpu (s.modLpu i Lpu.confirmed) i .releaseConfirmed
    have reported := mem_reports_enterRewinding (s.modLpu i Lpu.confirmed) i .releaseConfirmed
    generalize enterRewinding (s.modLpu i Lpu.confirmed) i .releaseConfirmed = t at *
    rw [station] at pulses entered
    have idle : (t.station i).lpu.sequence = .none ∧ (t.station i).lpu.confirmOpen = false ∧
        (t.station i).lpu.confirmTimer = none ∧ (t.station i).lpu.queued = none := by
      rcases pulses with same | same <;> rw [same] <;> exact ⟨rfl, rfl, rfl, rfl⟩
    obtain ⟨sequence, confirmOpen, confirmTimer, queued⟩ := idle
    exact ⟨sequence, confirmOpen, confirmTimer, queued, reported, fun lock => absurd lock notLock,
      fun _ => ⟨fun other => absurd rewind other, fun _ => entered.of_context rfl rfl rfl rfl rfl fun _ _ => rfl⟩⟩
  · have entered := enterLineOut_becomes (s.modLpu i Lpu.confirmed) i .releaseConfirmed
    have reported : ReportEntry.station i ∈ (enterLineOut (s.modLpu i Lpu.confirmed) i .releaseConfirmed).link.reports :=
      mem_reports_changeState _ i _ _
    rw [station] at entered
    have same := (ended.trans entered).station
    exact ⟨by rw [same.lpu]; rfl, by rw [same.lpu]; rfl, by rw [same.lpu]; rfl, by rw [same.lpu]; rfl, reported,
      fun lock => absurd lock notLock, fun _ => ⟨fun _ => same.lcc, fun other => absurd other rewind⟩⟩

/-- A sequence in the state that it serves is confirmed by a latch that reads its target (R18, R24, R122). -/
theorem confirmTest_confirmed (confirms : (s.station i).confirmsNow = true) (wanted : s.sequenceWanted i) :
    SequenceConfirmed i s (confirmTest s i) := by
  rcases wanted with ⟨lock, locking, good⟩ | ⟨release, releasing⟩
  · exact .of_lock confirms lock locking good
  · exact .of_release confirms release releasing

end Sequences

end Sys2Proof.Machine

/-!
PROOF. LOCK (O20), REWIND (O21) and RELEASE (O23): the entry of LOCKING and of RELEASING by its three outcomes, a sequence that
waits, a lost stream, and a sequence confirmed at once (R17, R18, R23 to R26, R52, R121, R122).
-/
namespace Sys2Proof.Machine

/-! ### A request served -/

/-- Work at the station while its request is under way is what the served request leaves (R7, R173). -/
theorem StationOps.served {i : Station} {s u : State} {rest : List (List Byte)} {w : Working}
    (h : StationOps i (s.serving rest w) u) (reply : List Byte) : StationServed i s (u.replied reply) rest reply where
  beside := ⟨h.keeps.beside.others, by
    obtain ⟨zoneFilter, slots, profiles, berth, routing, watch, counters, timeBase, berthTime, berthMs, windowMs, pending⟩ :=
      h.keeps.beside.berth
    exact ⟨zoneFilter, slots, profiles, berth, routing, watch, counters, timeBase, berthTime, berthMs, windowMs, pending⟩⟩
  link := by
    have kept : u.link = { (s.serving rest w).link with reports := u.link.reports } := h.keeps.link
    simp only [State.replied, State.modLink_link]
    rw [kept]
    rfl

/-! ### A state entered for its sequence -/

section Sequence

variable {s : State} {i : Station} {new : LineState} {reason : Reason} {sequence : Sequence}

/-- The entry of a state and the sequence that it asks for, before the tests of the entry (R18, R24). -/
def sequenceAsked (s : State) (i : Station) (new : LineState) (reason : Reason) (sequence : Sequence) : State :=
  startSequence (changeState s i new reason) i sequence

/-- The entry of LOCKING or RELEASING with its tests (R18, R24, R52, R122). -/
def sequenceEntered (s : State) (i : Station) (new : LineState) (reason : Reason) (sequence : Sequence) : State :=
  confirmTest (lostAtEntry (sequenceAsked s i new reason sequence) i) i

theorem enterLocking_eq (s : State) (i : Station) (reason : Reason) :
    enterLocking s i reason = sequenceEntered s i .locking reason .lock := rfl

theorem enterReleasing_eq (s : State) (i : Station) (reason : Reason) (rewind : Bool) :
    enterReleasing s i reason rewind =
      sequenceEntered (s.modLcc i fun l => { l with rewindFlag := some rewind }) i .releasing reason .release := rfl

/-- The station in this state with its sequence asked (R18, R24). -/
def StationState.asking (a : StationState) (new : LineState) (reason : Reason) (sequence : Sequence) (c : BerthConfig) :
    StationState := { a.moved new reason with lpu := a.lpu.starts sequence c }

theorem sequenceAsked_becomes (s : State) (i : Station) (new : LineState) (reason : Reason) (sequence : Sequence) :
    StationBecomes i s (sequenceAsked s i new reason sequence)
      ((s.station i).asking new reason sequence s.settings) := by
  have moved := changeState_becomes s i new reason
  have asked := moved.trans (startSequence_becomes (changeState s i new reason) i sequence)
  refine asked.of_same ⟨moved.station.lcc, moved.station.config, ?_, moved.station.filters, moved.station.handed,
    moved.station.mu⟩
  dsimp only [StationState.asking]
  rw [moved.station.lpu, moved.settings]
  rfl

theorem mem_reports_sequenceAsked (s : State) (i : Station) (new : LineState) (reason : Reason) (sequence : Sequence) :
    ReportEntry.station i ∈ (sequenceAsked s i new reason sequence).link.reports :=
  (StationWork.startSequence (c := s.ceilingNow) _ i sequence).ops.keeps.reports (mem_reports_changeState s i new reason)

theorem mem_reports_sequenceEntered (s : State) (i : Station) (new : LineState) (reason : Reason) (sequence : Sequence) :
    ReportEntry.station i ∈ (sequenceEntered s i new reason sequence).link.reports :=
  (StationWork.confirmTest (c := s.ceilingNow) _ i).ops.keeps.reports
    ((StationWork.lostAtEntry (c := s.ceilingNow) _ i).ops.keeps.reports (mem_reports_sequenceAsked s i new reason sequence))

/-- The sequence is confirmed by the latch at the moment it is asked (R122). -/
def State.confirmsAtOnce (s : State) (i : Station) (sequence : Sequence) : Prop :=
  sequence.target = some (s.station i).latch ∧ (s.station i).lpu.pulse = none ∧
    s.settings.pulseDelay sequence.kind = 0

variable (confirms : sequence.confirms = true)

include confirms

theorem sequenceAsked_confirmsNow :
    ((sequenceAsked s i new reason sequence).station i).confirmsNow = true ↔ s.confirmsAtOnce i sequence := by
  have station := (sequenceAsked_becomes s i new reason sequence).station
  rw [confirmsNow_iff, latch_of_same station, station.lpu]
  dsimp only [StationState.asking]
  rw [Lpu.starts_confirmOpen _ confirms, Lpu.starts_sequence, decide_eq_true_eq, State.confirmsAtOnce, and_comm]
  rfl

/-- With its stream good and nothing to confirm it, the sequence waits (R18, R24). -/
theorem sequenceEntered_waits (good : (s.station i).mu.lost = false) (waits : ¬s.confirmsAtOnce i sequence) :
    sequenceEntered s i new reason sequence = sequenceAsked s i new reason sequence := by
  have station := (sequenceAsked_becomes s i new reason sequence).station
  rw [sequenceEntered, lostAtEntry_of_not_lost (by rw [station.mu]; exact good), confirmTest_of_not]
  exact eq_false_of_ne_true (mt (sequenceAsked_confirmsNow confirms).mp waits)

/-- With its stream good and the latch at its target, the sequence is confirmed at once (R18, R24, R122). -/
theorem sequenceEntered_confirms (good : (s.station i).mu.lost = false) (atOnce : s.confirmsAtOnce i sequence)
    (serves : sequence = .lock ∧ new = .locking ∨ sequence = .release ∧ new = .releasing) :
    SequenceConfirmed i (sequenceAsked s i new reason sequence) (sequenceEntered s i new reason sequence) := by
  have station := (sequenceAsked_becomes s i new reason sequence).station
  have now := (sequenceAsked_confirmsNow (new := new) (reason := reason) confirms).mpr atOnce
  have stands : ((sequenceAsked s i new reason sequence).station i).mu.lost = false := by rw [station.mu]; exact good
  have state : ((sequenceAsked s i new reason sequence).station i).lcc.lineState = new := by rw [station.lcc]; rfl
  have asked : ((sequenceAsked s i new reason sequence).station i).lpu.sequence = sequence := by
    rw [station.lpu]
    exact Lpu.starts_sequence ..
  rw [sequenceEntered, lostAtEntry_of_not_lost stands]
  refine confirmTest_confirmed now ?_
  rcases serves with ⟨rfl, rfl⟩ | ⟨rfl, rfl⟩
  · exact .inl ⟨asked, state, stands⟩
  · exact .inr ⟨asked, state⟩

omit confirms in
/-- With its stream lost the station enters FAULT, and its sequence has ended (R52, R125; log 9). -/
theorem sequenceEntered_lost (lost : (s.station i).mu.lost = true) (serving : new ≠ .offline) (outside : new ≠ .fault) :
    ∃ handed, StationBecomes i s (sequenceEntered s i new reason sequence)
      (((s.station i).asking new reason sequence s.settings).inFault .sensorLost new s.berthTime handed) := by
  have becomes := sequenceAsked_becomes s i new reason sequence
  have station := becomes.station
  have berthTime := becomes.berth.berthTime
  rw [sequenceEntered]
  generalize sequenceAsked s i new reason sequence = u at *
  have stands : (u.station i).mu.lost = true := by rw [station.mu]; exact lost
  have state : (u.station i).lcc.lineState = new := by rw [station.lcc]; rfl
  obtain ⟨handed, entered⟩ := lostAtEntry_leaves stands (by rwa [state]) (by rwa [state])
  have ended : ((lostAtEntry u i).station i).confirmsNow = false := by
    rw [StationState.confirmsNow, entered.station.lpu]
    rfl
  rw [confirmTest_of_not ended]
  have whole := becomes.trans entered
  rw [state, berthTime] at whole
  refine ⟨handed, whole.of_same ⟨?_, station.config, congrArg Lpu.endedByFault station.lpu, station.filters, rfl, ?_⟩⟩
  · rw [StationState.inFault, StationState.inFault, StationState.lccFaulted_of_lost stands,
      StationState.lccFaulted_of_lost (a := (s.station i).asking new reason sequence s.settings) lost]
    dsimp only [StationState.lccLost]
    rw [StationState.lccInFault_congr (a := (s.station i).asking new reason sequence s.settings) (by rw [station.lcc])
        (by rw [station.mu]) (by rw [station.mu]) (latch_of_same station),
      StationState.recordLost_congr (a := (s.station i).asking new reason sequence s.settings) (by rw [station.lcc])
        (by rw [station.mu]) (by rw [station.mu]) (latch_of_same station)]
  · dsimp only [StationState.inFault]
    rw [station.mu]

omit confirms in
/-- The record of such a FAULT entry, in the words of the statements (R52, R139; log 10). -/
theorem sequenceEntered_record (lost : (s.station i).mu.lost = true) (serving : new ≠ .offline) (outside : new ≠ .fault) :
    ((sequenceEntered s i new reason sequence).station i).lcc.lineState = .fault ∧
      ((sequenceEntered s i new reason sequence).station i).lcc.lastReason = .fault ∧
      ((sequenceEntered s i new reason sequence).station i).lcc.fault =
        some ((s.station i).recordLost .sensorLost new s.berthTime) := by
  obtain ⟨handed, entered⟩ := sequenceEntered_lost (reason := reason) (sequence := sequence) lost serving outside
  rw [entered.station.lcc]
  dsimp only [StationState.inFault]
  rw [StationState.lccFaulted_of_lost (a := (s.station i).asking new reason sequence s.settings) lost]
  exact ⟨rfl, rfl, congrArg some (StationState.recordLost_congr rfl rfl rfl rfl _ _ _)⟩

end Sequence

theorem StationState.Rewound.replied_iff {a : StationState} {c : BerthConfig} {berthTime : Count32} {reason : Reason}
    {t : State} {i : Station} {reply : List Byte} :
    a.Rewound c berthTime reason (t.replied reply) i ↔ a.Rewound c berthTime reason t i := Iff.rfl

/-! ### LOCK -/

@[simp] theorem State.serving_settings (s : State) (rest : List (List Byte)) (w : Working) :
    (s.serving rest w).settings = s.settings := rfl

@[simp] theorem State.serving_berthTime (s : State) (rest : List (List Byte)) (w : Working) :
    (s.serving rest w).berthTime = s.berthTime := rfl

theorem Lpu.asked_sequence (l : Lpu) (sequence : Sequence) (kind : PulseKind) (retries delay width timeout : Nat) :
    (l.asked sequence kind retries delay width timeout).sequence = sequence := by
  unfold Lpu.asked
  split <;> rfl

/-- The station in LOCKING that waits for its lock sequence, in the words of the statement (R4, R18, R121). -/
theorem StationState.asking_locking (a : StationState) (reason : Reason) (c : BerthConfig) :
    a.asking .locking reason .lock c =
      { a with
        lcc := { a.lcc.between .locking reason with dose := 0, overloadHeld := false }
        mu := { a.mu with correction := none }
        lpu := a.lpu.asked .lock .lock c.retries c.lockDelay c.lockWidth c.lockConfirmTimeout } := rfl

theorem applyLock_wrongState {s : State} {i : Station} (h : (s.station i).lcc.lineState ≠ .seated) :
    applyLock s i = (s, .wrongState) := if_neg h

theorem applyLock_accepted {s : State} {i : Station} (h : (s.station i).lcc.lineState = .seated) :
    applyLock s i = (sequenceEntered s i .locking .request .lock, .accepted) := if_pos h

/-- Settles O20: the three outcomes of the entry of LOCKING (`sequenceEntered_waits`, `_record`, `_confirms`). -/
theorem lockByTheRules : Obligations.LockByTheRules := by
  unfold Obligations.LockByTheRules
  intro s i tag n rest h serving
  have serves (result : Applied) : inServiceOnly (s.serving rest (workingAt 0x0C tag .lock i)) i result = result :=
    inServiceOnly_inService (s := s.serving rest _) serving result
  refine ⟨fun outside => ?_, fun seated => ?_⟩
  · exact exec_ranged_unapplied (result := .wrongState) rfl h (decodeRange_plain .lock i) (by simp)
      ((serves _).trans (applyLock_wrongState (s := s.serving rest _) outside))
  · have executed := exec_ranged_applied (c := .lock (n + 1)) (result := .accepted) rfl h (decodeRange_plain .lock i) (by simp)
      ((serves _).trans (applyLock_accepted (s := s.serving rest (workingAt 0x0C tag .lock i)) seated))
    have work := StationWork.enterLocking (c := s.ceilingNow) (s := s.serving rest (workingAt 0x0C tag .lock i)) (i := i)
      serving .request
    have atOnce : (s.serving rest (workingAt 0x0C tag .lock i)).confirmsAtOnce i .lock ↔
        (s.station i).latch = .closed ∧ (s.station i).lpu.pulse = none ∧ s.settings.lockDelay = 0 := by
      simp [State.confirmsAtOnce, Sequence.target, eq_comm, State.settings, BerthConfig.pulseDelay, Sequence.kind,
        State.serving]
    have asked := sequenceAsked_becomes (s.serving rest (workingAt 0x0C tag .lock i)) i .locking .request .lock
    rw [State.serving_station, State.serving_settings, StationState.asking_locking] at asked
    have reported := mem_reports_sequenceEntered (s.serving rest (workingAt 0x0C tag .lock i)) i .locking .request .lock
    rw [← State.replied_reports _ (replyFor 0x0C tag (BitVec.ofNat 8 Result.accepted.code))] at reported
    refine ⟨_, executed, work.ops.served _, reported,
      fun good waits => ?_, fun lost => ?_, fun good closed idle delay => ?_⟩
    · rw [State.replied_station, sequenceEntered_waits (s := s.serving rest _) rfl good (mt atOnce.mp waits)]
      exact asked.station
    · have record := sequenceEntered_record (s := s.serving rest (workingAt 0x0C tag .lock i)) (i := i) (new := .locking)
        (reason := .request) (sequence := .lock) lost (by simp) (by simp)
      rwa [State.serving_station, State.serving_berthTime, ← State.replied_station _ (replyFor 0x0C tag
        (BitVec.ofNat 8 Result.accepted.code))] at record
    · obtain ⟨-, -, -, -, -, confirmed, -⟩ := sequenceEntered_confirms (s := s.serving rest (workingAt 0x0C tag .lock i))
        (i := i) (new := .locking) (reason := .request) (sequence := .lock) rfl good (atOnce.mpr ⟨closed, idle, delay⟩)
        (.inl ⟨rfl, rfl⟩)
      have station := asked.station
      have settings := asked.settings
      have berthTime := asked.berth.berthTime
      rw [State.replied_station]
      generalize sequenceEntered (s.serving rest (workingAt 0x0C tag .lock i)) i .locking .request .lock = t at *
      generalize sequenceAsked (s.serving rest (workingAt 0x0C tag .lock i)) i .locking .request .lock = u at *
      have count : (u.station i).mu.count = (s.station i).mu.count := by rw [station.mu]
      obtain ⟨takesUp, faults⟩ := confirmed (by rw [station.lpu]; exact Lpu.asked_sequence ..)
      rw [count, station.lcc, settings] at takesUp
      rw [count, berthTime] at faults
      exact ⟨takesUp, fun zero => (faults zero).trans (StationState.lccInFault_congr (by rw [station.lcc])
        (by rw [station.mu]) (by rw [station.mu]) (latch_of_same station) _ _ _)⟩

/-! ### REWIND -/

theorem applyRewind_wrongState {s : State} {i : Station}
    (h : ¬((s.station i).lcc.lineState = .seated ∨ (s.station i).lcc.lineState = .lineOut)) :
    applyRewind s i = (s, .wrongState) := by
  unfold applyRewind
  split
  · next seated => exact absurd (.inl seated) h
  · next lineOut => exact absurd (.inr lineOut) h
  · rfl

theorem applyRewind_accepted {s : State} {i : Station}
    (h : (s.station i).lcc.lineState = .seated ∨ (s.station i).lcc.lineState = .lineOut) :
    applyRewind s i = (enterRewinding s i .request, .accepted) := by
  rcases h with h | h <;> simp [applyRewind, h]

/-- Settles O21: an accepted REWIND is the entry of REWINDING (`enterRewinding_rewound`). -/
theorem rewindByTheRules : Obligations.RewindByTheRules := by
  unfold Obligations.RewindByTheRules
  intro s i tag n rest h serving
  have serves (result : Applied) : inServiceOnly (s.serving rest (workingAt 0x0F tag .rewind i)) i result = result :=
    inServiceOnly_inService (s := s.serving rest _) serving result
  refine ⟨fun outside => ?_, fun inside => ?_⟩
  · exact exec_ranged_unapplied (result := .wrongState) rfl h (decodeRange_plain .rewind i) (by simp)
      ((serves _).trans (applyRewind_wrongState (s := s.serving rest _) outside))
  · have executed := exec_ranged_applied (c := .rewind (n + 1)) (result := .accepted) rfl h (decodeRange_plain .rewind i)
      (by simp) ((serves _).trans (applyRewind_accepted (s := s.serving rest (workingAt 0x0F tag .rewind i)) inside))
    have work := StationWork.enterRewinding (c := s.ceilingNow) (s := s.serving rest (workingAt 0x0F tag .rewind i)) (i := i)
      serving .request
    have reported := mem_reports_enterRewinding (s.serving rest (workingAt 0x0F tag .rewind i)) i .request
    rw [← State.replied_reports _ (replyFor 0x0F tag (BitVec.ofNat 8 Result.accepted.code))] at reported
    exact ⟨_, executed, work.ops.served _, reported,
      enterRewinding_rewound (s.serving rest (workingAt 0x0F tag .rewind i)) i .request⟩

/-! ### RELEASE -/

theorem StationState.releaseWrongState_iff (a : StationState) : a.releaseWrongState = true ↔ ¬a.takesRelease := by
  cases state : a.lcc.lineState <;>
    simp [StationState.releaseWrongState, StationState.takesRelease, state, Lpu.busy, ← Option.isSome_iff_ne_none] <;>
    cases a.lpu.pulse <;> simp

section Release

variable {s : State} {i : Station}

theorem applyRelease_wrongState (h : ¬(s.station i).takesRelease) (rewind : Bool) :
    applyRelease s i rewind = (s, .wrongState) := if_pos ((StationState.releaseWrongState_iff _).mpr h)

variable (takes : (s.station i).takesRelease)

include takes

theorem applyRelease_notArmed (high : s.settings.releaseThreshold ≤ (s.station i).mu.tension)
    (unarmed : (s.station i).lcc.armExpiry = none) (rewind : Bool) : applyRelease s i rewind = (s, .notArmed) :=
  (if_neg fun wrong => (StationState.releaseWrongState_iff _).mp wrong takes).trans (if_pos ⟨high, unarmed⟩)

theorem applyRelease_accepted
    (free : (s.station i).mu.tension < s.settings.releaseThreshold ∨ (s.station i).lcc.armExpiry ≠ none) (rewind : Bool) :
    applyRelease s i rewind = (releaseEffect (consumeArm s i) i rewind, .accepted) := by
  refine (if_neg fun wrong => (StationState.releaseWrongState_iff _).mp wrong takes).trans (if_neg ?_)
  rintro ⟨high, unarmed⟩
  exact free.elim (fun low => by omega) fun armed => armed unarmed

end Release

/-- The station without its arm (R129). -/
def StationState.disarmed (a : StationState) : StationState := { a with lcc := { a.lcc with armExpiry := none } }

theorem consumeArm_becomes (s : State) (i : Station) : StationBecomes i s (consumeArm s i) (s.station i).disarmed := by
  unfold consumeArm
  split
  · exact ((StationBecomes.refl i s).modLcc fun l => { l with armExpiry := none }).reportStation i
  · next unarmed =>
    have same : (s.station i).disarmed = s.station i := by
      unfold StationState.disarmed
      rw [← Option.not_isSome_iff_eq_none.mp unarmed]
    rw [same]
    exact .refl i s

theorem consumeArm_station (s : State) (i : Station) : (consumeArm s i).station i = (s.station i).disarmed := by
  unfold consumeArm
  split
  · rw [State.reportStation_station, State.station_modLcc_same]
    rfl
  · next unarmed =>
    unfold StationState.disarmed
    rw [← Option.not_isSome_iff_eq_none.mp unarmed]

theorem mem_reports_consumeArm {s : State} {i : Station} (armed : (s.station i).lcc.armExpiry ≠ none) :
    ReportEntry.station i ∈ (consumeArm s i).link.reports := by
  rw [consumeArm, if_pos (Option.isSome_iff_ne_none.mpr armed)]
  exact mem_reports_reportStation _ i

/-- The head-open pulse asked, in the words of the statement: its confirm timeout is read by nobody (R126). -/
theorem Lpu.starts_headOpen (l : Lpu) (c : BerthConfig) :
    l.starts .headOpen c =
      { l.asked .headOpen .release 0 c.releaseDelay c.releaseWidth 0 with confirmOpen := false, confirmTimer := none } := by
  unfold Lpu.starts Lpu.asked
  cases l.pulse <;> rfl

/-- The station in RELEASING that waits for its release sequence, in the words of the statement (R4, R24, R121). -/
theorem StationState.asking_releasing (a : StationState) (reason : Reason) (rewind : Bool) (c : BerthConfig) :
    ({ a with lcc := { a.lcc with rewindFlag := some rewind } } : StationState).asking .releasing reason .release c =
      { a with
        lcc := { (a.lcc.between .releasing reason).slack with rewindFlag := some rewind }
        mu := { a.mu with correction := none }
        lpu := a.lpu.asked .release .release c.retries c.releaseDelay c.releaseWidth c.releaseConfirmTimeout } := rfl

section Releasing

variable {s : State} {i : Station} {reason : Reason} {rewind : Bool}

/-- The entry of RELEASING up to its tests (R24). -/
def releaseAsked (s : State) (i : Station) (reason : Reason) (rewind : Bool) : State :=
  sequenceAsked (s.modLcc i fun l => { l with rewindFlag := some rewind }) i .releasing reason .release

theorem releaseAsked_becomes (s : State) (i : Station) (reason : Reason) (rewind : Bool) :
    StationBecomes i s (releaseAsked s i reason rewind)
      { s.station i with
        lcc := { ((s.station i).lcc.between .releasing reason).slack with rewindFlag := some rewind }
        mu := { (s.station i).mu with correction := none }
        lpu := (s.station i).lpu.asked .release .release s.settings.retries s.settings.releaseDelay
          s.settings.releaseWidth s.settings.releaseConfirmTimeout } := by
  have flagged := (StationBecomes.refl i s).modLcc fun l => { l with rewindFlag := some rewind }
  have asked := sequenceAsked_becomes (s.modLcc i fun l => { l with rewindFlag := some rewind }) i .releasing reason .release
  rw [State.station_modLcc_same, flagged.settings] at asked
  exact StationState.asking_releasing _ reason rewind s.settings ▸ flagged.trans asked

/-- The release is confirmed by the latch at the moment it is asked (R122). -/
theorem releaseAsked_atOnce :
    (s.modLcc i fun l => { l with rewindFlag := some rewind }).confirmsAtOnce i .release ↔
      (s.station i).latch = .opened ∧ (s.station i).lpu.pulse = none ∧ s.settings.releaseDelay = 0 := by
  rw [State.confirmsAtOnce, State.station_modLcc_same, Sequence.target, Option.some_inj, eq_comm (a := LatchPosition.opened)]
  rfl

theorem enterReleasing_waits (good : (s.station i).mu.lost = false)
    (waits : ¬((s.station i).latch = .opened ∧ (s.station i).lpu.pulse = none ∧ s.settings.releaseDelay = 0)) :
    enterReleasing s i reason rewind = releaseAsked s i reason rewind := by
  rw [enterReleasing_eq]
  exact sequenceEntered_waits rfl (by rw [State.station_modLcc_same]; exact good) (mt releaseAsked_atOnce.mp waits)

/-- A release confirmed at its entry leads to LINE_OUT or REWINDING, in the words of the statement (R24, R122). -/
theorem enterReleasing_confirms (good : (s.station i).mu.lost = false)
    (atOnce : (s.station i).latch = .opened ∧ (s.station i).lpu.pulse = none ∧ s.settings.releaseDelay = 0) :
    (rewind = false → ((enterReleasing s i reason rewind).station i).lcc =
      ((s.station i).lcc.between .lineOut .releaseConfirmed).slack) ∧
    (rewind = true → ({ s.station i with lpu := ((enterReleasing s i reason rewind).station i).lpu } : StationState).Rewound
      s.settings s.berthTime .releaseConfirmed (enterReleasing s i reason rewind) i) := by
  have confirmed : SequenceConfirmed i (releaseAsked s i reason rewind) (enterReleasing s i reason rewind) :=
    sequenceEntered_confirms (s := s.modLcc i fun l => { l with rewindFlag := some rewind }) rfl
      (by rw [State.station_modLcc_same]; exact good) (releaseAsked_atOnce.mpr atOnce) (.inr ⟨rfl, rfl⟩)
  have asked := releaseAsked_becomes s i reason rewind
  have station := asked.station
  have settings := asked.settings
  have berthTime := asked.berth.berthTime
  generalize releaseAsked s i reason rewind = u at *
  generalize enterReleasing s i reason rewind = t at *
  obtain ⟨-, -, -, -, -, -, released⟩ := confirmed
  obtain ⟨stays, rewinds⟩ := released (by rw [station.lpu]; exact Lpu.asked_sequence ..)
  rw [settings, berthTime] at rewinds
  have flag : (u.station i).lcc.rewindFlag = some rewind := by rw [station.lcc]
  rw [flag] at stays rewinds
  refine ⟨fun off => ?_, fun on => ?_⟩
  · rw [stays (by simp [off]), station.lcc]
    rfl
  · exact (rewinds (by simp [on])).of_context station.config station.filters station.handed (by rw [station.lcc]; rfl)
      (by dsimp only; rw [station.mu]) fun _ _ => by rw [station.lcc]; rfl

/-- The record of a RELEASING that is left for FAULT at once (R52; log 9, log 10). -/
theorem enterReleasing_record (lost : (s.station i).mu.lost = true) :
    ((enterReleasing s i reason rewind).station i).lcc.lineState = .fault ∧
      ((enterReleasing s i reason rewind).station i).lcc.lastReason = .fault ∧
      ((enterReleasing s i reason rewind).station i).lcc.fault =
        some ((s.station i).recordLost .sensorLost .releasing s.berthTime) := by
  have record := sequenceEntered_record (s := s.modLcc i fun l => { l with rewindFlag := some rewind }) (i := i)
    (new := .releasing) (reason := reason) (sequence := .release) (by rw [State.station_modLcc_same]; exact lost) (by simp)
    (by simp)
  rw [← enterReleasing_eq, State.station_modLcc_same] at record
  obtain ⟨state, cause, kept⟩ := record
  exact ⟨state, cause, kept.trans (congrArg some (StationState.recordLost_congr rfl rfl rfl rfl _ _ _))⟩

/-- No arm lives in REWINDING, nor in the states that an entry of it may lead on to (R130). -/
theorem enterRewinding_disarms (s : State) (i : Station) (reason : Reason) :
    ((enterRewinding s i reason).station i).lcc.armExpiry = none := by
  obtain ⟨arrives, rewinds, -⟩ := enterRewinding_rewound s i reason
  cases stowed : (s.station i).filters.stowed.level with
  | true => rw [(arrives stowed).lcc]; rfl
  | false =>
    cases lost : (s.station i).mu.lost with
    | false => rw [(rewinds stowed lost).lcc]; rfl
    | true =>
      obtain ⟨b, handed, entered, -, arm, -, mu⟩ := enterRewinding_faults s i reason stowed lost
      rw [entered.station.lcc]
      dsimp only [StationState.inFault]
      rw [StationState.lccFaulted_of_lost (by rw [mu]; exact lost)]
      exact arm

/-- Nor does one live in RELEASING, nor in the states that an entry of it may lead on to (R130). -/
theorem enterReleasing_disarms (s : State) (i : Station) (reason : Reason) (rewind : Bool) :
    ((enterReleasing s i reason rewind).station i).lcc.armExpiry = none := by
  cases lost : (s.station i).mu.lost with
  | true =>
    obtain ⟨handed, entered⟩ := sequenceEntered_lost (s := s.modLcc i fun l => { l with rewindFlag := some rewind }) (i := i)
      (new := .releasing) (reason := reason) (sequence := .release) (by rw [State.station_modLcc_same]; exact lost) (by simp)
      (by simp)
    rw [enterReleasing_eq, entered.station.lcc]
    dsimp only [StationState.inFault]
    rw [StationState.lccFaulted_of_lost (a := StationState.asking _ _ _ _ _) (by rw [State.station_modLcc_same]; exact lost)]
    rfl
  | false =>
    by_cases atOnce : (s.station i).latch = .opened ∧ (s.station i).lpu.pulse = none ∧ s.settings.releaseDelay = 0
    · obtain ⟨stays, rewinds⟩ := enterReleasing_confirms (reason := reason) (rewind := rewind) lost atOnce
      cases rewind with
      | false => rw [stays rfl]; rfl
      | true =>
        obtain ⟨arrives, begins, -⟩ := rewinds rfl
        cases stowed : (s.station i).filters.stowed.level with
        | true => rw [(arrives stowed).lcc]; rfl
        | false => rw [(begins stowed lost).lcc]; rfl
    · rw [enterReleasing_waits lost atOnce, (releaseAsked_becomes s i reason rewind).station.lcc]
      rfl

end Releasing

/-- The line states in which a RELEASE may be accepted (R23). -/
theorem StationState.takesRelease_cases {a : StationState} (takes : a.takesRelease) (serving : a.lcc.lineState ≠ .offline) :
    (a.lcc.lineState = .stowed ∨ a.lcc.lineState = .lineOut) ∨ a.lcc.lineState = .seated ∨
      a.lcc.lineState ∈ [LineState.locking, .takingUp, .holding, .adjusting, .fault] := by
  obtain ⟨outside, -⟩ := takes
  cases state : a.lcc.lineState <;> simp_all

section Effect

variable {s : State} {i : Station}

theorem releaseEffect_still (h : (s.station i).lcc.lineState = .stowed ∨ (s.station i).lcc.lineState = .lineOut)
    (rewind : Bool) : releaseEffect s i rewind = startSequence s i .headOpen := by
  rcases h with h | h <;> simp [releaseEffect, h]

theorem releaseEffect_seated (h : (s.station i).lcc.lineState = .seated) (rewind : Bool) :
    releaseEffect s i rewind = if rewind then enterRewinding s i .request else enterLineOut s i .request := by
  simp [releaseEffect, h]

theorem releaseEffect_releases
    (h : (s.station i).lcc.lineState ∈ [LineState.locking, .takingUp, .holding, .adjusting, .fault]) (rewind : Bool) :
    releaseEffect s i rewind = enterReleasing s i .request rewind := by
  simp only [List.mem_cons, List.not_mem_nil, or_false] at h
  rcases h with h | h | h | h | h <;> simp [releaseEffect, h]

/-- No arm lives on after an accepted RELEASE (R129, R130). -/
theorem releaseEffect_disarms (takes : (s.station i).takesRelease) (serving : (s.station i).lcc.lineState ≠ .offline)
    (unarmed : (s.station i).lcc.armExpiry = none) (rewind : Bool) :
    ((releaseEffect s i rewind).station i).lcc.armExpiry = none := by
  rcases StationState.takesRelease_cases takes serving with still | seated | inside
  · rw [releaseEffect_still still, (startSequence_becomes s i .headOpen).station.lcc]
    exact unarmed
  · rw [releaseEffect_seated seated]
    split
    · exact enterRewinding_disarms s i .request
    · rw [(enterLineOut_becomes s i .request).station.lcc]
      rfl
  · rw [releaseEffect_releases inside]
    exact enterReleasing_disarms s i .request rewind

end Effect

/-- Settles O23: the tests of RELEASE, and its effect by the line state after the arm is consumed. -/
theorem releaseByTheRules : Obligations.ReleaseByTheRules := by
  unfold Obligations.ReleaseByTheRules
  intro s i tag fields rewind n rest hf h serving
  have decoded := decodeRelease_single i hf
  have serves (result : Applied) : inServiceOnly (s.serving rest (workingAt 0x0D tag (.release rewind) i)) i result = result :=
    inServiceOnly_inService (s := s.serving rest _) serving result
  refine ⟨fun wrong => ?_, fun takes high unarmed => ?_, fun takes free => ?_⟩
  · exact exec_ranged_unapplied (result := .wrongState) rfl h decoded (by simp)
      ((serves _).trans (applyRelease_wrongState (s := s.serving rest _) wrong rewind))
  · exact exec_ranged_unapplied (result := .notArmed) rfl h decoded (by simp)
      ((serves _).trans (applyRelease_notArmed (s := s.serving rest _) takes high unarmed rewind))
  · have executed := exec_ranged_applied (c := .release (n + 1)) (result := .accepted) rfl h decoded (by simp)
      ((serves _).trans (applyRelease_accepted (s := s.serving rest (workingAt 0x0D tag (.release rewind) i)) takes free rewind))
    have consumed := consumeArm_becomes (s.serving rest (workingAt 0x0D tag (.release rewind) i)) i
    have station : (consumeArm (s.serving rest (workingAt 0x0D tag (.release rewind) i)) i).station i =
        (s.station i).disarmed := consumeArm_station _ i
    have work := StationWork.consumeArm (c := s.ceilingNow) (s.serving rest (workingAt 0x0D tag (.release rewind) i)) i
    have reported (armed : (s.station i).lcc.armExpiry ≠ none) := mem_reports_consumeArm
      (s := s.serving rest (workingAt 0x0D tag (.release rewind) i)) armed
    have settings : _ = s.settings := consumed.settings
    have berthTime : _ = s.berthTime := consumed.berth.berthTime
    generalize consumeArm (s.serving rest (workingAt 0x0D tag (.release rewind) i)) i = u at *
    have effect := StationWork.releaseEffect (c := s.ceilingNow) (s := u) (i := i) (by rw [station]; exact serving) rewind
    have disarmed := releaseEffect_disarms (s := u) (i := i) (by rw [station]; exact takes) (by rw [station]; exact serving)
      (by rw [station]; rfl) rewind
    refine ⟨_, executed, StationOps.served (Relation.ReflTransGen.trans work.ops effect.ops) _, ?_,
      fun armed => effect.ops.keeps.reports (reported armed), fun still => ?_, fun seated on => ?_, fun seated off => ?_,
      fun inside => ⟨fun good waits => ?_, fun lost => ?_, fun good opened idle delay => ?_⟩⟩
    · rwa [State.replied_station]
    · have pulsed := (startSequence_becomes u i .headOpen).station
      rw [station, settings, Lpu.starts_headOpen] at pulsed
      rw [State.replied_station, releaseEffect_still (by rw [station]; exact still)]
      exact pulsed
    · have rewound := enterRewinding_rewound u i .request
      rw [station, settings, berthTime] at rewound
      rw [releaseEffect_seated (by rw [station]; exact seated), if_pos on]
      exact rewound
    · have out := (enterLineOut_becomes u i .request).station
      rw [station] at out
      rw [State.replied_station, releaseEffect_seated (by rw [station]; exact seated), if_neg (ne_true_of_eq_false off)]
      exact out
    · have asked := (releaseAsked_becomes u i .request rewind).station
      rw [station, settings] at asked
      rw [State.replied_station, releaseEffect_releases (by rw [station]; exact inside),
        enterReleasing_waits (by rw [station]; exact good) (by rw [station, settings]; exact waits)]
      exact asked
    · have record := enterReleasing_record (s := u) (i := i) (reason := .request) (rewind := rewind)
        (by rw [station]; exact lost)
      rw [station, berthTime] at record
      rw [State.replied_station, releaseEffect_releases (by rw [station]; exact inside)]
      obtain ⟨state, cause, kept⟩ := record
      exact ⟨state, cause, kept.trans (congrArg some (StationState.recordLost_congr rfl rfl rfl rfl _ _ _))⟩
    · have confirmed := enterReleasing_confirms (s := u) (i := i) (reason := .request) (rewind := rewind)
        (by rw [station]; exact good) (by rw [station, settings]; exact ⟨opened, idle, delay⟩)
      rw [station, settings, berthTime] at confirmed
      rw [State.replied_station, releaseEffect_releases (by rw [station]; exact inside)]
      obtain ⟨stays, rewinds⟩ := confirmed
      refine ⟨stays, fun on => ?_⟩
      rw [StationState.Rewound.replied_iff]
      exact (rewinds on).of_context rfl rfl rfl rfl rfl fun _ _ => rfl

end Sys2Proof.Machine

/-!
PROOF. HALT (O22): a motion need that is withdrawn, by the waiting list and the drive phase of its station (R3, R14, R86 to R88,
R94, R106 to R109). What the arbiter's work keeps out of the list, and a slot vacated by any stop, serve later obligations too.
-/
namespace Sys2Proof.Machine

/-! ### A station without a need does not come back to the waiting list -/

/-- Station `i` presents no need and has no entry in the waiting list. -/
structure Unlisted (i : Station) (s : State) : Prop where
  noNeed : (s.station i).lcc.need = none
  noEntry : s.dsa.waits i = false

section Unlisted

variable {i : Station} {s t : State}

theorem Unlisted.of_drive (h : Unlisted i s) (drive : DriveOnly s t) (noEntry : t.dsa.waits i = false) : Unlisted i t :=
  ⟨by rw [(drive.stations i).lcc, h.noNeed], noEntry⟩

theorem waits_insertEntry (e : WaitEntry) (i : Station) (other : e.station ≠ i) (l : List WaitEntry) :
    (insertEntry e l).any (fun k => decide (k.station = i)) = l.any fun k => decide (k.station = i) := by
  induction l with
  | nil => simp [insertEntry, other]
  | cons x l ih =>
    unfold insertEntry
    split
    · simp [other]
    · simp [ih]

theorem Unlisted.grantHead (h : Unlisted i s) : Unlisted i (grantHead s) := by
  refine h.of_drive (DriveOnly.grantHead s) ?_
  cases hw : s.dsa.waiting with
  | nil => simpa only [Machine.grantHead, hw] using h.noEntry
  | cons e rest =>
    have shorter : (Machine.grantHead s).dsa.waiting = rest := (grantHead_counts hw).1
    have absent := h.noEntry
    simp only [Dsa.waits, hw, List.any_cons, Bool.or_eq_false_iff] at absent
    rw [Dsa.waits, shorter]
    exact absent.2

theorem Unlisted.grantRule (n : Nat) : ∀ {s : State}, Unlisted i s → Unlisted i (grantRule n s) := by
  induction n with
  | zero => exact id
  | succ n ih =>
    intro s h
    unfold Machine.grantRule
    split_ifs
    · exact ih h.grantHead
    · exact h

theorem Unlisted.beginYield (h : Unlisted i s) (j : Station) : Unlisted i (beginYield s j) := by
  refine h.of_drive (DriveOnly.beginYield s j) ?_
  rw [Dsa.waits, (beginYield_counts s j).2.1]
  exact h.noEntry

theorem Unlisted.freeSlot (h : Unlisted i s) (j : Station) : Unlisted i (freeSlot s j) := ⟨h.noNeed, h.noEntry⟩

theorem Unlisted.rejoin (h : Unlisted i s) (j : Station) : Unlisted i (rejoin s j) := by
  refine h.of_drive (DriveOnly.rejoin s j) ?_
  unfold Machine.rejoin
  split
  · next need presents =>
    have other : j ≠ i := by
      rintro rfl
      simp [h.noNeed] at presents
    exact (waits_insertEntry _ i other _).trans h.noEntry
  · exact h.noEntry

theorem Unlisted.preempt (n : Nat) : ∀ {s : State}, Unlisted i s → Unlisted i (preempt n s) := by
  induction n with
  | zero => exact id
  | succ n ih =>
    intro s h
    dsimp only [Machine.preempt]
    split
    · exact h
    · next yielder forStation chosen =>
      have paired : Unlisted i (s.modDsa fun d =>
          { d with yields := d.yields ++ [{ yielder := yielder, forStation := forStation, lapsed := false }] }) :=
        ⟨h.noNeed, h.noEntry⟩
      have yielded := paired.beginYield yielder
      split_ifs
      · exact ih (((yielded.freeSlot yielder).rejoin yielder).grantRule _)
      · exact yielded

theorem Unlisted.arbitrate (h : Unlisted i s) : Unlisted i (arbitrate s) := (h.grantRule _).preempt 13

end Unlisted

/-! ### A stop that has come to its end -/

/-- A stop that leaves its drum at rest, and of the arbiter touches the station's own record, vacates the slot (R88, R109). -/
theorem Vacated.of_stop {i : Station} {s u : State} {f : Holder → Holder} (station : ∀ h, (f h).station = h.station)
    (dsa : u.dsa = { s.dsa with holders := s.dsa.holders.map fun h => if h.station = i then f h else h })
    (atRest : (u.station i).dhu = (s.station i).dhu.atRest) (others : ∀ j : Station, j ≠ i → u.station j = s.station j)
    (drives : DriveOnly s u) (counters : u.counters = s.counters) : Vacated i s (freeSlot u i) where
  dsa := by
    have records : (s.dsa.holders.map fun h => if h.station = i then f h else h).filter (fun k => !decide (k.station = i)) =
        s.dsa.holders.filter fun k => decide (k.station ≠ i) := by
      induction s.dsa.holders with
      | nil => rfl
      | cons k l ih => by_cases hk : k.station = i <;> simp_all
    rw [freeSlot, State.modDsa_dsa, dsa]
    simp only [records]
    simp
  atRest := atRest
  others := others
  drives := drives.trans (DriveOnly.freeSlot u i)
  counters := counters

/-- A freed slot is read from the arbiter, the zone hold and the other stations. -/
theorem SlotFreed.of_beside {i : Station} {r s t : State} (h : SlotFreed i s t) (dsa : s.dsa = r.dsa)
    (zoneHold : s.zoneHold = r.zoneHold) (others : ∀ j : Station, j ≠ i → s.station j = r.station j) : SlotFreed i r t := by
  obtain ⟨nobody, served⟩ := h
  rw [dsa] at nobody served
  refine ⟨nobody, fun e more need remaining hr hw other hn classes slots held => ?_⟩
  rw [← others _ other] at hn held
  rw [zoneHold] at served
  exact served e more need remaining hr hw other hn classes slots held

/-! ### A need withdrawn -/

section Withdrawal

variable {s : State} {i : Station}

/-- The station's need and its pending motion are gone, before the arbiter acts on it (R86, R94). -/
def needDropped (s : State) (i : Station) : State :=
  (s.modLcc i fun l => { l with need := none }).modDhu i fun d => { d with pendingMotion := none }

theorem withdrawNeed_waiting (presents : (s.station i).lcc.need.isSome = true) (waits : s.dsa.waits i = true) :
    withdrawNeed s i = arbitrate (leaveList (needDropped s i) i) := by
  rw [withdrawNeed, if_neg (by simpa [Option.isSome_iff_ne_none] using presents), if_pos waits]
  rfl

theorem withdrawNeed_holding (presents : (s.station i).lcc.need.isSome = true) (waits : s.dsa.waits i = false) :
    withdrawNeed s i = settleStop (normalStop ((needDropped s i).modHolder i Holder.withdraw) i) i := by
  rw [withdrawNeed, if_neg (by simpa [Option.isSome_iff_ne_none] using presents), if_neg (ne_true_of_eq_false waits)]
  rfl

theorem needDropped_station (s : State) (i : Station) : (needDropped s i).station i =
    { s.station i with
      lcc := { (s.station i).lcc with need := none }, dhu := { (s.station i).dhu with pendingMotion := none } } := by
  rw [needDropped, State.station_modDhu_same, State.station_modLcc_same]

theorem needDropped_station_ne {j : Station} (h : j ≠ i) : (needDropped s i).station j = s.station j := by
  rw [needDropped, State.station_modDhu_ne _ _ h, State.station_modLcc_ne _ _ h]

/-- A waiting entry is withdrawn for good (R86). -/
theorem withdrawNeed_leaves (presents : (s.station i).lcc.need.isSome = true) (waits : s.dsa.waits i = true) :
    (withdrawNeed s i).dsa.waits i = false := by
  rw [withdrawNeed_waiting presents waits]
  have left : Unlisted i (leaveList (needDropped s i) i) := by
    refine ⟨?_, by simp [leaveList, Dsa.waits]⟩
    rw [leaveList, State.modDsa_station, needDropped_station]
  exact left.arbitrate.noEntry

/-- The withdrawing holder before its stop is asked for (R94). -/
theorem withdrawing_station (s : State) (i j : Station) :
    ((needDropped s i).modHolder i Holder.withdraw).station j = (needDropped s i).station j := rfl

/-- A withdrawal whose stop takes time: the drum is under way and its record withdrawing (R94, Table 5-4). -/
theorem withdrawNeed_underWay (presents : (s.station i).lcc.need.isSome = true) (waits : s.dsa.waits i = false)
    {d : Dhu} (stops : ((normalStop ((needDropped s i).modHolder i Holder.withdraw) i).station i).dhu = d)
    (going : d.phase ≠ .idle) :
    ((withdrawNeed s i).station i).dhu = d ∧ (withdrawNeed s i).dsa = s.dsa.withdrawing i := by
  have runs : stopEnded (normalStop ((needDropped s i).modHolder i Holder.withdraw) i) i = false := by
    simp [stopEnded, stops, going]
  rw [withdrawNeed_holding presents waits, settleStop, if_neg (ne_true_of_eq_false runs)]
  exact ⟨stops, normalStop_dsa _ i⟩

/-- A withdrawal whose stop completes at once frees the slot (R88, R106, R109). -/
theorem withdrawNeed_atOnce (presents : (s.station i).lcc.need.isSome = true) (waits : s.dsa.waits i = false)
    (holds : s.dsa.holds i = true) (asked : (s.station i).dhu.stopRequest = .none) (atOnce : (s.station i).stopsAtOnce) :
    ((withdrawNeed s i).station i).dhu = (s.station i).dhu.atRest ∧ SlotFreed i s (withdrawNeed s i) := by
  have station := withdrawing_station s i i
  rw [needDropped_station] at station
  have rest := normalStop_atRest (s := (needDropped s i).modHolder i Holder.withdraw) (i := i)
    (by rw [station]; exact asked) (by rw [station]; exact atOnce)
  have vacated : Vacated i (needDropped s i) (freeSlot (normalStop ((needDropped s i).modHolder i Holder.withdraw) i) i) := by
    refine .of_stop (f := Holder.withdraw) (fun _ => rfl) (normalStop_dsa _ i) rest
      (fun j other => normalStop_station_ne _ other) ?_ (normalStop_counters _ i)
    exact (DriveOnly.modHolder _ i _).trans (DriveOnly.normalStop _ i)
  have noNeed : ((needDropped s i).station i).lcc.need = none := by rw [needDropped_station]
  have ended : stopEnded (normalStop ((needDropped s i).modHolder i Holder.withdraw) i) i = true := by
    rw [stopEnded, rest, normalStop_dsa]
    have still : ((needDropped s i).modHolder i Holder.withdraw).dsa.holds i = s.dsa.holds i :=
      any_holder_update _ i i fun _ => rfl
    rw [still, holds]
    rfl
  rw [withdrawNeed_holding presents waits, settleStop, if_pos ended, vacated.rejoin_noNeed noNeed]
  refine ⟨?_, vacated.slotFreed.of_beside rfl rfl fun j other => needDropped_station_ne other⟩
  rw [vacated.staysAtRest noNeed, needDropped_station]
  rfl

end Withdrawal

/-- A normal stop asked again, or of a drum that is stopping already, leaves the stop under way as it goes (Table 5-4). -/
theorem normalStop_goesOn {s : State} {i : Station}
    (h : (s.station i).dhu.stopRequest ≠ .none ∨ (s.station i).dhu.phase ∈ [DrivePhase.stopping, .setting]) :
    ((normalStop s i).station i).dhu = { (s.station i).dhu with
      stopRequest := if (s.station i).dhu.stopRequest = .none then .normal else (s.station i).dhu.stopRequest } := by
  by_cases asked : (s.station i).dhu.stopRequest = .none
  · simp only [asked, ne_eq, not_true_eq_false, false_or, List.mem_cons, List.not_mem_nil, or_false] at h
    rcases h with phase | phase <;> simp [normalStop, asked, phase]
  · simp [normalStop, asked]

/-! ### HALT -/

theorem applyHalt_wrongState {s : State} {i : Station}
    (h : ¬((s.station i).lcc.lineState = .payingOut ∨ (s.station i).lcc.lineState = .rewinding)) :
    applyHalt s i = (s, .wrongState) := by
  unfold applyHalt
  split
  · next payingOut => exact absurd (.inl payingOut) h
  · next rewinding => exact absurd (.inr rewinding) h
  · rfl

theorem applyHalt_accepted {s : State} {i : Station}
    (h : (s.station i).lcc.lineState = .payingOut ∨ (s.station i).lcc.lineState = .rewinding) :
    applyHalt s i = (enterLineOut s i .request, .accepted) := by
  rcases h with h | h <;> simp [applyHalt, h]

section RecordMove

variable (s : State) (i : Station) (new : LineState) (reason : Reason)

/-- The recorded change leaves the drive and the need for the withdrawal to end (R2). -/
theorem recordMove_station : (recordMove s i new reason).station i =
    { s.station i with lcc := (s.station i).lcc.moved new reason (s.station i).latch,
                       mu := { (s.station i).mu with correction := none } } := by
  dsimp only [recordMove]
  rw [State.reportStation_station, State.station_modMu_same, State.station_modLcc_same]

theorem recordMove_station_ne {j : Station} (h : j ≠ i) : (recordMove s i new reason).station j = s.station j := by
  dsimp only [recordMove]
  rw [State.reportStation_station, State.station_modMu_ne _ _ h, State.station_modLcc_ne _ _ h]

@[simp] theorem recordMove_dsa : (recordMove s i new reason).dsa = s.dsa := by
  simp [recordMove]

@[simp] theorem recordMove_zoneHold : (recordMove s i new reason).zoneHold = s.zoneHold := rfl

end RecordMove

section Halted

variable {s : State} {i : Station} {new : LineState} {reason : Reason} (presents : (s.station i).lcc.need.isSome = true)

include presents

theorem recordMove_presents : ((recordMove s i new reason).station i).lcc.need.isSome = true := by
  rw [recordMove_station]
  exact presents

/-- The entry of a state without motion withdraws a waiting entry (R3, R86). -/
theorem changeState_leaves (waits : s.dsa.waits i = true) : (changeState s i new reason).dsa.waits i = false :=
  withdrawNeed_leaves (recordMove_presents presents) (by rwa [recordMove_dsa])

/-- The entry of a state without motion asks the drum for a normal stop that takes time (R94, R106, R107, R108). -/
theorem changeState_stops (waits : s.dsa.waits i = false) (asked : (s.station i).dhu.stopRequest = .none)
    (going : (s.station i).dhu.phase ≠ .idle) (later : ¬(s.station i).stopsAtOnce) :
    ((changeState s i new reason).station i).dhu =
      (StationState.stopAsked { s.station i with dhu := { (s.station i).dhu with pendingMotion := none } } s.settings).dhu ∧
    (changeState s i new reason).dsa = s.dsa.withdrawing i := by
  have station : ((needDropped (recordMove s i new reason) i).modHolder i Holder.withdraw).station i =
      { (recordMove s i new reason).station i with
        lcc := { ((recordMove s i new reason).station i).lcc with need := none }
        dhu := { ((recordMove s i new reason).station i).dhu with pendingMotion := none } } :=
    (withdrawing_station _ i i).trans (needDropped_station _ i)
  rw [recordMove_station] at station
  have stopped := normalStop_station (s := (needDropped (recordMove s i new reason) i).modHolder i Holder.withdraw) (i := i)
    (by rw [station]; exact asked) (by rw [station]; exact going) (by rw [station]; exact later)
  have settings : ((needDropped (recordMove s i new reason) i).modHolder i Holder.withdraw).settings = s.settings := rfl
  rw [station, settings] at stopped
  obtain ⟨dhu, dsa⟩ := withdrawNeed_underWay (recordMove_presents presents) (by rwa [recordMove_dsa])
    (congrArg StationState.dhu stopped) (StationState.stopAsked_phase _ going)
  rw [recordMove_dsa] at dsa
  refine ⟨dhu.trans ?_, dsa⟩
  unfold StationState.stopAsked
  dsimp only
  split <;> rfl

theorem changeState_endsAtOnce (waits : s.dsa.waits i = false) (holds : s.dsa.holds i = true)
    (asked : (s.station i).dhu.stopRequest = .none) (atOnce : (s.station i).stopsAtOnce) :
    ((changeState s i new reason).station i).dhu = (s.station i).dhu.atRest ∧
      SlotFreed i s (changeState s i new reason) := by
  obtain ⟨dhu, freed⟩ := withdrawNeed_atOnce (recordMove_presents (new := new) (reason := reason) presents)
    (by rwa [recordMove_dsa]) (by rwa [recordMove_dsa]) (by rw [recordMove_station]; exact asked)
    (by rw [recordMove_station]; exact atOnce)
  rw [recordMove_station] at dhu
  exact ⟨dhu, freed.of_beside (recordMove_dsa s i new reason) rfl fun j other => recordMove_station_ne s i new reason other⟩

/-- A stop under way goes on as its holder withdraws (R94, Table 5-4). -/
theorem changeState_goesOn (waits : s.dsa.waits i = false) (going : (s.station i).dhu.phase ≠ .idle)
    (underWay : (s.station i).dhu.stopRequest ≠ .none ∨ (s.station i).dhu.phase ∈ [DrivePhase.stopping, .setting]) :
    ((changeState s i new reason).station i).dhu = { (s.station i).dhu with
      pendingMotion := none
      stopRequest := if (s.station i).dhu.stopRequest = .none then .normal else (s.station i).dhu.stopRequest } ∧
    (changeState s i new reason).dsa = s.dsa.withdrawing i := by
  have station : ((needDropped (recordMove s i new reason) i).modHolder i Holder.withdraw).station i =
      { (recordMove s i new reason).station i with
        lcc := { ((recordMove s i new reason).station i).lcc with need := none }
        dhu := { ((recordMove s i new reason).station i).dhu with pendingMotion := none } } :=
    (withdrawing_station _ i i).trans (needDropped_station _ i)
  rw [recordMove_station] at station
  have stopped := normalStop_goesOn (s := (needDropped (recordMove s i new reason) i).modHolder i Holder.withdraw) (i := i)
    (by rw [station]; exact underWay)
  rw [station] at stopped
  obtain ⟨dhu, dsa⟩ := withdrawNeed_underWay (recordMove_presents presents) (by rwa [recordMove_dsa]) stopped going
  rw [recordMove_dsa] at dsa
  exact ⟨dhu, dsa⟩

end Halted

/-- Settles O22: an accepted HALT is the entry of LINE_OUT, whose withdrawal is split by the list and the drive phase. -/
theorem haltByTheRules : Obligations.HaltByTheRules := by
  unfold Obligations.HaltByTheRules
  intro s i tag n rest h serving
  have serves (result : Applied) : inServiceOnly (s.serving rest (workingAt 0x10 tag .halt i)) i result = result :=
    inServiceOnly_inService (s := s.serving rest _) serving result
  refine ⟨fun outside => ?_, fun inside => ?_⟩
  · exact exec_ranged_unapplied (result := .wrongState) rfl h (decodeRange_plain .halt i) (by simp)
      ((serves _).trans (applyHalt_wrongState (s := s.serving rest _) outside))
  · have executed := exec_ranged_applied (c := .halt (n + 1)) (result := .accepted) rfl h (decodeRange_plain .halt i) (by simp)
      ((serves _).trans (applyHalt_accepted (s := s.serving rest (workingAt 0x10 tag .halt i)) inside))
    have becomes := enterLineOut_becomes (s.serving rest (workingAt 0x10 tag .halt i)) i .request
    have reported := mem_reports_changeState (s.serving rest (workingAt 0x10 tag .halt i)) i .lineOut .request
    have leaves := changeState_leaves (s := s.serving rest (workingAt 0x10 tag .halt i)) (i := i) (new := .lineOut)
      (reason := .request)
    have stops := changeState_stops (s := s.serving rest (workingAt 0x10 tag .halt i)) (i := i) (new := .lineOut)
      (reason := .request)
    have ends := changeState_endsAtOnce (s := s.serving rest (workingAt 0x10 tag .halt i)) (i := i) (new := .lineOut)
      (reason := .request)
    have goesOn := changeState_goesOn (s := s.serving rest (workingAt 0x10 tag .halt i)) (i := i) (new := .lineOut)
      (reason := .request)
    rw [enterLineOut] at executed becomes
    generalize changeState (s.serving rest (workingAt 0x10 tag .halt i)) i .lineOut .request = u at *
    refine ⟨_, executed, becomes.served _, reported, becomes.station, leaves, fun presents waits phase asked => ?_,
      fun presents waits phase asked brake => ?_, fun presents waits holds phase asked => ?_,
      fun presents waits going underWay => goesOn presents waits going underWay⟩
    · obtain ⟨dhu, dsa⟩ := stops presents waits asked (by simp [phase]) (by simp [StationState.stopsAtOnce, phase])
      refine ⟨dhu.trans ?_, dsa⟩
      simp only [StationState.stopAsked, phase, State.serving_station, State.serving_settings]
      rfl
    · obtain ⟨dhu, dsa⟩ := stops presents waits asked (by simp [phase]) (by simp [StationState.stopsAtOnce, phase, brake])
      refine ⟨dhu.trans ?_, dsa⟩
      simp [StationState.stopAsked, phase, Dhu.setsBrake]
    · refine ends presents waits holds asked ?_
      simpa [StationState.stopsAtOnce, or_assoc] using phase

end Sys2Proof.Machine

/-!
PROOF. CONFIGURE_STATION: its fields decoded (R154, R181), its tests in the words of the statements, the adoption (O27), and the
refusals, the leaving of service and the configuration stored in place (O28; R8 to R10, R155, R156, R166).
-/
namespace Sys2Proof.Machine

/-! ### The fields of the frame -/

section Decode

variable {c : CarriedConfig} {r k : Bool}

/-- The flags byte of a CONFIGURE_STATION as a number (Table 9-5). -/
def configureFlags (inService autoRelease reserve takeup estimate : Bool) : Nat :=
  (if inService then 1 else 0) + (if autoRelease then 2 else 0) + (if reserve then 4 else 0) +
    (if takeup then 8 else 0) + (if estimate then 16 else 0)

theorem configureFlags_bits : ∀ a b r k e : Bool, configureFlags a b r k e < 32 ∧
    (configureFlags a b r k e).testBit 0 = a ∧ (configureFlags a b r k e).testBit 1 = b ∧
    (configureFlags a b r k e).testBit 2 = r ∧ (configureFlags a b r k e).testBit 3 = k ∧
    (configureFlags a b r k e).testBit 4 = e := by decide

/-- The bytes of the layers of a CONFIGURE_STATION (Table 9-5). -/
def layerBytes (layers : List Layer) : List Byte := layers.flatMap fun l => be16 l.wrapLength ++ be8 l.wraps

theorem layerBytes_length (layers : List Layer) : (layerBytes layers).length = 3 * layers.length := by
  induction layers with
  | nil => rfl
  | cons l layers ih =>
    have front : layerBytes (l :: layers) = be16 l.wrapLength ++ be8 l.wraps ++ layerBytes layers := rfl
    rw [front, List.length_append, ih, List.length_cons]
    simp only [be16, be8, List.length_append, List.length_cons, List.length_nil]
    omega

/-- The layers are read back from their bytes, whatever stands before them (R181, R194). -/
theorem layers_of_bytes (layers : List Layer) :
    ∀ pre : List Byte, (∀ l ∈ layers, l.wrapLength < 65536 ∧ l.wraps < 256) →
    ((List.range layers.length).map fun n =>
      ({ wrapLength := numAt (pre ++ layerBytes layers) (pre.length + 3 * n) 2
         wraps := byteAt (pre ++ layerBytes layers) (pre.length + 2 + 3 * n) } : Layer)) = layers := by
  induction layers with
  | nil => exact fun _ _ => rfl
  | cons l layers ih =>
    intro pre fits
    obtain ⟨hlength, hwraps⟩ := fits l (by simp)
    have later := ih (pre ++ (be16 l.wrapLength ++ be8 l.wraps)) fun x hx => fits x (List.mem_cons_of_mem _ hx)
    have bytes : pre ++ (be16 l.wrapLength ++ be8 l.wraps) ++ layerBytes layers = pre ++ layerBytes (l :: layers) := by
      rw [List.append_assoc]
      rfl
    have width : (pre ++ (be16 l.wrapLength ++ be8 l.wraps)).length = pre.length + 3 := by simp [be16, be8]
    rw [bytes, width] at later
    rw [List.length_cons, List.range_succ_eq_map, List.map_cons, List.map_map]
    congr 1
    · have number : numAt (pre ++ layerBytes (l :: layers)) (pre.length + 3 * 0) 2 = l.wrapLength := by
        rw [numAt, Nat.mul_zero, Nat.add_zero, List.drop_left]
        exact ofBe_be16 hlength
      have turns : byteAt (pre ++ layerBytes (l :: layers)) (pre.length + 2 + 3 * 0) = l.wraps := by
        rw [byteAt, Nat.mul_zero, Nat.add_zero, List.getD_append_right _ _ _ _ (Nat.le_add_right _ _), Nat.add_sub_cancel_left]
        exact toNat_ofNat_byte hwraps
      rw [number, turns]
    · refine Eq.trans (List.map_congr_left fun n _ => ?_) later
      simp only [Function.comp, Nat.succ_eq_add_one, Nat.mul_add, Nat.mul_one]
      congr 2 <;> omega

/-- The fields of a CONFIGURE_STATION for one station that are always carried, before the layers (Table 9-5). -/
def configureFixed (i : Station) (c : CarriedConfig) (r k : Bool) : List Byte :=
  BitVec.ofNat 8 i.val :: BitVec.ofNat 8 i.val ::
    (be8 (configureFlags c.inService c.autoRelease r k c.estimate.isSome) ++
      be16 c.countsPerRev ++ be16 c.zero ++ be16 c.span ++ be8 c.requested)

/-- The bytes of a field that may be omitted. -/
def carriedBytes (carried : Bool) (bytes : List Byte) : List Byte := if carried then bytes else []

/-- The bytes of a count estimate (Table 9-5). -/
def estimateBytes : Option Nat → List Byte
  | some e => be24 e
  | none => []

/-- The bytes of a CONFIGURE_STATION for one station before its layer count (Table 9-5). -/
def configureFront (i : Station) (c : CarriedConfig) (r k : Bool) : List Byte :=
  configureFixed i c r k ++ carriedBytes r (be16 c.reserve) ++ carriedBytes k (be16 c.takeupLimit) ++
    estimateBytes c.estimate

/-- The body of a CONFIGURE_STATION for one station (Table 9-5). -/
def configureBody (i : Station) (c : CarriedConfig) (r k : Bool) : List Byte :=
  configureFront i c r k ++ be8 c.layers.length ++ layerBytes c.layers

theorem configureBody_eq (i : Station) (c : CarriedConfig) (r k : Bool) :
    BitVec.ofNat 8 i.val :: BitVec.ofNat 8 i.val :: c.encode r k = configureBody i c r k := by
  simp only [CarriedConfig.encode, configureBody, configureFront, configureFixed, carriedBytes, estimateBytes,
    List.append_assoc, List.cons_append, configureFlags, layerBytes] <;> rfl

variable (i : Station)

/-- The place of the layer count goes by the flags (R181). -/
theorem configureFront_length (c : CarriedConfig) (r k : Bool) : (configureFront i c r k).length =
    layerCountAt (configureFlags c.inService c.autoRelease r k c.estimate.isSome) := by
  obtain ⟨-, -, -, reserve, takeup, estimate⟩ := configureFlags_bits c.inService c.autoRelease r k c.estimate.isSome
  rw [layerCountAt, reserve, takeup, estimate]
  cases r <;> cases k <;> cases h : c.estimate <;>
    simp [configureFront, configureFixed, carriedBytes, estimateBytes, be8, be16, be24, h]

theorem byteAt_flags (c : CarriedConfig) (r k : Bool) : byteAt (configureBody i c r k) 2 =
    configureFlags c.inService c.autoRelease r k c.estimate.isSome := by
  obtain ⟨small, -⟩ := configureFlags_bits c.inService c.autoRelease r k c.estimate.isSome
  exact toNat_ofNat_byte (by omega)

theorem byteAt_layerCount (fits : c.layers.length < 256) : byteAt (configureBody i c r k)
    (layerCountAt (configureFlags c.inService c.autoRelease r k c.estimate.isSome)) = c.layers.length := by
  rw [← configureFront_length i, byteAt, configureBody, List.append_assoc,
    List.getD_append_right _ _ _ _ (Nat.le_refl _), Nat.sub_self]
  exact toNat_ofNat_byte fits

theorem configureBody_length (c : CarriedConfig) (r k : Bool) : (configureBody i c r k).length =
    layerCountAt (configureFlags c.inService c.autoRelease r k c.estimate.isSome) + 1 + 3 * c.layers.length := by
  rw [← configureFront_length i, configureBody, List.length_append, List.length_append, layerBytes_length]
  rfl

/-- A number is read back from its own bytes, wherever they stand. -/
theorem numAt_append (pre mid rest : List Byte) : numAt (pre ++ (mid ++ rest)) pre.length mid.length = ofBe mid := by
  rw [numAt, List.drop_left, List.take_left]

theorem reserve_of_body (c : CarriedConfig) (r k : Bool) (absent : r = false → c.reserve = 5000)
    (fits : c.reserve < 65536) : (if r = true then numAt (configureBody i c r k) 10 2 else 5000) = c.reserve := by
  cases r with
  | false => exact (absent rfl).symm
  | true =>
    have read := numAt_append (configureFixed i c true k) (be16 c.reserve)
      (carriedBytes k (be16 c.takeupLimit) ++ (estimateBytes c.estimate ++ (be8 c.layers.length ++ layerBytes c.layers)))
    rw [ofBe_be16 fits] at read
    rw [if_pos rfl, ← read]
    simp only [configureBody, configureFront, List.append_assoc]
    rfl

theorem takeup_of_body (c : CarriedConfig) (r k : Bool) (absent : k = false → c.takeupLimit = 10000)
    (fits : c.takeupLimit < 65536) :
    (if k = true then numAt (configureBody i c r k) (10 + if r = true then 2 else 0) 2 else 10000) = c.takeupLimit := by
  cases k with
  | false => exact (absent rfl).symm
  | true =>
    have read := numAt_append (configureFixed i c r true ++ carriedBytes r (be16 c.reserve)) (be16 c.takeupLimit)
      (estimateBytes c.estimate ++ (be8 c.layers.length ++ layerBytes c.layers))
    rw [ofBe_be16 fits] at read
    rw [if_pos rfl, ← read]
    simp only [configureBody, configureFront, List.append_assoc]
    cases r <;> rfl

theorem estimate_of_body (c : CarriedConfig) (r k : Bool) (fits : ∀ e, c.estimate = some e → e < 2 ^ 24) :
    (if c.estimate.isSome = true then
      some (numAt (configureBody i c r k) ((10 + if r = true then 2 else 0) + if k = true then 2 else 0) 3) else none) =
      c.estimate := by
  cases given : c.estimate with
  | none => rfl
  | some e =>
    have read := numAt_append
      (configureFixed i c r k ++ carriedBytes r (be16 c.reserve) ++ carriedBytes k (be16 c.takeupLimit)) (be24 e)
      (be8 c.layers.length ++ layerBytes c.layers)
    rw [ofBe_be24 (fits e given)] at read
    rw [Option.isSome_some, if_pos rfl, Option.some_inj]
    refine Eq.trans ?_ read
    simp only [configureBody, configureFront, List.append_assoc, given]
    cases r <;> cases k <;> rfl

/-- The configuration that the bytes carry is the one that was spelled (R154, R181, R194). -/
theorem carriedOf_configureBody (fits : c.encodable r k) : carriedOf (configureBody i c r k) = c := by
  obtain ⟨hcounts, hzero, hspan, hrequested, hreserve, htakeup, hestimate, hlayers, layersFit, noReserve, noTakeup⟩ := fits
  obtain ⟨-, inServiceBit, autoReleaseBit, reserveBit, takeupBit, estimateBit⟩ :=
    configureFlags_bits c.inService c.autoRelease r k c.estimate.isSome
  have layers := layers_of_bytes c.layers (configureFront i c r k ++ be8 c.layers.length) layersFit
  rw [List.length_append, configureFront_length] at layers
  have counts : numAt (configureBody i c r k) 3 2 = c.countsPerRev := ofBe_be16 hcounts
  have zero : numAt (configureBody i c r k) 5 2 = c.zero := ofBe_be16 hzero
  have span : numAt (configureBody i c r k) 7 2 = c.span := ofBe_be16 hspan
  have requested : byteAt (configureBody i c r k) 9 = c.requested := toNat_ofNat_byte hrequested
  unfold carriedOf
  dsimp only
  rw [byteAt_flags, byteAt_layerCount i hlayers, inServiceBit, autoReleaseBit, reserveBit, takeupBit, estimateBit,
    reserve_of_body i c r k noReserve hreserve, takeup_of_body i c r k noTakeup htakeup, estimate_of_body i c r k hestimate,
    counts, zero, span, requested]
  exact congrArg (fun l => { c with layers := l }) layers

/-- CONFIGURE_STATION for one station decodes to the configuration it carries (R172, R181). -/
theorem decodeConfigureStation_single (fits : c.encodable r k) :
    decodeConfigureStation (BitVec.ofNat 8 i.val :: BitVec.ofNat 8 i.val :: c.encode r k) =
      .ok { first := i.val, last := i.val, request := .configureStation c } := by
  obtain ⟨small, -⟩ := configureFlags_bits c.inService c.autoRelease r k c.estimate.isSome
  have inRange : i.val ≤ 11 := by omega
  have first : byteAt (configureBody i c r k) 0 = i.val := toNat_byte_station i
  have last : byteAt (configureBody i c r k) 1 = i.val := toNat_byte_station i
  have count := byteAt_layerCount (r := r) (k := k) i fits.2.2.2.2.2.2.2.1
  rw [configureBody_eq, decodeConfigureStation, byteAt_flags, if_neg (by omega)]
  dsimp only
  rw [count, configureBody_length, if_neg (by omega), rangeValid, first, last, if_neg (by simp [inRange]),
    carriedOf_configureBody i fits]

end Decode

/-! ### The tests -/

section Tests

variable (a : StationState) (c : CarriedConfig)

theorem CarriedConfig.keepsOthers_iff (d : StationConfig) : c.keepsOthers d = true ↔
    c.countsPerRev = d.countsPerRev ∧ c.layers = d.layers ∧ c.zero = d.zero ∧ c.span = d.span ∧ c.reserve = d.reserve ∧
      c.takeupLimit = d.takeupLimit := by
  simp [CarriedConfig.keepsOthers, and_assoc]

/-- The state test of R156, in the words of the statement. -/
theorem StationState.configureWrongState_iff : a.configureWrongState c = true ↔ ¬a.takesConfig c := by
  have elsewhere : (match a.config with
      | some d => !(c.inService && c.estimate.isNone && c.keepsOthers d)
      | none => true) = true ↔ ¬(c.inService = true ∧ c.estimate = none ∧ ∃ d, a.config = some d ∧
        c.countsPerRev = d.countsPerRev ∧ c.layers = d.layers ∧ c.zero = d.zero ∧ c.span = d.span ∧
        c.reserve = d.reserve ∧ c.takeupLimit = d.takeupLimit) := by
    cases held : a.config with
    | none => simp
    | some d =>
      simp only [Option.some.injEq, exists_eq_left', ← c.keepsOthers_iff d]
      cases c.inService <;> cases c.estimate <;> simp
  cases state : a.lcc.lineState
  case offline => simp [StationState.configureWrongState, StationState.takesConfig, state]
  case stowed =>
    simp only [StationState.configureWrongState, StationState.takesConfig, state, Lpu.busy]
    cases c.inService <;> cases a.lpu.pulse <;> cases a.lpu.queued <;> simp
  all_goals
    simp only [StationState.configureWrongState, StationState.takesConfig, state]
    exact elsewhere

/-- The wrap lengths of the layers, in the words of the statement (R155). -/
theorem layersOrdered_iff (layers : List Layer) :
    layersOrdered layers = true ↔ layers.Pairwise fun a b => b.wrapLength ≤ a.wrapLength := by
  induction layers with
  | nil => simp [layersOrdered]
  | cons first rest ih =>
    cases rest with
    | nil => simp [layersOrdered]
    | cons second rest =>
      rw [layersOrdered, Bool.and_eq_true, decide_eq_true_eq, ih, List.pairwise_cons (a := first)]
      refine and_congr_left fun later => ⟨fun le x hx => ?_, fun all => all second (by simp)⟩
      rcases List.mem_cons.mp hx with rfl | hx
      · exact le
      · exact Nat.le_trans ((List.pairwise_cons.mp later).1 x hx) le

/-- The field checks of R155, in the words of the statement. -/
theorem CarriedConfig.inRange_iff : c.inRange = true ↔ c.valid := by
  have layers : c.layers.all Layer.inRange = true ↔
      ∀ l ∈ c.layers, 100 ≤ l.wrapLength ∧ l.wrapLength ≤ 20000 ∧ 1 ≤ l.wraps ∧ l.wraps ≤ 200 := by
    simp only [List.all_eq_true, Layer.inRange, decide_eq_true_eq]
  cases given : c.estimate with
  | none =>
    simp only [CarriedConfig.inRange, CarriedConfig.valid, given, Bool.and_eq_true, layers, layersOrdered_iff,
      decide_eq_true_eq, and_assoc, reduceCtorEq, false_implies, implies_true, and_true] <;> rfl
  | some e =>
    simp only [CarriedConfig.inRange, CarriedConfig.valid, given, Bool.and_eq_true, layers, layersOrdered_iff,
      decide_eq_true_eq, and_assoc, Option.some.injEq, forall_eq'] <;> rfl

/-- The test of the commissioning lock, in the words of the statement (R166). -/
theorem CarriedConfig.lockRefuses_iff (held : Option StationConfig) : c.lockRefuses held = true ↔ ¬c.keptByLock held := by
  cases held with
  | none => simp [CarriedConfig.lockRefuses, CarriedConfig.keptByLock]
  | some d =>
    have same : c.keptByLock (some d) ↔ c.countsPerRev = d.countsPerRev ∧ c.layers = d.layers ∧ c.reserve = d.reserve ∧
        c.zero = d.zero ∧ c.span = d.span ∧ (d.autoRelease = true → c.autoRelease = true) := by
      simp [CarriedConfig.keptByLock]
    rw [same]
    simp only [CarriedConfig.lockRefuses]
    cases d.autoRelease <;> cases c.autoRelease <;> simp <;> tauto

end Tests

section Request

variable {s : State} {i : Station} {c : CarriedConfig}

theorem applyConfigureStation_wrongState (h : ¬(s.station i).takesConfig c) :
    applyConfigureStation s i c = (s, .wrongState) := if_pos ((StationState.configureWrongState_iff _ c).mpr h)

variable (takes : (s.station i).takesConfig c)

include takes

theorem configureStation_taken : ¬(s.station i).configureWrongState c = true :=
  fun wrong => (StationState.configureWrongState_iff _ c).mp wrong takes

theorem applyConfigureStation_outOfRange (invalid : ¬c.valid) : applyConfigureStation s i c = (s, .outOfRange) :=
  (if_neg (configureStation_taken takes)).trans (if_pos (by simp [mt c.inRange_iff.mp invalid]))

variable (valid : c.valid)

include valid

theorem applyConfigureStation_locked (locked : s.berth.locked = true) (refuses : ¬c.keptByLock (s.station i).config) :
    applyConfigureStation s i c = (s, .locked) :=
  (if_neg (configureStation_taken takes)).trans ((if_neg (by simp [c.inRange_iff.mpr valid])).trans
    (if_pos (by simp [locked, (c.lockRefuses_iff _).mpr refuses])))

variable (kept : s.berth.locked = true → c.keptByLock (s.station i).config)

include kept

omit takes valid in
theorem configureStation_unlocked : ¬(s.berth.locked && c.lockRefuses (s.station i).config) = true := by
  rw [Bool.and_eq_true]
  rintro ⟨locked, refuses⟩
  exact (c.lockRefuses_iff _).mp refuses (kept locked)

theorem applyConfigureStation_needEstimate (offline : (s.station i).lcc.lineState = .offline) (inService : c.inService = true)
    (away : (s.station i).filters.stowed.level = false) (absent : c.estimate = none) :
    applyConfigureStation s i c = (s, .needEstimate) :=
  (if_neg (configureStation_taken takes)).trans ((if_neg (by simp [c.inRange_iff.mpr valid])).trans
    ((if_neg (configureStation_unlocked kept)).trans
      (if_pos (by simp [StationState.needsEstimate, offline, inService, away, absent]))))

theorem applyConfigureStation_accepted (estimated : (s.station i).needsEstimate c = false) :
    applyConfigureStation s i c = (configureEffect s i c, .accepted) :=
  (if_neg (configureStation_taken takes)).trans ((if_neg (by simp [c.inRange_iff.mpr valid])).trans
    ((if_neg (configureStation_unlocked kept)).trans (if_neg (ne_true_of_eq_false estimated))))

end Request

/-! ### Adoption -/

theorem mem_reports_adopt (s : State) (i : Station) (c : CarriedConfig) :
    ReportEntry.station i ∈ (adopt s i c).link.reports := by
  have entered : ReportEntry.station i ∈ (enterAdopted (adoptionValues s i) i (c.estimate.getD 0)).link.reports := by
    unfold enterAdopted
    dsimp only
    split_ifs <;> exact mem_reports_changeState _ i _ _
  exact (StationOps.modLpu _ i _).keeps.reports ((StationOps.storeConfig _ i c).keeps.reports entered)

theorem profileNo_of_val {p : ProfileNo} {n : Nat} (h : p.val = n) : profileNo n = p := by
  rw [← h, profileNo_val]

/-- Settles O27: an accepted CONFIGURE_STATION adopts the station (`adopt_becomes`), into the state of its sensors. -/
theorem adoptionByTheSensors : Obligations.AdoptionByTheSensors := by
  unfold Obligations.AdoptionByTheSensors
  intro s i tag c r k n rest fits h offline inService valid kept p hp
  have adopts (estimated : (s.station i).needsEstimate c = false) :
      ∃ t, exec (.configureStation (n + 1)) s = .next t ∧ StationServed i s t rest (replyFor 0x07 tag 0) ∧
        ReportEntry.station i ∈ t.link.reports ∧
        ((s.station i).adopted s c p (s.station i).adoptionState ((s.station i).adoptionCount (c.estimate.getD 0))
          (s.station i).filters.stowed.level).SameButDrive (t.station i) := by
    have takes : (s.station i).takesConfig c := by simp [StationState.takesConfig, offline]
    have applied := applyConfigureStation_accepted
      (s := s.serving rest (workingAt 0x07 tag (.configureStation c) i)) (i := i) takes valid kept estimated
    have effect : configureEffect (s.serving rest (workingAt 0x07 tag (.configureStation c) i)) i c =
        adopt (s.serving rest (workingAt 0x07 tag (.configureStation c) i)) i c := by
      simp [configureEffect, offline, inService]
    have becomes := adopt_becomes (s.serving rest (workingAt 0x07 tag (.configureStation c) i)) i c
    have reported := mem_reports_adopt (s.serving rest (workingAt 0x07 tag (.configureStation c) i)) i c
    rw [effect] at applied
    rw [profileNo_of_val hp] at becomes
    generalize adopt (s.serving rest (workingAt 0x07 tag (.configureStation c) i)) i c = u at *
    exact ⟨_, exec_ranged_applied (result := .accepted) rfl h (decodeConfigureStation_single i fits) (by simp) applied,
      becomes.served _, reported, becomes.station⟩
  refine ⟨fun stowed => ?_, fun away e given => ?_⟩
  · obtain ⟨t, executed, served, reported, same⟩ := adopts (by simp [StationState.needsEstimate, stowed])
    simp only [StationState.adoptionState, StationState.adoptionCount, stowed, if_true] at same
    exact ⟨t, executed, served, reported, same⟩
  · obtain ⟨t, executed, served, reported, same⟩ := adopts (by simp [StationState.needsEstimate, given])
    simp only [StationState.adoptionState, StationState.adoptionCount, away, given, Bool.false_eq_true, if_false,
      Option.getD_some] at same
    exact ⟨t, executed, served, reported, same⟩

/-! ### Leaving service -/

section Leaving

variable {s : State} {i : Station}

/-- A station without a need changes its state without work of the arbiter (R2, R3). -/
theorem changeState_noNeed (noNeed : (s.station i).lcc.need = none) (new : LineState) (reason : Reason) :
    changeState s i new reason = recordMove s i new reason := by
  have none : ((recordMove s i new reason).station i).lcc.need = none := by
    rw [recordMove_station]
    exact noNeed
  rw [changeState, withdrawNeed, if_pos (by rw [none]; rfl)]

/-- The station out of service, with its window passed and its detections dropped (R10, R36, R107). -/
theorem windowPassed_station (noNeed : (s.station i).lcc.need = none) :
    (windowPassed s i).station i = { (s.station i).outOfService with
      dhu := if (s.station i).mu.windowDue then (s.station i).dhu.passWindow else (s.station i).dhu } := by
  have left : (serviceLeft s i).station i = { (s.station i).outOfService with handed := (s.station i).handed } := by
    rw [serviceLeft, State.station_modLpu_same, State.station_modMu_same, State.station_modLcc_same,
      changeState_noNeed noNeed, recordMove_station]
    simp only [StationState.outOfService, StationState.moved, Lcc.moved, noNeed]
    rfl
  rw [windowPassed, State.station_modHanded_same]
  split
  · rw [State.station_modDhu_same, left]
    rfl
  · rw [left]
    rfl

theorem windowPassed_dsa (noNeed : (s.station i).lcc.need = none) : (windowPassed s i).dsa = s.dsa := by
  rw [windowPassed, serviceLeft, changeState_noNeed noNeed]
  split <;> exact recordMove_dsa s i .offline .request

/-- No Duty Counter remembers an edge of the station any more (R198). -/
theorem forgetEdges_counter (s : State) (i : Station) (m : CounterNo) :
    ((s.forgetEdges i).counters.get m).memory.get i = none := by
  fin_cases m <;> simp [State.forgetEdges, allCounters, State.modCounter_counter, vector_get_set]

theorem forgetEdges_station (s : State) (i j : Station) : (s.forgetEdges i).station j = s.station j := by
  rw [(CountsOnly.forgetEdges s i).eq]
  rfl

theorem forgetEdges_dsa (s : State) (i : Station) : (s.forgetEdges i).dsa = s.dsa := by
  rw [(CountsOnly.forgetEdges s i).eq]

theorem mem_reports_leaveService (s : State) (i : Station) (c : CarriedConfig) :
    ReportEntry.station i ∈ (leaveService s i c).link.reports := by
  have moved : ReportEntry.station i ∈ (windowPassed s i).link.reports := by
    have reported := mem_reports_changeState s i .offline .request
    unfold windowPassed
    split <;> exact reported
  rw [leaveService_eq]
  exact (StationOps.storeConfig _ i c).keeps.reports moved

/-- The station once it has left service with this configuration (R10, R36, R141, R154). -/
theorem leaveService_station (noNeed : (s.station i).lcc.need = none) (c : CarriedConfig) :
    (leaveService s i c).station i =
      ({ (s.station i).outOfService with
        dhu := if (s.station i).mu.windowDue then (s.station i).dhu.passWindow else (s.station i).dhu } :
        StationState).configured c.stored s.ceilingNow := by
  have ceiling : ((windowPassed s i).forgetEdges i).ceilingNow = s.ceilingNow := by
    have profiles : (windowPassed s i).profiles = s.profiles := by
      rw [windowPassed, serviceLeft, changeState_noNeed noNeed]
      split <;> rfl
    rw [State.ceilingNow, (CountsOnly.forgetEdges (windowPassed s i) i).driveOnly.berth.profiles, profiles]
    rfl
  rw [leaveService_eq, storeConfig, recomputeEffective_setConfig, State.withConfig]
  refine (State.station_setStation_same _ _ _).trans ?_
  rw [forgetEdges_station, ceiling, windowPassed_station noNeed]

theorem leaveService_dsa (noNeed : (s.station i).lcc.need = none) (c : CarriedConfig) :
    (leaveService s i c).dsa = s.dsa := by
  rw [leaveService_eq, storeConfig, recomputeEffective_setConfig, State.withConfig]
  exact (forgetEdges_dsa _ i).trans (windowPassed_dsa noNeed)

theorem leaveService_memory (s : State) (i : Station) (c : CarriedConfig) (m : CounterNo) :
    ((leaveService s i c).counters.get m).memory.get i = none := by
  rw [leaveService_eq, storeConfig, recomputeEffective_setConfig, State.withConfig]
  exact forgetEdges_counter _ i m

end Leaving

/-! ### CONFIGURE_STATION -/

section Effect

variable {s : State} {i : Station} {c : CarriedConfig}

theorem configureEffect_leaves (stowed : (s.station i).lcc.lineState = .stowed) (out : c.inService = false) :
    configureEffect s i c = leaveService s i c := by
  simp [configureEffect, stowed, out]

/-- Where the station is neither adopted nor leaves service, the configuration is stored in place (R156). -/
theorem configureEffect_stores (stays : (s.station i).lcc.lineState ≠ .stowed ∨ c.inService = true)
    (adopts : ¬((s.station i).lcc.lineState = .offline ∧ c.inService = true)) :
    configureEffect s i c = s.withConfig i c.stored := by
  rw [← recomputeEffective_setConfig]
  unfold configureEffect
  split
  · next offline inService => exact absurd ⟨offline, inService⟩ adopts
  · next stowed out => simp [stowed, out] at stays
  · rfl

end Effect

/-- Settles O28: the tests of `applyConfigureStation` in their order, and the effects that are no adoption: the station leaves
service (`leaveService_station`), or its configuration is stored in place (`configureEffect_stores`). -/
theorem configureStationByTheRules : Obligations.ConfigureStationByTheRules := by
  unfold Obligations.ConfigureStationByTheRules
  intro s i tag c r k n rest fits h
  have decoded := decodeConfigureStation_single i fits
  refine ⟨fun wrong => ?_, fun takes invalid => ?_, fun takes valid locked refuses => ?_,
    fun takes valid kept => ⟨?_, ?_⟩⟩
  · exact exec_ranged_unapplied (result := .wrongState) rfl h decoded (by simp)
      (applyConfigureStation_wrongState (s := s.serving rest _) wrong)
  · exact exec_ranged_unapplied (result := .outOfRange) rfl h decoded (by simp)
      (applyConfigureStation_outOfRange (s := s.serving rest _) takes invalid)
  · exact exec_ranged_unapplied (result := .locked) rfl h decoded (by simp)
      (applyConfigureStation_locked (s := s.serving rest _) takes valid locked refuses)
  · exact fun offline inService away absent => exec_ranged_unapplied (result := .needEstimate) rfl h decoded (by simp)
      (applyConfigureStation_needEstimate (s := s.serving rest _) takes valid kept offline inService away absent)
  · intro p hp
    have stored : c.stored = c.stores p := by rw [CarriedConfig.stored, profileNo_of_val hp]; rfl
    have executes (estimated : (s.station i).needsEstimate c = false) := exec_ranged_applied (c := .configureStation (n + 1))
      (result := .accepted) rfl h decoded (by simp) (applyConfigureStation_accepted
        (s := s.serving rest (workingAt 0x07 tag (.configureStation c) i)) takes valid kept estimated)
    refine ⟨fun stowed out noNeed => ?_, fun stays adopts => ?_⟩
    · have executed := executes (by simp [StationState.needsEstimate, out])
      have becomes := leaveService_becomes (s.serving rest (workingAt 0x07 tag (.configureStation c) i)) i c
      have reported := mem_reports_leaveService (s.serving rest (workingAt 0x07 tag (.configureStation c) i)) i c
      have station := leaveService_station (s := s.serving rest (workingAt 0x07 tag (.configureStation c) i)) noNeed c
      have dsa := leaveService_dsa (s := s.serving rest (workingAt 0x07 tag (.configureStation c) i)) noNeed c
      have memory := leaveService_memory (s.serving rest (workingAt 0x07 tag (.configureStation c) i)) i c
      rw [configureEffect_leaves (s := s.serving rest _) stowed out] at executed
      rw [State.serving_station, stored] at station
      generalize leaveService (s.serving rest (workingAt 0x07 tag (.configureStation c) i)) i c = u at *
      refine ⟨_, executed, becomes.served _, reported, dsa, memory, ?_⟩
      rw [State.replied_station, station]
      cases (s.station i).mu.windowDue <;> rfl
    · have estimated : (s.station i).needsEstimate c = false := by
        by_cases offline : (s.station i).lcc.lineState = .offline
        · simp only [offline, true_and] at adopts
          simp [StationState.needsEstimate, adopts]
        · simp [StationState.needsEstimate, offline]
      have executed := executes estimated
      have ops := StationOps.storeConfig (s.serving rest (workingAt 0x07 tag (.configureStation c) i)) i c
      rw [storeConfig, recomputeEffective_setConfig, stored] at ops
      rw [configureEffect_stores (s := s.serving rest _) stays adopts, stored] at executed
      refine ⟨_, executed, ops.served _, rfl, fun j other => State.station_setStation_ne _ _ other,
        State.station_setStation_same _ _ _, rfl⟩

end Sys2Proof.Machine

/-!
PROOF. What the LCC decides at a good sample: the overload dose (O33), regulation in HOLDING (O34), the tests of ADJUSTING (O35),
take-up completion and the snag test (O36; R19, R27, R66 to R75).
-/
namespace Sys2Proof.Machine

/-! ### A sample taken -/

/-- In `v` a sample of this tension has been taken at station `i`, its context being `l`; arbiter and berth stand. -/
structure SampleAt (i : Station) (s v : State) (x : Nat) (l : Lcc) : Prop where
  lcc : (v.station i).lcc = l
  config : (v.station i).config = (s.station i).config
  lpu : (v.station i).lpu = (s.station i).lpu
  filters : (v.station i).filters = (s.station i).filters
  tension : (v.station i).mu.tension = x
  count : (v.station i).mu.count = (s.station i).mu.count
  good : (v.station i).mu.lost = false
  dhu : (v.station i).dhu = (s.station i).dhu
  others : ∀ j : Station, j ≠ i → v.station j = s.station j
  dsa : v.dsa = s.dsa
  berth : BerthKept s v

section Sample

variable {s v : State} {i : Station} {x : Nat} {l : Lcc}

theorem SampleAt.latch (h : SampleAt i s v x l) : (v.station i).latch = (s.station i).latch := by
  simp only [StationState.latch, h.filters]

theorem SampleAt.settings (h : SampleAt i s v x l) : v.settings = s.settings := congrArg BerthSettings.config h.berth.berth

theorem SampleAt.profile (h : SampleAt i s v x l) (e : ProfileNo) : v.profile e = s.profile e := by
  simp only [State.profile, h.berth.profiles]

theorem SampleAt.cmax (h : SampleAt i s v x l) : (v.station i).cmax = (s.station i).cmax := by
  simp only [StationState.cmax, h.config]

/-- The context of the station changes, all else standing. -/
theorem SampleAt.modLcc (h : SampleAt i s v x l) (f : Lcc → Lcc) : SampleAt i s (v.modLcc i f) x (f l) where
  lcc := by rw [State.station_modLcc_same, ← h.lcc]
  config := by rw [State.station_modLcc_same]; exact h.config
  lpu := by rw [State.station_modLcc_same]; exact h.lpu
  filters := by rw [State.station_modLcc_same]; exact h.filters
  tension := by rw [State.station_modLcc_same]; exact h.tension
  count := by rw [State.station_modLcc_same]; exact h.count
  good := by rw [State.station_modLcc_same]; exact h.good
  dhu := by rw [State.station_modLcc_same]; exact h.dhu
  others j other := (State.station_modLcc_ne _ _ other).trans (h.others j other)
  dsa := h.dsa
  berth := h.berth.trans ⟨rfl, rfl, rfl, rfl, rfl, rfl, fun _ => rfl, rfl, rfl, rfl, rfl, rfl⟩

theorem SampleAt.counted (h : SampleAt i s v x l) {u : State} (counts : CountsOnly v u) : SampleAt i s u x l := by
  have stations (j : Station) : u.station j = v.station j := by rw [counts.eq]; rfl
  have dsa : u.dsa = v.dsa := by rw [counts.eq]
  refine ⟨?_, ?_, ?_, ?_, ?_, ?_, ?_, ?_, fun j other => (stations j).trans (h.others j other), dsa.trans h.dsa,
    h.berth.trans counts.driveOnly.berth⟩ <;> rw [stations]
  exacts [h.lcc, h.config, h.lpu, h.filters, h.tension, h.count, h.good, h.dhu]

theorem SampleAt.report (h : SampleAt i s v x l) : SampleAt i s (v.reportStation i) x l :=
  h.counted (CountsOnly.makePending v (.station i))

end Sample

/-- A good record at a station in service: its sample is taken, the LCC decides on it, and it is offered to the counters. -/
theorem exec_sample {s : State} {i : Station} {c : StationConfig} {status high low : Byte}
    (serving : (s.station i).lcc.lineState ≠ .offline) (hc : (s.station i).config = some c)
    (held : (s.station i).mu.sampleHeld = []) (ok : status.toNat ≤ 1) :
    ∃ v, SampleAt i s v (c.tensionOfRecord status high low) (s.station i).lcc ∧ v.counters = s.counters ∧
      exec (.sampleRecordReceived i [status, high, low, status ^^^ high ^^^ low]) s =
        .next ((lccSample v i).sampleOccurrence i (c.tensionOfRecord status high low)) := by
  have holds := holdRecord_station s i (sampleRecord status high low)
  have taken := exec_sampleRecordReceived_completes (bytes := sampleRecord status high low)
    (record := sampleRecord status high low) serving (by simp [held]) (by simp [held]) rfl
  rw [takeRecord_good high low (by rw [holds]; exact hc) ok, goodSample_eq] at taken
  refine ⟨_, ?_, ?_, taken⟩
  · have stored : SampleAt i s (sampleStored (s.holdRecord i (sampleRecord status high low)) i
        (c.tensionOfRecord status high low) (c.recordSaturates status high low)) (c.tensionOfRecord status high low)
        (s.station i).lcc := by
      have becomes := sampleStored_becomes (s.holdRecord i (sampleRecord status high low)) i
        (c.tensionOfRecord status high low) (c.recordSaturates status high low)
      rw [holds] at becomes
      have station := becomes.station
      have dhu : ((sampleStored (s.holdRecord i (sampleRecord status high low)) i (c.tensionOfRecord status high low)
          (c.recordSaturates status high low)).station i).dhu = (s.station i).dhu := by
        rw [sampleStored, State.dropHanded, State.station_modHanded_same, State.station_modMu_same, holds]
      have others (j : Station) (other : j ≠ i) : (sampleStored (s.holdRecord i (sampleRecord status high low)) i
          (c.tensionOfRecord status high low) (c.recordSaturates status high low)).station j = s.station j := by
        rw [sampleStored, State.dropHanded, State.station_modHanded_ne _ _ other, State.station_modMu_ne _ _ other,
          State.holdRecord, State.station_modMu_ne _ _ other]
      exact ⟨station.lcc, station.config, station.lpu, station.filters, by rw [station.mu], by rw [station.mu],
        by rw [station.mu], dhu, others, rfl, (holdRecord_becomes s i _).berth.trans becomes.berth⟩
    rw [sampleReported]
    split
    · exact stored.report
    · exact stored
  · rw [sampleReported]
    split <;> rfl

/-- Offering the sample to the counters leaves stations, arbiter and every pending report (R50, R200). -/
theorem sampleOccurrence_station (s : State) (i j : Station) (x : Nat) :
    (s.sampleOccurrence i x).station j = s.station j := by
  rw [(CountsOnly.sampleOccurrence s i x).eq]
  rfl

theorem sampleOccurrence_dsa (s : State) (i : Station) (x : Nat) : (s.sampleOccurrence i x).dsa = s.dsa := by
  rw [(CountsOnly.sampleOccurrence s i x).eq]

/-! ### The overload dose -/

section Dose

variable {s v : State} {i : Station} {x : Nat} {c : StationConfig} {e : ProfileNo}

theorem doseAfter_eq_grown (h : SampleAt i s v x (s.station i).lcc) (e : ProfileNo) :
    doseAfter (v.station i).lcc.dose (v.station i).mu.tension (thresholdInUse v (v.station i).lcc.current e)
      v.settings.leak = s.doseGrown i e x := by
  rw [h.lcc, h.tension, h.settings]
  cases current : (s.station i).lcc.current <;>
    simp only [current, thresholdInUse, h.profile, State.doseGrown, doseAfter, Config.doseMax]

theorem limitInUse_eq (h : SampleAt i s v x (s.station i).lcc) (e : ProfileNo) :
    limitInUse v (v.station i).lcc.current e = s.doseLimitFor i e := by
  rw [h.lcc]
  cases current : (s.station i).lcc.current <;> simp only [current, limitInUse, h.profile, State.doseLimitFor]

/-- The dose of the sample stored (R73, R74). -/
def State.dosed (s v : State) (i : Station) (e : ProfileNo) (x : Nat) : State :=
  v.modLcc i fun l => { l with dose := s.doseGrown i e x }

theorem doseWork_eq (h : SampleAt i s v x (s.station i).lcc) (e : ProfileNo) :
    doseWork v i e =
      if s.doseLimitFor i e ≤ s.doseGrown i e x then overloadEvent (s.dosed v i e x) i else s.dosed v i e x := by
  dsimp only [doseWork]
  rw [doseAfter_eq_grown h, limitInUse_eq h]
  rfl

/-- The context once an overload event has set the dose to 0 and latched OVERLOAD_HELD (R75). -/
def Lcc.overloaded (l : Lcc) : Lcc := { l with dose := 0, overloadHeld := true }

theorem latchOverload_at {l : Lcc} (h : SampleAt i s v x l) :
    SampleAt i s (latchOverload v i) x { l with overloadHeld := true } := by
  unfold latchOverload
  split
  · next already =>
    rw [h.lcc] at already
    have same : ({ l with overloadHeld := true } : Lcc) = l := by rw [← already]
    rwa [same]
  · exact (h.modLcc fun l => { l with overloadHeld := true }).report

/-- An overload event releases the line where auto-release is permitted and the latch is not OPEN (R75). -/
theorem autoRelease_iff {l : Lcc} (h : SampleAt i s v x l) (hc : (s.station i).config = some c) :
    ((v.station i).autoRelease && decide ((v.station i).latch ≠ .opened)) = true ↔
      c.autoRelease = true ∧ (s.station i).latch ≠ .opened := by
  simp [StationState.autoRelease, h.config, hc, h.latch]

/-- The dose work of a sample that leaves the line locked (R66, R74, R75). -/
theorem doseWork_locked (h : SampleAt i s v x (s.station i).lcc) (hc : (s.station i).config = some c)
    (locked : s.staysLocked i c e x) : SampleAt i s (doseWork v i e) x (s.lccDosed i e x) := by
  have dosed : SampleAt i s (s.dosed v i e x) x _ := h.modLcc fun l => { l with dose := s.doseGrown i e x }
  rw [doseWork_eq h, State.lccDosed]
  by_cases below : s.doseGrown i e x < s.doseLimitFor i e
  · rw [if_neg (by omega), if_pos below]
    exact dosed
  · rw [if_pos (by omega), if_neg below]
    have stays : ¬(c.autoRelease = true ∧ (s.station i).latch ≠ .opened) := by
      rintro ⟨permitted, notOpen⟩
      rcases locked with low | off | opened
      · exact below low
      · simp [permitted] at off
      · exact notOpen opened
    rw [overloadEvent, if_neg (mt (autoRelease_iff dosed hc).mp stays)]
    exact latchOverload_at ((dosed.modLcc fun l => { l with dose := 0 }).counted (CountsOnly.occurrence _ .overloadEvent i))

/-- The latching of OVERLOAD_HELD is reported (R76). -/
theorem mem_reports_doseWork (h : SampleAt i s v x (s.station i).lcc) (hc : (s.station i).config = some c)
    (event : s.doseLimitFor i e ≤ s.doseGrown i e x) (stays : ¬(c.autoRelease = true ∧ (s.station i).latch ≠ .opened))
    (free : (s.station i).lcc.overloadHeld = false) : ReportEntry.station i ∈ (doseWork v i e).link.reports := by
  have dosed : SampleAt i s (s.dosed v i e x) x _ := h.modLcc fun l => { l with dose := s.doseGrown i e x }
  have emptied := (dosed.modLcc fun l => { l with dose := 0 }).counted (CountsOnly.occurrence _ .overloadEvent i)
  rw [doseWork_eq h, if_pos event, overloadEvent, if_neg (mt (autoRelease_iff dosed hc).mp stays), latchOverload,
    if_neg (by rw [emptied.lcc]; simp [free])]
  exact mem_reports_reportStation _ i

end Dose

/-! ### A re-tension begun -/

/-- The entry of ADJUSTING at a sample, in the words of the statements (R6, R21, R69). -/
theorem enterAdjusting_adjusted {s w : State} {i : Station} {x : Nat} {l : Lcc} (h : SampleAt i s w x l) (dir : Dir)
    (cls : Nat) (e : ProfileNo) (reason : Reason) :
    (s.station i).Adjusted reason dir cls e (s.profile e) l x s.berthTime
      ((enterAdjusting w i dir cls e reason).station i) := by
  refine ⟨fun away => ?_, fun atEnd => ?_⟩
  · have becomes := enterAdjusting_becomes w i dir cls e reason (by
      cases dir
      · exact fun full => away (by rwa [h.count, h.cmax] at full)
      · exact fun zero => away (by rwa [h.count] at zero))
    rw [becomes.station.lcc, h.lcc, h.profile]
    rfl
  · have begun := adjustBegun_becomes w i dir cls e reason
    have atLimit : ((adjustBegun w i dir cls e reason).station i).atLimit = true := by
      rw [atLimit_of_same begun.station]
      cases dir
      · have full : (w.station i).mu.count = (w.station i).cmax := by rw [h.count, h.cmax]; exact atEnd
        simpa [StationState.adjusting, StationState.moved, StationState.atLimit, Lcc.moved, StationState.cmax] using full
      · have zero : (w.station i).mu.count = 0 := by rw [h.count]; exact atEnd
        simpa [StationState.adjusting, StationState.moved, StationState.atLimit, Lcc.moved, StationState.cmax] using zero
    rw [enterAdjusting_eq, limitTest, if_pos atLimit]
    have station := begun.station
    have berthTime := begun.berth.berthTime
    generalize adjustBegun w i dir cls e reason = u at *
    have state : (u.station i).lcc.lineState = .adjusting := by rw [station.lcc]; rfl
    have good : (u.station i).mu.lost = false := by rw [station.mu]; exact h.good
    obtain ⟨handed, entered⟩ := detect_leaves (s := u) (i := i) (by simp [state]) (by simp [state]) .drumLimit
    rw [entered.station.lcc]
    dsimp only [StationState.inFault]
    rw [StationState.lccFaulted_of_good good, state, berthTime, h.berth.berthTime]
    refine StationState.lccInFault_congr (by rw [station.lcc, ← h.lcc]; rfl) (by rw [station.mu]; exact h.tension)
      (by rw [station.mu]; exact h.count) ((latch_of_same station).trans ?_) _ _ _
    exact h.latch

/-! ### The tests of the states -/

section Tests

variable {s w : State} {i : Station} {x : Nat} {l : Lcc}

/-- Regulation in HOLDING in the words of the statement (Table 3-4). -/
theorem regulateHolding_cases (h : SampleAt i s w x l) (e : ProfileNo) :
    regulateHolding w i e =
      if (s.profile e).high < x then enterAdjusting w i .outward 0 e .bandHigh
      else if x < (s.profile e).low then enterAdjusting w i .inward 1 e .bandLow
      else if l.current = some e then w
      else if (s.profile e).windowLow ≤ x ∧ x ≤ (s.profile e).windowHigh then setCurrent w i e
      else if (s.profile e).windowHigh < x then enterAdjusting w i .outward 1 e .profileChange
      else enterAdjusting w i .inward 1 e .profileChange := by
  dsimp only [regulateHolding]
  simp only [h.lcc, h.tension, h.profile, Profile.inWindow, Bool.and_eq_true, decide_eq_true_eq]
  rfl

theorem setCurrent_at (h : SampleAt i s w x l) (e : ProfileNo) :
    SampleAt i s (setCurrent w i e) x { l with current := some e } :=
  (h.modLcc fun l => { l with current := some e }).report

/-- HOLDING entered with this current profile (R19, R64, R70). -/
theorem settles_lcc (h : SampleAt i s w x l) (e : ProfileNo) (reason : Reason) :
    ((enterHolding (setCurrent w i e) i reason).station i).lcc = { l.between .holding reason with current := some e } ∧
      ReportEntry.station i ∈ (enterHolding (setCurrent w i e) i reason).link.reports := by
  have becomes := enterHolding_becomes (setCurrent w i e) i reason
  refine ⟨?_, mem_reports_changeState _ i .holding reason⟩
  rw [becomes.station.lcc, StationState.moved, (setCurrent_at h e).lcc]
  rfl

/-- A run continued (R71, R72): the aim profile and the speed follow the effective profile, the arbiter stands. -/
theorem continueRun_leaves (h : SampleAt i s w x l) (e : ProfileNo) :
    ((continueRun w i e).station i).lcc = { l with
        aimProfile := some e
        need := l.need.map fun need => { need with speed := (s.profile e).adjustSpeed } } ∧
      (continueRun w i e).dsa = s.dsa := by
  have aimed := h.modLcc fun l => { l with aimProfile := some e }
  refine ⟨?_, ?_⟩
  · have becomes := ((StationBecomes.refl i w).modLcc (fun l => { l with aimProfile := some e })).changeSpeed
      (w.profile e).adjustSpeed
    refine becomes.station.lcc.trans ?_
    simp only [h.lcc, h.profile]
  · exact aimed.dsa

/-- The tests of ADJUSTING in an outward run (Table 3-5). -/
theorem testAdjusting_outward (h : SampleAt i s w x l) (e : ProfileNo) (runs : l.adjustDir = some .outward) :
    testAdjusting w i e =
      if (s.profile e).windowHigh < x then continueRun w i e
      else if l.aimProfile = some e ∨ ((s.profile e).windowLow ≤ x ∧ x ≤ (s.profile e).windowHigh) then
        settleRetension w i e
      else enterAdjusting w i .inward 1 e .profileChange := by
  dsimp only [testAdjusting]
  simp only [h.lcc, runs, h.tension, h.profile, Profile.inWindow, Bool.or_eq_true, Bool.and_eq_true, decide_eq_true_eq]
  rfl

/-- The tests of ADJUSTING in an inward run (Table 3-5). -/
theorem testAdjusting_inward (h : SampleAt i s w x l) (e : ProfileNo) (runs : l.adjustDir = some .inward) :
    testAdjusting w i e =
      if x < (s.profile e).windowLow then continueRun w i e
      else if l.aimProfile = some e ∨ ((s.profile e).windowLow ≤ x ∧ x ≤ (s.profile e).windowHigh) then
        settleRetension w i e
      else enterAdjusting w i .outward (if (s.profile e).high < x then 0 else 1) e .profileChange := by
  dsimp only [testAdjusting]
  simp only [h.lcc, runs, h.tension, h.profile, Profile.inWindow, Bool.or_eq_true, Bool.and_eq_true, decide_eq_true_eq]
  rfl

theorem testTakeup_eq (h : SampleAt i s w x l) (e : ProfileNo) :
    testTakeup w i e =
      if (s.profile e).windowLow ≤ x then enterHolding (setCurrent w i e) i .takeupDone else w := by
  rw [testTakeup, h.profile, h.tension]
  rfl

end Tests

/-! ### The whole work of the LCC at a sample -/

section Work

variable {s v : State} {i : Station} {x : Nat} {c : StationConfig} {e : ProfileNo}

theorem lccDosed_lineState (s : State) (i : Station) (e : ProfileNo) (x : Nat) :
    (s.lccDosed i e x).lineState = (s.station i).lcc.lineState := by
  rw [State.lccDosed]
  split <;> rfl

/-- At a tensioned station the dose work comes first, and the test of the state follows if the state stands (R66). -/
theorem lccSample_tensioned (h : SampleAt i s v x (s.station i).lcc) (effective : (s.station i).lcc.effective = some e)
    (tensioned : (s.station i).tensioned = true) :
    lccSample v i =
      if ((doseWork v i e).station i).lcc.lineState = (s.station i).lcc.lineState then stateTest (doseWork v i e) i e
      else doseWork v i e := by
  have same : (v.station i).tensioned = true := by rw [StationState.tensioned, h.lcc, h.latch]; exact tensioned
  unfold lccSample
  dsimp only
  split
  · next rewinding =>
    rw [h.lcc] at rewinding
    simp [StationState.tensioned, rewinding, LineState.isTensioned] at tensioned
  · simp only [same, h.lcc, effective]

/-- A sample that leaves the line locked goes on to the test of the state (R66). -/
theorem lccSample_locked (h : SampleAt i s v x (s.station i).lcc) (hc : (s.station i).config = some c)
    (effective : (s.station i).lcc.effective = some e) (tensioned : (s.station i).tensioned = true)
    (locked : s.staysLocked i c e x) : lccSample v i = stateTest (doseWork v i e) i e := by
  rw [lccSample_tensioned h effective tensioned, if_pos]
  rw [(doseWork_locked h hc locked).lcc, lccDosed_lineState]

/-- A sample at a station in service with its record held: the LCC's work, then the counters (R50, R66). -/
theorem exec_sample_effects {s : State} {i : Station} {c : StationConfig} {status high low : Byte} {P : State → Prop}
    (serving : (s.station i).lcc.lineState ≠ .offline) (hc : (s.station i).config = some c)
    (held : (s.station i).mu.sampleHeld = []) (ok : status.toNat ≤ 1)
    (effects : ∀ v, SampleAt i s v (c.tensionOfRecord status high low) (s.station i).lcc →
      P ((lccSample v i).sampleOccurrence i (c.tensionOfRecord status high low))) :
    ∃ t, exec (.sampleRecordReceived i [status, high, low, status ^^^ high ^^^ low]) s = .next t ∧ P t := by
  obtain ⟨v, sampled, -, runs⟩ := exec_sample (high := high) (low := low) serving hc held ok
  exact ⟨_, runs, effects v sampled⟩

end Work

/-- Settles O34: the dose work leaves the line locked, and regulation decides by the tension and the current profile. -/
theorem holdingDecisions : Obligations.HoldingDecisions := by
  unfold Obligations.HoldingDecisions
  intro s i c e status high low x state hc effective held ok rfl locked
  refine exec_sample_effects (by simp [state]) hc held ok fun v sampled => ?_
  have dosed := doseWork_locked sampled hc locked
  have regulates : lccSample v i = regulateHolding (doseWork v i e) i e := by
    rw [lccSample_locked sampled hc effective (by simp [StationState.tensioned, state, LineState.isTensioned]) locked, stateTest,
      dosed.lcc, lccDosed_lineState, state]
  have current : (s.lccDosed i e (c.tensionOfRecord status high low)).current = (s.station i).lcc.current := by
    rw [State.lccDosed]
    split <;> rfl
  simp only [sampleOccurrence_station, regulates, regulateHolding_cases dosed, current]
  generalize c.tensionOfRecord status high low = x at *
  have adjusted := enterAdjusting_adjusted dosed
  refine ⟨fun above => ?_, fun below notAbove => ?_,
    fun low high => ⟨fun same => ?_, fun other => ⟨fun wl wh => ?_, fun wh => ?_, fun wl notAbove => ?_⟩⟩⟩
  · rw [if_pos above]
    exact adjusted _ _ _ _
  · rw [if_neg notAbove, if_pos below]
    exact adjusted _ _ _ _
  · rw [if_neg (by omega), if_neg (by omega), if_pos same]
    exact dosed.lcc
  · rw [if_neg (by omega), if_neg (by omega), if_neg other, if_pos ⟨wl, wh⟩]
    refine ⟨(setCurrent_at dosed e).lcc, ?_⟩
    exact reports_subset_sampleOccurrence _ i x (mem_reports_reportStation _ i)
  · rw [if_neg (by omega), if_neg (by omega), if_neg other, if_neg (by omega), if_pos wh]
    exact adjusted _ _ _ _
  · rw [if_neg (by omega), if_neg (by omega), if_neg other, if_neg (by omega), if_neg (by omega)]
    exact adjusted _ _ _ _

/-- Settles O35: the dose work leaves the line locked, and the tests of ADJUSTING decide by the direction of the run. -/
theorem adjustingTests : Obligations.AdjustingTests := by
  unfold Obligations.AdjustingTests
  intro s i c e dir need status high low x state runs needs hc effective held ok rfl locked
  refine exec_sample_effects (by simp [state]) hc held ok fun v sampled => ?_
  have dosed := doseWork_locked sampled hc locked
  have tests : lccSample v i = testAdjusting (doseWork v i e) i e := by
    rw [lccSample_locked sampled hc effective (by simp [StationState.tensioned, state, LineState.isTensioned]) locked, stateTest,
      dosed.lcc, lccDosed_lineState, state]
  generalize c.tensionOfRecord status high low = x at *
  have kept : (s.lccDosed i e x).adjustDir = (s.station i).lcc.adjustDir ∧
      (s.lccDosed i e x).aimProfile = (s.station i).lcc.aimProfile ∧ (s.lccDosed i e x).need = (s.station i).lcc.need := by
    rw [State.lccDosed]
    split <;> exact ⟨rfl, rfl, rfl⟩
  obtain ⟨direction, aim, same⟩ := kept
  rw [runs] at direction
  rw [needs] at same
  have adjusted := enterAdjusting_adjusted dosed
  obtain ⟨settled, reported⟩ := settles_lcc dosed e .settled
  have continued := continueRun_leaves dosed e
  rw [same, Option.map_some] at continued
  simp only [sampleOccurrence_station, sampleOccurrence_dsa, tests]
  rw [← aim]
  cases dir with
  | outward =>
    rw [testAdjusting_outward dosed e direction]
    refine ⟨fun goesOn => ?_, fun ends => ?_⟩
    · rw [if_pos (by simpa using goesOn)]
      exact continued
    have within : ¬(s.profile e).windowHigh < x := by simpa using ends
    rw [if_neg within]
    refine ⟨fun completes => ?_, fun otherAim _ below => ?_, fun _ other => absurd other (by simp)⟩
    · rw [if_pos completes]
      exact ⟨settled, reports_subset_sampleOccurrence _ i x reported⟩
    · rw [if_neg (not_or.mpr ⟨otherAim, fun window => by omega⟩)]
      exact adjusted _ _ _ _
  | inward =>
    rw [testAdjusting_inward dosed e direction]
    refine ⟨fun goesOn => ?_, fun ends => ?_⟩
    · rw [if_pos (by simpa using goesOn)]
      exact continued
    have within : ¬x < (s.profile e).windowLow := by simpa using ends
    rw [if_neg within]
    refine ⟨fun completes => ?_, fun _ other => absurd other (by simp), fun otherAim _ above => ?_⟩
    · rw [if_pos completes]
      exact ⟨settled, reports_subset_sampleOccurrence _ i x reported⟩
    · rw [if_neg (not_or.mpr ⟨otherAim, fun window => by omega⟩)]
      exact adjusted _ _ _ _

/-- Settles O36: take-up completion follows the dose work; the snag test compares the tension with the rewind limit. -/
theorem takeupAndSnagTests : Obligations.TakeupAndSnagTests := by
  unfold Obligations.TakeupAndSnagTests
  intro s i c e status high low x hc effective held ok rfl
  by_cases serving : (s.station i).lcc.lineState = .offline
  · exact ⟨_, rfl, fun state => absurd (serving.symm.trans state) (by simp),
      fun state => absurd (serving.symm.trans state) (by simp)⟩
  refine exec_sample_effects serving hc held ok fun v sampled => ?_
  generalize c.tensionOfRecord status high low = x at *
  simp only [sampleOccurrence_station]
  refine ⟨fun state locked => ?_, fun state => ?_⟩
  · have dosed := doseWork_locked sampled hc locked
    have tests : lccSample v i = testTakeup (doseWork v i e) i e := by
      rw [lccSample_locked sampled hc effective (by simp [StationState.tensioned, state, LineState.isTensioned]) locked,
        stateTest, dosed.lcc, lccDosed_lineState, state]
    obtain ⟨settled, reported⟩ := settles_lcc dosed e .takeupDone
    rw [tests, testTakeup_eq dosed]
    refine ⟨fun reached => ?_, fun below => ?_⟩
    · rw [if_pos reached]
      exact ⟨settled, reports_subset_sampleOccurrence _ i x reported⟩
    · rw [if_neg (not_le.mpr below)]
      exact dosed.lcc
  · have snags : lccSample v i = if s.settings.rewindTensionLimit < x then detect v i .lineSnag else v := by
      simp only [lccSample, sampled.lcc, state, sampled.settings, sampled.tension]
    rw [snags]
    refine ⟨fun above => ?_, fun within => ?_⟩
    · have rewinding : (v.station i).lcc.lineState = .rewinding := by rw [sampled.lcc, state]
      obtain ⟨handed, entered⟩ := detect_leaves (s := v) (i := i) (by simp [rewinding]) (by simp [rewinding]) .lineSnag
      rw [if_pos above, entered.station.lcc]
      dsimp only [StationState.inFault]
      rw [StationState.lccFaulted_of_good sampled.good, rewinding, sampled.berth.berthTime]
      refine ⟨rfl, rfl, congrArg some (StationState.recordOf_congr ?_ ?_ ?_ _ _ _)⟩
      exacts [by rw [sampled.lcc], sampled.tension, sampled.count]
    · rw [if_neg (not_lt.mpr within)]
      exact sampled.lcc

/-! ### The dose after the whole sample -/

/-- The context `r` holds the dose work of `l`, unless its station is in FAULT with the latch not CLOSED (R4). -/
def StationState.DoseStands (a : StationState) (l r : Lcc) : Prop :=
  (¬(r.lineState = .fault ∧ a.latch ≠ .closed) → r.dose = l.dose ∧ r.overloadHeld = l.overloadHeld) ∧
  (r.lineState = .fault → a.latch ≠ .closed → r.dose = 0 ∧ r.overloadHeld = false)

section DoseStands

variable {s v w : State} {i : Station} {x : Nat} {l : Lcc}

theorem StationState.DoseStands.of_tensioned {a : StationState} {r : Lcc} (dose : r.dose = l.dose)
    (held : r.overloadHeld = l.overloadHeld) (tensioned : r.lineState = .fault → a.latch = .closed) :
    a.DoseStands l r :=
  ⟨fun _ => ⟨dose, held⟩, fun fault notClosed => absurd (tensioned fault) notClosed⟩

theorem StationState.Adjusted.doseStands {a b : StationState} {reason : Reason} {dir : Dir} {cls : Nat} {e : ProfileNo}
    {p : Profile} {berthTime : Count32} (h : a.Adjusted reason dir cls e p l x berthTime b) : a.DoseStands l b.lcc := by
  obtain ⟨runs, faults⟩ := h
  by_cases atEnd : a.atEnd dir
  · have latch : StationState.latch { a with lcc := l, mu := { a.mu with tension := x } } = a.latch := rfl
    rw [faults atEnd, StationState.lccInFault]
    refine ⟨fun tensioned => ?_, fun _ notClosed => ?_⟩
    · have closed : a.latch = .closed := by simpa [Lcc.between] using tensioned
      simp [latch, closed]
    · simp [latch, notClosed]
  · rw [runs atEnd]
    exact .of_tensioned rfl rfl fun fault => by simp [Lcc.adjusts, Lcc.between] at fault

/-- The test of the state keeps the dose and OVERLOAD_HELD, but for a FAULT with the latch not CLOSED (R4, R66). -/
theorem stateTest_doseStands (h : SampleAt i s w x l) (e : ProfileNo)
    (tensioned : l.lineState = .fault → (s.station i).latch = .closed) :
    (s.station i).DoseStands l ((stateTest w i e).station i).lcc := by
  have stands : (s.station i).DoseStands l (w.station i).lcc := by
    rw [h.lcc]
    exact .of_tensioned rfl rfl tensioned
  have settled (reason : Reason) :
      (s.station i).DoseStands l ((enterHolding (setCurrent w i e) i reason).station i).lcc := by
    rw [(settles_lcc h e reason).1]
    exact .of_tensioned rfl rfl fun fault => by simp [Lcc.between] at fault
  have adjusted (dir : Dir) (cls : Nat) (reason : Reason) :
      (s.station i).DoseStands l ((enterAdjusting w i dir cls e reason).station i).lcc :=
    (enterAdjusting_adjusted h dir cls e reason).doseStands
  have current : (s.station i).DoseStands l ((setCurrent w i e).station i).lcc := by
    rw [(setCurrent_at h e).lcc]
    exact .of_tensioned rfl rfl tensioned
  have continued : (s.station i).DoseStands l ((continueRun w i e).station i).lcc := by
    rw [(continueRun_leaves h e).1]
    exact .of_tensioned rfl rfl tensioned
  rw [stateTest, h.lcc]
  split
  · rw [testTakeup_eq h]
    split_ifs
    exacts [settled _, stands]
  · rw [regulateHolding_cases h]
    split_ifs
    exacts [adjusted _ _ _, adjusted _ _ _, stands, current, adjusted _ _ _, adjusted _ _ _]
  · cases runs : l.adjustDir with
    | none =>
      have rests : testAdjusting w i e = w := by simp only [testAdjusting, h.lcc, runs]
      rw [rests]
      exact stands
    | some dir =>
      cases dir with
      | outward =>
        rw [testAdjusting_outward h e runs]
        split_ifs
        exacts [continued, settled _, adjusted _ _ _]
      | inward =>
        rw [testAdjusting_inward h e runs]
        generalize (if (s.profile e).high < x then 0 else 1) = cls
        split_ifs
        exacts [continued, settled _, adjusted _ _ _]
  · exact stands

end DoseStands

/-- An overload event that releases the line (R75): RELEASING with its release sequence asked, in the words of the statement. -/
theorem doseWork_releases {s v : State} {i : Station} {x : Nat} {c : StationConfig} {e : ProfileNo}
    (h : SampleAt i s v x (s.station i).lcc) (hc : (s.station i).config = some c)
    (event : s.doseLimitFor i e ≤ s.doseGrown i e x) (permitted : c.autoRelease = true)
    (notOpen : (s.station i).latch ≠ .opened) :
    ((doseWork v i e).station i).lcc =
        { ((s.station i).lcc.between .releasing .overloadRelease).slack with rewindFlag := some true } ∧
      ((doseWork v i e).station i).lpu = (s.station i).lpu.asked .release .release s.settings.retries
        s.settings.releaseDelay s.settings.releaseWidth s.settings.releaseConfirmTimeout ∧
      ReportEntry.station i ∈ (doseWork v i e).link.reports := by
  have dosed : SampleAt i s (s.dosed v i e x) x _ := h.modLcc fun l => { l with dose := s.doseGrown i e x }
  have emptied := (dosed.modLcc fun l => { l with dose := 0 }).counted (CountsOnly.occurrence _ .overloadEvent i)
  rw [doseWork_eq h, if_pos event, overloadEvent, if_pos ((autoRelease_iff dosed hc).mpr ⟨permitted, notOpen⟩)]
  generalize ((s.dosed v i e x).modLcc i fun l => { l with dose := 0 }).occurrence .overloadEvent i = u at *
  rw [enterReleasing_waits emptied.good fun atOnce => notOpen (by rw [← emptied.latch]; exact atOnce.1)]
  have asked := (releaseAsked_becomes u i .overloadRelease true).station
  refine ⟨?_, ?_, mem_reports_sequenceAsked _ i .releasing .overloadRelease .release⟩
  · rw [asked.lcc, emptied.lcc]
    rfl
  · rw [asked.lpu, emptied.lpu, emptied.settings]

/-- Settles O33: the dose work decides by the limit in use, and the test of the state that follows keeps what it left, but
for a FAULT with the latch not CLOSED. -/
theorem doseAtSample : Obligations.DoseAtSample := by
  unfold Obligations.DoseAtSample
  intro s i c e status high low state hc effective held ok
  have tensioned : (s.station i).tensioned = true := by
    rcases state with listed | ⟨fault, closed⟩
    · simp only [List.mem_cons, List.not_mem_nil, or_false] at listed
      rcases listed with h | h | h <;> simp [StationState.tensioned, h, LineState.isTensioned]
    · simp [StationState.tensioned, fault, closed, LineState.isTensioned]
  have closedInFault : (s.station i).lcc.lineState = .fault → (s.station i).latch = .closed := by
    intro fault
    simpa [StationState.tensioned, fault, LineState.isTensioned] using tensioned
  have serving : (s.station i).lcc.lineState ≠ .offline := by
    intro offline
    simp [StationState.tensioned, offline, LineState.isTensioned] at tensioned
  refine exec_sample_effects serving hc held ok fun v sampled => ?_
  generalize c.tensionOfRecord status high low = x at *
  simp only [sampleOccurrence_station]
  have locked (stays : s.staysLocked i c e x) :
      (s.station i).DoseStands (s.lccDosed i e x) ((lccSample v i).station i).lcc := by
    rw [lccSample_locked sampled hc effective tensioned stays]
    exact stateTest_doseStands (doseWork_locked sampled hc stays) e (by rw [lccDosed_lineState]; exact closedInFault)
  refine ⟨fun below => ?_, fun event => ?_⟩
  · have stands := locked (.inl below)
    rw [State.lccDosed, if_pos below] at stands
    exact stands
  by_cases releases : c.autoRelease = true ∧ (s.station i).latch ≠ .opened
  · obtain ⟨permitted, notOpen⟩ := releases
    obtain ⟨released, asked, reported⟩ := doseWork_releases sampled hc event permitted notOpen
    have ends : lccSample v i = doseWork v i e := by
      rw [lccSample_tensioned sampled effective tensioned, if_neg]
      rw [released]
      intro same
      replace same : LineState.releasing = (s.station i).lcc.lineState := same
      simp [StationState.tensioned, ← same, LineState.isTensioned] at tensioned
    rw [ends]
    refine ⟨by rw [released]; rfl, fun _ _ => ⟨released, asked, reports_subset_sampleOccurrence _ i x reported⟩, ?_⟩
    rintro (off | opened)
    · simp [permitted] at off
    · exact absurd opened notOpen
  · have stays : s.staysLocked i c e x := by
      cases off : c.autoRelease
      · exact .inr (.inl off)
      · exact .inr (.inr (by simpa [off] using releases))
    obtain ⟨kept, faulted⟩ := locked stays
    rw [State.lccDosed, if_neg (not_lt.mpr event)] at kept
    refine ⟨?_, fun permitted notOpen => absurd ⟨permitted, notOpen⟩ releases, fun _ => ⟨?_, fun free => ?_⟩⟩
    · by_cases loose : ((lccSample v i).station i).lcc.lineState = .fault ∧ (s.station i).latch ≠ .closed
      · exact (faulted loose.1 loose.2).1
      · exact (kept loose).1
    · by_cases loose : ((lccSample v i).station i).lcc.lineState = .fault ∧ (s.station i).latch ≠ .closed
      · rw [(faulted loose.1 loose.2).2, decide_eq_false (not_not.mpr loose)]
      · rw [(kept loose).2, decide_eq_true loose]
    · apply reports_subset_sampleOccurrence
      rw [lccSample_locked sampled hc effective tensioned stays]
      exact (LccWork.stateTest _ i e).reports (mem_reports_doseWork sampled hc event releases free)

end Sys2Proof.Machine

/-!
PROOF. Detections at an event of a station: what one leaves, the sample timeout (O37) and the limits that a cycle reaches (O39;
R6, R13, R19, R21, R27, R51, R52).
-/
namespace Sys2Proof.Machine

/-! ### A detection -/

section Detect

variable {s : State} {i : Station}

/-- A detection at a station in service is an event taken there, its STATION report pending (R2, R30, R137). -/
theorem detect_moved (serving : (s.station i).lcc.lineState ≠ .offline) (kind : FaultKind) :
    StationMoved i s (detect s i kind) := by
  by_cases fault : (s.station i).lcc.lineState = .fault
  · have further := addFurther_becomes s i kind
    rw [detect_fault s i kind fault]
    exact ⟨further.keptBeside, further.link, mem_reports_reportStation _ i⟩
  · obtain ⟨handed, entered⟩ := enterFault_leaves s i kind
    rw [detect_enters s i kind serving fault]
    exact ⟨entered.keptBeside, entered.link, mem_reports_enterFault s i kind⟩

/-- Outside FAULT a detection brings the context of FAULT (R29). -/
theorem detect_lcc_outside (serving : (s.station i).lcc.lineState ≠ .offline)
    (outside : (s.station i).lcc.lineState ≠ .fault) (kind : FaultKind) :
    ((detect s i kind).station i).lcc = (s.station i).lccFaulted kind (s.station i).lcc.lineState s.berthTime := by
  obtain ⟨handed, entered⟩ := detect_leaves serving outside kind
  exact entered.station.lcc

/-- With a good stream that context is the one of the statements (R29). -/
theorem detect_lcc_good (serving : (s.station i).lcc.lineState ≠ .offline)
    (outside : (s.station i).lcc.lineState ≠ .fault) (good : (s.station i).mu.lost = false) (kind : FaultKind) :
    ((detect s i kind).station i).lcc = (s.station i).lccInFault kind (s.station i).lcc.lineState s.berthTime := by
  rw [detect_lcc_outside serving outside, StationState.lccFaulted_of_good good]

/-- In FAULT a detection adds its kind to the further ones (R30, R140). -/
theorem detect_lcc_fault (fault : (s.station i).lcc.lineState = .fault) (kind : FaultKind) :
    ((detect s i kind).station i).lcc = { (s.station i).lcc with
      fault := (s.station i).lcc.fault.map fun r => { r with further := r.further ||| (1 <<< kind.code) } } := by
  rw [detect_fault s i kind fault, (addFurther_becomes s i kind).station.lcc]
  rfl

end Detect

/-- An event taken after a change of the station alone is taken from before it. -/
theorem StationMoved.after {i : Station} {s t u : State} {a : StationState} (h : StationBecomes i s t a)
    (moved : StationMoved i t u) : StationMoved i s u :=
  ⟨h.keptBeside.trans moved.beside, h.link.trans moved.link, moved.report⟩

/-! ### The sample timeout -/

/-- The sample-lost condition has begun, before the LCC hears of it (R51; log 29). -/
def State.streamLost (s : State) (i : Station) : State :=
  (s.modMu i fun m => { m with lost := true }).dropHanded i .sensorLost

theorem streamLost_station (s : State) (i : Station) :
    (s.streamLost i).station i = { s.station i with
      mu := { (s.station i).mu with lost := true }
      handed := (s.station i).handed.filter fun k => !decide (k = .sensorLost) } := by
  rw [State.streamLost, State.dropHanded, State.station_modHanded_same, State.station_modMu_same]

theorem streamLost_becomes (s : State) (i : Station) :
    StationBecomes i s (s.streamLost i) { s.station i with
      mu := { (s.station i).mu with lost := true }
      handed := (s.station i).handed.filter fun k => !decide (k = .sensorLost) } :=
  ((StationBecomes.refl i s).modMu _ fun _ _ => rfl).modHanded _

theorem loseStream_eq (s : State) (i : Station) :
    loseStream s i =
      if (s.station i).lossDetected then detect (s.streamLost i) i .sensorLost
      else (s.streamLost i).reportStation i := rfl

/-- The loss of the stream leaves the count, the tension and the flag that it sets (R51). -/
theorem loseStream_mu (s : State) (i : Station) :
    ((loseStream s i).station i).mu.lost = true ∧
      ((loseStream s i).station i).mu.tension = (s.station i).mu.tension ∧
      ((loseStream s i).station i).mu.count = (s.station i).mu.count := by
  have lost := streamLost_station s i
  have work : LccWork i (s.streamLost i) (loseStream s i) := by
    rw [loseStream_eq]
    exact (LccWork.detect _ i _).ite (LccWork.reportStation _ i i)
  rw [work.mu, lost]
  exact ⟨rfl, rfl, rfl⟩

theorem loseStream_moved (s : State) (i : Station) (serving : (s.station i).lcc.lineState ≠ .offline) :
    StationMoved i s (loseStream s i) := by
  have begun := streamLost_becomes s i
  rw [loseStream_eq]
  split
  · exact (detect_moved (by rw [streamLost_station]; exact serving) _).after begun
  · have reported := begun.reportStation i
    exact ⟨reported.keptBeside, reported.link, mem_reports_reportStation _ i⟩

/-- Settles O37: the loss is a detection in a state where a lost stream is a fault, and an alarm condition elsewhere. -/
theorem sampleTimeoutActs : Obligations.SampleTimeoutActs := by
  unfold Obligations.SampleTimeoutActs
  intro s i serving good aged
  have due : s.sampleDue i = true := by simp [State.sampleDue, State.inService, Mu.lossDue, serving, good, aged]
  have runs : exec (.sampleTimeout i) s = .next (loseStream s i) := congrArg Host.Outcome.next (if_pos due)
  have station := streamLost_station s i
  refine ⟨_, runs, loseStream_moved s i serving, (loseStream_mu s i).1, (loseStream_mu s i).2.1, (loseStream_mu s i).2.2,
    fun listed => ?_, fun fault found => ?_, fun elsewhere => ?_⟩
  · simp only [List.mem_cons, List.not_mem_nil, or_false] at listed
    have detected : (s.station i).lossDetected = true := by
      rcases listed with h | h | h | h | h | h <;>
        simp [StationState.lossDetected, StationState.lostIsFault, LineState.lostIsFault, LineState.isTensioned, h]
    have outside : (s.station i).lcc.lineState ≠ .fault := by rcases listed with h | h | h | h | h | h <;> simp [h]
    rw [loseStream_eq, if_pos detected,
      detect_lcc_outside (by rw [station]; exact serving) (by rw [station]; exact outside),
      StationState.lccFaulted_of_lost (by rw [station]), station]
    rfl
  · have detected : (s.station i).lossDetected = true := by
      rcases found with closed | handed
      · simp [StationState.lossDetected, StationState.lostIsFault, LineState.lostIsFault, LineState.isTensioned, fault, closed]
      · simp [StationState.lossDetected, fault, handed]
    rw [loseStream_eq, if_pos detected, detect_lcc_fault (by rw [station]; exact fault), station]
    rfl
  · have undetected : (s.station i).lossDetected = false := by
      simp only [List.mem_cons, List.not_mem_nil, or_false] at elsewhere
      rcases elsewhere with untensioned | ⟨h, notClosed, notHanded⟩
      · rcases untensioned with h | h | h | h <;>
          simp [StationState.lossDetected, StationState.lostIsFault, LineState.lostIsFault, LineState.isTensioned, h]
      · simp [StationState.lossDetected, StationState.lostIsFault, LineState.lostIsFault, LineState.isTensioned, h, notClosed,
          notHanded]
    rw [loseStream_eq, if_neg (by simp [undetected])]
    refine ⟨?_, rfl⟩
    rw [((streamLost_becomes s i).reportStation i).station.lcc]

/-! ### A cycle that the count takes -/

/-- In `u` a cycle has moved the encoder of station `i` and left this count; arbiter and berth stand. -/
structure CycleTaken (i : Station) (s u : State) (count : Nat) : Prop where
  station : ∃ quarter accumulator, u.station i = { s.station i with
    mu := { (s.station i).mu with quarter := quarter, accumulator := accumulator, count := count } }
  dsa : u.dsa = s.dsa
  berth : BerthKept s u

section Cycle

variable {s u : State} {i : Station} {count : Nat} {c : StationConfig}

theorem CycleTaken.lcc (h : CycleTaken i s u count) : (u.station i).lcc = (s.station i).lcc := by
  obtain ⟨_, _, station⟩ := h.station
  rw [station]

theorem CycleTaken.count_eq (h : CycleTaken i s u count) : (u.station i).mu.count = count := by
  obtain ⟨_, _, station⟩ := h.station
  rw [station]

theorem CycleTaken.config (h : CycleTaken i s u count) : (u.station i).config = (s.station i).config := by
  obtain ⟨_, _, station⟩ := h.station
  rw [station]

theorem CycleTaken.settings (h : CycleTaken i s u count) : u.settings = s.settings :=
  congrArg BerthSettings.config h.berth.berth

theorem CycleTaken.cmax (h : CycleTaken i s u count) (hc : (s.station i).config = some c) :
    (u.station i).cmax = c.cmax := by
  simp only [StationState.cmax, h.config, hc]

theorem CycleTaken.lengthAt (h : CycleTaken i s u count) (hc : (s.station i).config = some c) (n : Nat) :
    (u.station i).lengthAt n = lengthOf c.countsPerRev c.layers n := by
  simp only [StationState.lengthAt, h.config, hc]

/-- A detection at the cycle, in the words of the statement (R29). -/
theorem CycleTaken.detected (h : CycleTaken i s u count) (good : (s.station i).mu.lost = false)
    (serving : (s.station i).lcc.lineState ≠ .offline) (outside : (s.station i).lcc.lineState ≠ .fault)
    (kind : FaultKind) :
    ((detect u i kind).station i).lcc = StationState.lccInFault
      { s.station i with mu := { (s.station i).mu with count := count } } kind (s.station i).lcc.lineState s.berthTime := by
  obtain ⟨_, _, station⟩ := h.station
  rw [detect_lcc_good (by rw [h.lcc]; exact serving) (by rw [h.lcc]; exact outside) (by rw [station]; exact good),
    station, h.berth.berthTime]
  rfl

/-- An outward cycle below Cmax is counted and handed to the LCC (R37, R38). -/
theorem outward_taken (hc : (s.station i).config = some c) (serving : (s.station i).lcc.lineState ≠ .offline)
    (unstowed : (s.station i).lcc.lineState ≠ .stowed) (quarter : (s.station i).mu.quarter = .q3)
    (room : (s.station i).mu.count < c.cmax) :
    ∃ u, CycleTaken i s u ((s.station i).mu.count + 1) ∧ exec (.encoderEdge i false false) s = .next (countChanged u i) := by
  have moved := atQuarter_station s i .q0
  have below : ¬((s.atQuarter i .q0).station i).cmax ≤ ((s.atQuarter i .q0).station i).mu.count := by
    rw [moved]
    simpa [StationState.cmax, hc] using room
  have runs : outwardCycle (s.atQuarter i .q0) i =
      countChanged (((s.atQuarter i .q0).modMu i fun m => { m with accumulator := m.accumulator + 1 }).modMu i
        fun m => { m with count := m.count + 1 }) i := by
    dsimp only [outwardCycle]
    rw [if_neg (by rw [moved]; exact unstowed), if_neg below]
  refine ⟨((s.atQuarter i .q0).modMu i fun m => { m with accumulator := m.accumulator + 1 }).modMu i
    fun m => { m with count := m.count + 1 }, ⟨⟨.q0, (s.station i).mu.accumulator + 1, ?_⟩, rfl, ?_⟩, ?_⟩
  · rw [State.station_modMu_same, State.station_modMu_same, moved]
  · exact ⟨rfl, rfl, rfl, rfl, rfl, rfl, fun _ => rfl, rfl, rfl, rfl, rfl, rfl⟩
  · rw [exec_encoderEdge, encoderMoves_outward serving quarter, runs]

/-- An inward cycle above 0 is counted and handed to the LCC (R37, R38). -/
theorem inward_taken (serving : (s.station i).lcc.lineState ≠ .offline) (quarter : (s.station i).mu.quarter = .q0)
    (room : (s.station i).mu.count ≠ 0) :
    ∃ u, CycleTaken i s u ((s.station i).mu.count - 1) ∧ exec (.encoderEdge i false true) s = .next (countChanged u i) := by
  have moved := atQuarter_station s i .q3
  have runs : inwardCycle (s.atQuarter i .q3) i =
      countChanged (((s.atQuarter i .q3).modMu i fun m => { m with accumulator := m.accumulator - 1 }).modMu i
        fun m => { m with count := m.count - 1 }) i := by
    dsimp only [inwardCycle]
    rw [if_neg (by rw [moved]; exact room)]
  refine ⟨((s.atQuarter i .q3).modMu i fun m => { m with accumulator := m.accumulator - 1 }).modMu i
    fun m => { m with count := m.count - 1 }, ⟨⟨.q3, (s.station i).mu.accumulator - 1, ?_⟩, rfl, ?_⟩, ?_⟩
  · rw [State.station_modMu_same, State.station_modMu_same, moved]
  · exact ⟨rfl, rfl, rfl, rfl, rfl, rfl, fun _ => rfl, rfl, rfl, rfl, rfl, rfl⟩
  · rw [exec_encoderEdge, encoderMoves_inward serving quarter, runs]

/-- An inward cycle at count 0 is handed to the LCC uncounted (R27, R38). -/
theorem inward_discarded (serving : (s.station i).lcc.lineState ≠ .offline) (quarter : (s.station i).mu.quarter = .q0)
    (clamped : (s.station i).mu.count = 0) :
    ∃ u, CycleTaken i s u 0 ∧ exec (.encoderEdge i false true) s = .next (inwardDiscarded u i) := by
  have moved := atQuarter_station s i .q3
  have runs : inwardCycle (s.atQuarter i .q3) i =
      inwardDiscarded ((s.atQuarter i .q3).modMu i fun m => { m with accumulator := m.accumulator - 1 }) i := by
    dsimp only [inwardCycle]
    rw [if_pos (by rw [moved]; exact clamped)]
  refine ⟨(s.atQuarter i .q3).modMu i fun m => { m with accumulator := m.accumulator - 1 },
    ⟨⟨.q3, (s.station i).mu.accumulator - 1, ?_⟩, rfl, ?_⟩, ?_⟩
  · rw [State.station_modMu_same, moved, ← clamped]
  · exact ⟨rfl, rfl, rfl, rfl, rfl, rfl, fun _ => rfl, rfl, rfl, rfl, rfl, rfl⟩
  · rw [exec_encoderEdge, encoderMoves_inward serving quarter, runs]

/-- The limit of the drum decides before any other condition (R6). -/
theorem countChanged_atLimit (limit : (u.station i).atLimit = true) : countChanged u i = detect u i .drumLimit := by
  rw [countChanged]
  exact if_pos limit

theorem countChanged_payingOut (limit : (u.station i).atLimit = false) (state : (u.station i).lcc.lineState = .payingOut) :
    countChanged u i = if (u.station i).targetReached then enterLineOut u i .targetReached else u := by
  simp [countChanged, limit, state]

theorem countChanged_takingUp (limit : (u.station i).atLimit = false) (state : (u.station i).lcc.lineState = .takingUp) :
    countChanged u i = if (u.station i).takeupExceeded then detect u i .takeupLimit else u := by
  simp [countChanged, limit, state]

theorem countChanged_rewinding (state : (u.station i).lcc.lineState = .rewinding) : countChanged u i = creepTest u i := by
  simp [countChanged, StationState.atLimit, state]

theorem countChanged_adjusting (limit : (u.station i).atLimit = false) (state : (u.station i).lcc.lineState = .adjusting) :
    countChanged u i = u := by
  simp [countChanged, limit, state]

/-- A count at the limit brings DRUM_LIMIT from the state that it is a limit of (R6). -/
theorem CycleTaken.drumLimit (h : CycleTaken i s u count) (good : (s.station i).mu.lost = false)
    (serving : (s.station i).lcc.lineState ≠ .offline) (outside : (s.station i).lcc.lineState ≠ .fault)
    (limit : (u.station i).atLimit = true) :
    ((countChanged u i).station i).lcc = StationState.lccInFault
      { s.station i with mu := { (s.station i).mu with count := count } } .drumLimit (s.station i).lcc.lineState
      s.berthTime := by
  rw [countChanged_atLimit limit, h.detected good serving outside]

end Cycle

/-! ### The limits -/

section Limits

variable {s : State} {i : Station} {c : StationConfig} {target start creep limit : Nat} {need : Need}

/-- An outward cycle in PAYING_OUT (R6, R13). -/
theorem payingOut_cycle (hc : (s.station i).config = some c) (good : (s.station i).mu.lost = false)
    (quarter : (s.station i).mu.quarter = .q3) (room : (s.station i).mu.count < c.cmax)
    (state : (s.station i).lcc.lineState = .payingOut) :
    ∃ t, exec (.encoderEdge i false false) s = .next t ∧
      ((s.station i).mu.count + 1 = c.cmax →
        (t.station i).lcc = StationState.lccInFault
          { s.station i with mu := { (s.station i).mu with count := (s.station i).mu.count + 1 } }
          .drumLimit .payingOut s.berthTime) ∧
      ((s.station i).mu.count + 1 < c.cmax → (s.station i).lcc.payoutTarget = some target →
        target ≤ lengthOf c.countsPerRev c.layers ((s.station i).mu.count + 1) →
        (t.station i).lcc = ((s.station i).lcc.between .lineOut .targetReached).slack) ∧
      ((s.station i).mu.count + 1 < c.cmax → (s.station i).lcc.payoutTarget = some target →
        lengthOf c.countsPerRev c.layers ((s.station i).mu.count + 1) < target →
        (t.station i).lcc = (s.station i).lcc) := by
  obtain ⟨u, taken, runs⟩ := outward_taken hc (by simp [state]) (by simp [state]) quarter room
  have atLimit : (u.station i).atLimit = decide ((s.station i).mu.count + 1 = c.cmax) := by
    simp only [StationState.atLimit, taken.lcc, state, taken.count_eq, taken.cmax hc]
  have below (away : (s.station i).mu.count + 1 < c.cmax) (aimed : (s.station i).lcc.payoutTarget = some target) :
      countChanged u i =
        if target ≤ lengthOf c.countsPerRev c.layers ((s.station i).mu.count + 1) then enterLineOut u i .targetReached
        else u := by
    have reached : (u.station i).targetReached =
        decide (target ≤ lengthOf c.countsPerRev c.layers ((s.station i).mu.count + 1)) := by
      simp only [StationState.targetReached, taken.lcc, aimed, StationState.length, taken.lengthAt hc, taken.count_eq]
    rw [countChanged_payingOut (by rw [atLimit]; exact decide_eq_false (by omega)) (by rw [taken.lcc, state]), reached]
    simp only [decide_eq_true_eq]
  refine ⟨_, runs, fun full => ?_, fun away aimed reached => ?_, fun away aimed short => ?_⟩
  · rw [taken.drumLimit good (by simp [state]) (by simp [state]) (by rw [atLimit, decide_eq_true full]), state]
  · rw [below away aimed, if_pos reached, (enterLineOut_becomes u i .targetReached).station.lcc, StationState.moved, taken.lcc]
    rfl
  · rw [below away aimed, if_neg (not_le.mpr short), taken.lcc]

/-- An outward cycle in an outward run of ADJUSTING (R6, R21). -/
theorem adjusting_cycle_outward (hc : (s.station i).config = some c) (good : (s.station i).mu.lost = false)
    (quarter : (s.station i).mu.quarter = .q3) (room : (s.station i).mu.count < c.cmax)
    (state : (s.station i).lcc.lineState = .adjusting) (dir : (s.station i).lcc.adjustDir = some .outward) :
    ∃ t, exec (.encoderEdge i false false) s = .next t ∧
      ((s.station i).mu.count + 1 = c.cmax →
        (t.station i).lcc = StationState.lccInFault
          { s.station i with mu := { (s.station i).mu with count := (s.station i).mu.count + 1 } }
          .drumLimit .adjusting s.berthTime) ∧
      ((s.station i).mu.count + 1 < c.cmax → (t.station i).lcc = (s.station i).lcc) := by
  obtain ⟨u, taken, runs⟩ := outward_taken hc (by simp [state]) (by simp [state]) quarter room
  have atLimit : (u.station i).atLimit = decide ((s.station i).mu.count + 1 = c.cmax) := by
    simp only [StationState.atLimit, taken.lcc, state, dir, taken.count_eq, taken.cmax hc]
  refine ⟨_, runs, fun full => ?_, fun away => ?_⟩
  · rw [taken.drumLimit good (by simp [state]) (by simp [state]) (by rw [atLimit, decide_eq_true full]), state]
  · rw [countChanged_adjusting (by rw [atLimit]; exact decide_eq_false (by omega)) (by rw [taken.lcc, state]), taken.lcc]

/-- An inward cycle in an inward run of ADJUSTING (R6, R21). -/
theorem adjusting_cycle_inward (good : (s.station i).mu.lost = false) (quarter : (s.station i).mu.quarter = .q0)
    (state : (s.station i).lcc.lineState = .adjusting) (dir : (s.station i).lcc.adjustDir = some .inward)
    (room : 1 ≤ (s.station i).mu.count) :
    ∃ t, exec (.encoderEdge i false true) s = .next t ∧
      ((s.station i).mu.count = 1 → (t.station i).lcc = StationState.lccInFault
        { s.station i with mu := { (s.station i).mu with count := 0 } } .drumLimit .adjusting s.berthTime) ∧
      (2 ≤ (s.station i).mu.count → (t.station i).lcc = (s.station i).lcc) := by
  obtain ⟨u, taken, runs⟩ := inward_taken (by simp [state]) quarter (by omega)
  have atLimit : (u.station i).atLimit = decide ((s.station i).mu.count - 1 = 0) := by
    simp only [StationState.atLimit, taken.lcc, state, dir, taken.count_eq]
  refine ⟨_, runs, fun last => ?_, fun away => ?_⟩
  · have limit : (u.station i).atLimit = true := by simp [atLimit, last]
    rw [taken.drumLimit good (by simp [state]) (by simp [state]) limit, state, last]
  · rw [countChanged_adjusting (by rw [atLimit]; exact decide_eq_false (by omega)) (by rw [taken.lcc, state]), taken.lcc]

/-- An inward cycle in TAKING_UP (R6, R19). -/
theorem takingUp_cycle (hc : (s.station i).config = some c) (good : (s.station i).mu.lost = false)
    (quarter : (s.station i).mu.quarter = .q0) (state : (s.station i).lcc.lineState = .takingUp)
    (begun : (s.station i).lcc.takeupStart = some start) (room : 1 ≤ (s.station i).mu.count) :
    ∃ t, exec (.encoderEdge i false true) s = .next t ∧
      ((s.station i).mu.count = 1 → (t.station i).lcc.lineState = .fault ∧
        (t.station i).lcc.fault = some (StationState.recordOf
          { s.station i with mu := { (s.station i).mu with count := 0 } } .drumLimit .takingUp s.berthTime)) ∧
      (2 ≤ (s.station i).mu.count →
        lengthOf c.countsPerRev c.layers ((s.station i).mu.count - 1) + c.takeupLimit <
          lengthOf c.countsPerRev c.layers start →
        (t.station i).lcc.lineState = .fault ∧
        (t.station i).lcc.fault = some (StationState.recordOf
          { s.station i with mu := { (s.station i).mu with count := (s.station i).mu.count - 1 } }
          .takeupLimit .takingUp s.berthTime)) := by
  obtain ⟨u, taken, runs⟩ := inward_taken (by simp [state]) quarter (by omega)
  have atLimit : (u.station i).atLimit = decide ((s.station i).mu.count - 1 = 0) := by
    simp only [StationState.atLimit, taken.lcc, state, taken.count_eq]
  refine ⟨_, runs, fun last => ?_, fun away long => ?_⟩
  · have limit : (u.station i).atLimit = true := by simp [atLimit, last]
    rw [taken.drumLimit good (by simp [state]) (by simp [state]) limit, state, last]
    exact ⟨rfl, rfl⟩
  · have exceeded : (u.station i).takeupExceeded = true := by
      simp only [StationState.takeupExceeded, taken.lcc, begun, taken.config, hc, StationState.length, taken.lengthAt hc,
        taken.count_eq]
      exact decide_eq_true long
    rw [countChanged_takingUp (by rw [atLimit]; exact decide_eq_false (by omega)) (by rw [taken.lcc, state]),
      if_pos exceeded, taken.detected good (by simp [state]) (by simp [state]), state]
    exact ⟨rfl, rfl⟩

/-- The cycle that brings the count to 0 in REWINDING begins creep (R27). -/
theorem rewinding_cycle_creeps (quarter : (s.station i).mu.quarter = .q0)
    (state : (s.station i).lcc.lineState = .rewinding) (presents : (s.station i).lcc.need = some need)
    (last : (s.station i).mu.count = 1) (unbegun : (s.station i).lcc.creepCount = none) :
    ∃ t, exec (.encoderEdge i false true) s = .next t ∧
      (t.station i).lcc = { (s.station i).lcc with
        creepCount := some 0, creepLimit := some s.settings.creepLimit
        need := some { need with speed := s.settings.creepSpeed } } ∧ t.dsa = s.dsa := by
  obtain ⟨u, taken, runs⟩ := inward_taken (by simp [state]) quarter (by omega)
  rw [last] at taken
  have creeps : countChanged u i = beginCreep u i := by
    rw [countChanged_rewinding (by rw [taken.lcc, state])]
    exact if_pos ⟨taken.count_eq, by rw [taken.lcc]; exact unbegun⟩
  rw [creeps] at runs
  refine ⟨_, runs, ?_, taken.dsa⟩
  have begun := ((StationBecomes.refl i u).modLcc fun l => { l with
    creepCount := some 0, creepLimit := some u.settings.creepLimit }).changeSpeed u.settings.creepSpeed
  refine begun.station.lcc.trans ?_
  simp only [taken.lcc, taken.settings, presents, Option.map_some]

/-- A cycle in creep adds 1 to the creep count, and one over the limit is STOW_NOT_FOUND (R27, R162). -/
theorem rewinding_cycle_creeping (good : (s.station i).mu.lost = false) (quarter : (s.station i).mu.quarter = .q0)
    (state : (s.station i).lcc.lineState = .rewinding) (clamped : (s.station i).mu.count = 0)
    (creeps : (s.station i).lcc.creepCount = some creep) (bounded : (s.station i).lcc.creepLimit = some limit) :
    ∃ t, exec (.encoderEdge i false true) s = .next t ∧
      (creep + 1 ≤ limit → (t.station i).lcc = { (s.station i).lcc with creepCount := some (creep + 1) }) ∧
      (limit < creep + 1 → (t.station i).lcc.lineState = .fault ∧
        (t.station i).lcc.fault = some ((s.station i).recordOf .stowNotFound .rewinding s.berthTime)) := by
  obtain ⟨u, taken, runs⟩ := inward_discarded (by simp [state]) quarter clamped
  have counts : inwardDiscarded u i =
      if limit < creep + 1 then detect (u.modLcc i fun l => { l with creepCount := some (creep + 1) }) i .stowNotFound
      else u.modLcc i fun l => { l with creepCount := some (creep + 1) } := by
    simp only [inwardDiscarded, taken.lcc, creeps, bounded]
  rw [counts] at runs
  have lcc : ((u.modLcc i fun l => { l with creepCount := some (creep + 1) }).station i).lcc =
      { (s.station i).lcc with creepCount := some (creep + 1) } := by rw [State.station_modLcc_same, taken.lcc]
  refine ⟨_, runs, fun within => ?_, fun exceeds => ?_⟩
  · rw [if_neg (not_lt.mpr within), lcc]
  · obtain ⟨_, _, station⟩ := taken.station
    rw [if_pos exceeds, detect_lcc_good (by rw [lcc, state]; simp) (by rw [lcc, state]; simp)
      (by rw [State.station_modLcc_same, station]; exact good), lcc, state]
    refine ⟨rfl, congrArg some ?_⟩
    refine (congrArg _ taken.berth.berthTime).trans (StationState.recordOf_congr ?_ ?_ ?_ _ _ _)
    · rw [lcc]
    · rw [State.station_modLcc_same, station]
    · rw [State.station_modLcc_same, station]
      exact clamped.symm

end Limits

/-- Settles O39: what the LCC does with a cycle, state by state. -/
theorem countReachesLimits : Obligations.CountReachesLimits := by
  unfold Obligations.CountReachesLimits
  intro s i target start creep limit need c hc good
  refine ⟨fun quarter room => ?_, fun quarter state dir room => adjusting_cycle_inward good quarter state dir room,
    fun quarter state begun room => takingUp_cycle hc good quarter state begun room, fun quarter state presents => ?_⟩
  · refine ⟨_, exec_encoderEdge i false false s, fun state => ?_, fun state dir => ?_⟩
    · obtain ⟨t, runs, effects⟩ := payingOut_cycle (target := target) hc good quarter room state
      rwa [← Host.Outcome.next.inj runs] at effects
    · obtain ⟨t, runs, effects⟩ := adjusting_cycle_outward hc good quarter room state dir
      rwa [← Host.Outcome.next.inj runs] at effects
  · refine ⟨_, exec_encoderEdge i false true s, fun last unbegun => ?_, fun clamped creeps bounded => ?_⟩
    · obtain ⟨t, runs, effects⟩ := rewinding_cycle_creeps quarter state presents last unbegun
      rwa [← Host.Outcome.next.inj runs] at effects
    · obtain ⟨t, runs, effects⟩ := rewinding_cycle_creeping good quarter state clamped creeps bounded
      rwa [← Host.Outcome.next.inj runs] at effects

end Sys2Proof.Machine

/-!
PROOF. What an occurrence makes pending, and the tick of the time base (O51; R54, R98, R196, R199, R200).
-/
namespace Sys2Proof.Machine

/-! ### The COUNTER reports of an occurrence -/

/-- The reports pending after some counters wrapped: those that were pending keep their places, and of the others there are
the COUNTER reports of exactly the counters for which this holds (R182, R200). -/
def WrapsReported (wraps : CounterNo → Prop) (before after : List ReportEntry) : Prop :=
  before <+: after ∧ ∀ r, r ∈ after ↔ r ∈ before ∨ ∃ k, wraps k ∧ r = .counter k

theorem WrapsReported.none {wraps : CounterNo → Prop} {reports : List ReportEntry} (h : ∀ k, ¬wraps k) :
    WrapsReported wraps reports reports :=
  ⟨List.prefix_refl _, fun _ => ⟨.inl, fun k => k.resolve_right fun ⟨n, wrapped, _⟩ => h n wrapped⟩⟩

theorem WrapsReported.trans {p q r : CounterNo → Prop} {a b c : List ReportEntry} (h : WrapsReported p a b)
    (k : WrapsReported q b c) (or : ∀ n, r n ↔ p n ∨ q n) : WrapsReported r a c := by
  obtain ⟨kept, pending⟩ := h
  obtain ⟨kept', pending'⟩ := k
  refine ⟨kept.trans kept', fun e => ?_⟩
  simp only [pending', pending, or, or_and_right, exists_or, or_assoc]

theorem prefix_pendReport_counter (n : CounterNo) : ∀ l : List ReportEntry, l <+: pendReport (.counter n) l
  | [] => List.nil_prefix
  | x :: rest => by
    unfold pendReport
    split
    · next same =>
      cases x <;> simp_all [ReportEntry.sameKey]
    · exact List.cons_prefix_cons.mpr ⟨rfl, prefix_pendReport_counter n rest⟩

/-- One COUNTER report made pending (R182). -/
theorem WrapsReported.one (n : CounterNo) (reports : List ReportEntry) :
    WrapsReported (· = n) reports (pendReport (.counter n) reports) := by
  refine ⟨prefix_pendReport_counter n reports, fun r => ?_⟩
  rw [exists_eq_left]
  exact ⟨fun h => (mem_pendReport h).symm, fun h => h.elim (subset_pendReport (by simp) reports ·)
    fun e => e ▸ pendReport_mem _ reports⟩

section Offers

variable {offer : State → CounterNo → State} {wraps : Counter → Bool}

/-- Offering something to counters one after the other reports exactly the counters that it wraps (R196, R200). -/
theorem offers_reported (others : ∀ s n m, m ≠ n → (offer s n).counters.get m = s.counters.get m)
    (reported : ∀ s n, (offer s n).link.reports =
      if wraps (s.counters.get n) then pendReport (.counter n) s.link.reports else s.link.reports) :
    ∀ (ns : List CounterNo) (s : State), ns.Nodup →
      WrapsReported (fun k => k ∈ ns ∧ wraps (s.counters.get k)) s.link.reports (ns.foldl offer s).link.reports
  | [], s, _ => .none fun k h => absurd h.1 List.not_mem_nil
  | n :: ns, s, distinct => by
    obtain ⟨fresh, distinct⟩ := List.nodup_cons.mp distinct
    have first : WrapsReported (fun k => k = n ∧ wraps (s.counters.get n)) s.link.reports (offer s n).link.reports := by
      rw [reported]
      split
      · next wrapped => simpa only [wrapped, and_true] using WrapsReported.one n s.link.reports
      · next stands => exact .none fun k h => stands h.2
    refine first.trans (offers_reported others reported ns (offer s n) distinct) fun k => ?_
    by_cases same : k = n
    · simp [same, fresh]
    · simp [same, others s n k same]

end Offers

/-- An occurrence of this kind at this station wraps the counter: it takes it at its highest value (R196, R200). -/
def Counter.wrapsAt (c : Counter) (kind : CounterKind) (i : Station) : Bool :=
  c.takes kind i && decide (c.value = BitVec.allOnes 32)

theorem mem_allCounters (n : CounterNo) : n ∈ allCounters := by
  fin_cases n <;> simp [allCounters]

theorem State.bump_reports (s : State) (n : CounterNo) :
    (s.bump n).link.reports =
      if (s.counters.get n).value = BitVec.allOnes 32 then pendReport (.counter n) s.link.reports else s.link.reports := by
  by_cases wraps : (s.counters.get n).value = BitVec.allOnes 32
  · simp only [State.bump, wraps, decide_true, if_true]
    rfl
  · simp only [State.bump, wraps, decide_false, Bool.false_eq_true, if_false]
    rfl

/-- An occurrence reports exactly the counters that it wraps (R196, R200). -/
theorem State.occurrence_reported (s : State) (kind : CounterKind) (i : Station) :
    WrapsReported (fun k => (s.counters.get k).wrapsAt kind i = true) s.link.reports (s.occurrence kind i).link.reports := by
  have offered := offers_reported (offer := fun s n => s.offer n kind i) (wraps := fun c => c.wrapsAt kind i)
    (fun s n m other => by rw [State.offer_counter, if_neg fun h => other h.1])
    (fun s n => by
      by_cases takes : (s.counters.get n).takes kind i = true <;>
        simp [State.offer, Counter.wrapsAt, takes, State.bump_reports])
    allCounters s (by decide)
  simp only [mem_allCounters, true_and] at offered
  exact offered

/-! ### The waiting stations counted -/

/-- How many of these entries' stations lie in the range of the counter, if it counts WAIT_TIME (R196, R199). -/
def Counter.waits (c : Counter) (entries : List WaitEntry) : Nat :=
  entries.countP fun e => c.takes .waitTime e.station

theorem State.waitsCounted_eq (s : State) (n : CounterNo) : s.waitsCounted n = (s.counters.get n).waits s.dsa.waiting := by
  rw [State.waitsCounted, Counter.waits]
  split
  · next counts =>
    obtain ⟨enabled, kind⟩ := counts
    exact List.countP_congr fun e _ => by simp [Counter.takes, enabled, kind]
  · next idle =>
    refine (List.countP_eq_zero.mpr fun e _ takes => idle ?_).symm
    simp only [Counter.takes, Bool.and_eq_true, decide_eq_true_eq] at takes
    exact takes.1.1

/-- One WAIT_TIME occurrence for each of these entries (R199). -/
def State.waitingCounted (s : State) (entries : List WaitEntry) : State :=
  entries.foldl (fun s e => s.occurrence .waitTime e.station) s

theorem waitingCounted_counter (n : CounterNo) : ∀ (entries : List WaitEntry) (s : State),
    (s.waitingCounted entries).counters.get n = { s.counters.get n with
      value := (s.counters.get n).value + BitVec.ofNat 32 ((s.counters.get n).waits entries) }
  | [], s => by simp [State.waitingCounted, Counter.waits]
  | e :: entries, s => by
    have rest := waitingCounted_counter n entries (s.occurrence .waitTime e.station)
    rw [State.occurrence_counter] at rest
    refine rest.trans ?_
    by_cases takes : (s.counters.get n).takes .waitTime e.station = true
    · have same : (Counter.waits { s.counters.get n with value := (s.counters.get n).value + 1 } entries) =
          (s.counters.get n).waits entries := rfl
      have more : (s.counters.get n).waits (e :: entries) = (s.counters.get n).waits entries + 1 :=
        List.countP_cons_of_pos takes
      rw [if_pos takes, same, more, Nat.add_comm, BitVec.ofNat_add, ← BitVec.add_assoc]
      rfl
    · have stands : (s.counters.get n).waits (e :: entries) = (s.counters.get n).waits entries :=
        List.countP_cons_of_neg takes
      rw [if_neg takes, stands]

theorem waitingCounted_reported : ∀ (entries : List WaitEntry) (s : State),
    WrapsReported (fun k => 2 ^ 32 ≤ (s.counters.get k).value.toNat + (s.counters.get k).waits entries) s.link.reports
      (s.waitingCounted entries).link.reports
  | [], s => .none fun k => by
    have bounded := (s.counters.get k).value.isLt
    simpa [Counter.waits] using bounded
  | e :: entries, s => by
    refine (s.occurrence_reported .waitTime e.station).trans
      (waitingCounted_reported entries (s.occurrence .waitTime e.station)) fun k => ?_
    rw [State.occurrence_counter, Counter.wrapsAt]
    by_cases takes : (s.counters.get k).takes .waitTime e.station = true
    · have same : (Counter.waits { s.counters.get k with value := (s.counters.get k).value + 1 } entries) =
          (s.counters.get k).waits entries := rfl
      have more : (s.counters.get k).waits (e :: entries) = (s.counters.get k).waits entries + 1 :=
        List.countP_cons_of_pos takes
      have highest : (BitVec.allOnes 32).toNat = 2 ^ 32 - 1 := BitVec.toNat_allOnes
      have bounded := (s.counters.get k).value.isLt
      rw [if_pos takes, same, more]
      by_cases full : (s.counters.get k).value = BitVec.allOnes 32
      · simp only [takes, full, highest, decide_true, Bool.and_self, true_or, iff_true]
        omega
      · have below : (s.counters.get k).value.toNat ≠ 2 ^ 32 - 1 :=
          fun h => full (BitVec.eq_of_toNat_eq (h.trans highest.symm))
        have next : ((s.counters.get k).value + 1).toNat = (s.counters.get k).value.toNat + 1 := by
          have one : (1 : BitVec 32).toNat = 1 := rfl
          rw [BitVec.toNat_add, one]
          exact Nat.mod_eq_of_lt (by omega)
        rw [next]
        simp only [full, decide_false, Bool.and_false, Bool.false_eq_true, false_or]
        omega
    · have stands : (s.counters.get k).waits (e :: entries) = (s.counters.get k).waits entries :=
        List.countP_cons_of_neg takes
      simp [takes, stands]

/-! ### The tick -/

/-- What a tick makes of a station, in the words of the statement. -/
theorem StationState.tick_eq (a : StationState) (ms : Nat) :
    (a.tick (decide (ms = Config.windowLength - 1))).lcc = a.lcc ∧
    (a.tick (decide (ms = Config.windowLength - 1))).config = a.config ∧
    (a.tick (decide (ms = Config.windowLength - 1))).handed = a.handed ∧
    (a.tick (decide (ms = Config.windowLength - 1))).mu = { a.mu with
      age := if a.lcc.lineState = .offline then a.mu.age else min 65535 (a.mu.age + 1)
      windowDue := a.mu.windowDue || decide (ms = 99 ∧ a.lcc.lineState ≠ .offline)
      releaseMeasure := a.mu.releaseMeasure.map fun k => min 65535 (k + 1) } ∧
    (a.tick (decide (ms = Config.windowLength - 1))).dhu = { a.dhu with
      timer := match a.dhu.timer with
        | .running kind elapsed limit => .running kind (min limit (elapsed + 1)) limit
        | other => other
      stall := a.dhu.stall.map fun k => { k with elapsed := min k.limit (k.elapsed + 1) }
      zeroThroughout := if ms = 99 ∧ a.lcc.lineState = .offline then decide (a.dhu.demand = 0)
        else a.dhu.zeroThroughout } ∧
    (a.tick (decide (ms = Config.windowLength - 1))).lpu = { a.lpu with
      pulse := a.lpu.pulse.map fun p => { p with remaining := p.remaining - 1 }
      confirmTimer := a.lpu.confirmTimer.map fun k => { k with elapsed := min k.limit (k.elapsed + 1) }
      conflictTimer := match a.lpu.conflictTimer with
        | .running elapsed limit => .running (min limit (elapsed + 1)) limit
        | other => other } ∧
    ∀ which : Sensor, (a.tick (decide (ms = Config.windowLength - 1))).filters.get which = { a.filters.get which with
      held := (a.filters.get which).held.map fun p => { p with age := min p.width (p.age + 1) } } := by
  refine ⟨rfl, rfl, rfl, ?_, ?_, ?_, fun which => by cases which <;> rfl⟩
  · by_cases offline : a.lcc.lineState = .offline <;> by_cases ends : ms = 99 <;>
      simp [StationState.tick, Mu.tick, offline, ends, Config.ageMax]
  · have timer : a.dhu.timer.tick = match a.dhu.timer with
        | .running kind elapsed limit => .running kind (min limit (elapsed + 1)) limit
        | other => other := by cases a.dhu.timer <;> rfl
    by_cases offline : a.lcc.lineState = .offline <;> by_cases ends : ms = 99 <;>
      simp [StationState.tick, Dhu.tick, Dhu.passWindow, offline, ends, timer] <;> rfl
  · have conflict : a.lpu.conflictTimer.tick = match a.lpu.conflictTimer with
        | .running elapsed limit => .running (min limit (elapsed + 1)) limit
        | other => other := by cases a.lpu.conflictTimer <;> rfl
    dsimp only [StationState.tick, Lpu.tick]
    rw [conflict]
    rfl

/-- The slice timers count down (R89). -/
theorem Dsa.tick_eq (d : Dsa) :
    d.tick = { d with holders := d.holders.map fun h => { h with slice := match h.slice with
      | .running remaining => .running (remaining - 1)
      | other => other } } := by
  have slices (h : Holder) : ({ h with slice := h.slice.tick } : Holder) = { h with slice := match h.slice with
      | .running remaining => .running (remaining - 1)
      | other => other } := by
    cases h with
    | mk station cls grant slice stopKind => cases slice <;> rfl
  simp only [Dsa.tick, slices]

/-- Settles O51: every timer counts by its own equation, the waiting stations are counted, and nothing else is touched. -/
theorem tickCounts : Obligations.TickCounts := by
  unfold Obligations.TickCounts
  intro s n
  have ticked := tickTimers_eq (advanceTime s) (decide (s.windowMs = Config.windowLength - 1))
  have stations := tickTimers_station (advanceTime s) (decide (s.windowMs = Config.windowLength - 1))
  have arm : exec .timeBaseTick s =
    .next (countWaiting (tickTimers (advanceTime s) (decide (s.windowMs = Config.windowLength - 1)))) := rfl
  generalize tickTimers (advanceTime s) (decide (s.windowMs = Config.windowLength - 1)) = u at *
  have counts : CountsOnly u (countWaiting u) := .countWaiting u
  have rest := counts.eq
  have waiting : u.dsa.waiting = s.dsa.waiting := by rw [ticked]; rfl
  have counters : u.counters = s.counters := by rw [ticked]; rfl
  have link : u.link = s.link := by rw [ticked]; rfl
  have counted := waitingCounted_counter n u.dsa.waiting u
  have reported := waitingCounted_reported u.dsa.waiting u
  have waited : countWaiting u = u.waitingCounted u.dsa.waiting := rfl
  rw [← waited] at counted reported
  simp only [counters, link, waiting, ← State.waitsCounted_eq] at counted reported
  rw [arm]
  have stationOf (i : Station) : (countWaiting u).station i =
      (s.station i).tick (decide (s.windowMs = Config.windowLength - 1)) := by
    rw [counts.station, stations]
    rfl
  refine ⟨_, rfl, ?_, ?_, ?_, ?_, fun i => ?_, ?_, ?_, ?_, ?_, ?_, ?_, ?_, ?_⟩
  · rw [rest, ticked]; rfl
  · rw [rest, ticked]; rfl
  · rw [rest, ticked]; rfl
  · rw [rest, ticked]; rfl
  · rw [stationOf i]
    exact StationState.tick_eq (s.station i) s.windowMs
  · rw [rest, ticked]; rfl
  · rw [rest, ticked]
    exact s.dsa.tick_eq
  · rw [rest, ticked]
    rfl
  · exact counted
  · intro wraps
    exact (reported.2 _).mpr (.inr ⟨n, wraps, rfl⟩)
  · exact reported.1
  · intro r pending
    obtain old | ⟨k, wraps, made⟩ := (reported.2 r).mp pending
    exacts [.inl old, .inr ⟨k, made, wraps⟩]
  · rw [rest, ticked]
    rfl

end Sys2Proof.Machine

/-!
PROOF. What the drive, the arbiter and the LCC leave of the counters of TENSION_SAMPLE and LATCH_PULSE: they count no occurrence
of these kinds, and every report they make goes behind the reports pending (R182, R196, R200). With it, a sample at the counters
(O32; R197, R198).
-/
namespace Sys2Proof.Machine

/-! ### Work that counts nothing of a kind -/

/-- From `s` to `t` nothing of this kind is counted, and reports only join behind those pending (R182, R196). -/
structure Uncounted (kind : CounterKind) (s t : State) : Prop where
  counters : ∀ n : CounterNo, (s.counters.get n).enabled = false ∨ (s.counters.get n).kind = kind →
    t.counters.get n = s.counters.get n
  reports : s.link.reports <+: t.link.reports

section Rules

variable {kind : CounterKind} {s t u : State}

theorem Uncounted.of_same (counters : t.counters = s.counters) (link : t.link = s.link) : Uncounted kind s t :=
  ⟨fun n _ => by rw [counters], by rw [link]⟩

theorem Uncounted.refl (kind : CounterKind) (s : State) : Uncounted kind s s := .of_same rfl rfl

theorem Uncounted.trans (h : Uncounted kind s t) (k : Uncounted kind t u) : Uncounted kind s u := by
  refine ⟨fun n of => ?_, h.reports.trans k.reports⟩
  have same := h.counters n of
  rw [k.counters n (by rwa [same]), same]

/-- An update of other blocks beforehand. -/
theorem Uncounted.after (h : Uncounted kind t u) (counters : t.counters = s.counters) (link : t.link = s.link) :
    Uncounted kind s u :=
  Uncounted.trans (.of_same counters link) h

theorem Uncounted.ite {p : Prop} [Decidable p] (h : p → Uncounted kind s t) (k : ¬p → Uncounted kind s u) :
    Uncounted kind s (if p then t else u) := by
  split
  · next holds => exact h holds
  · next fails => exact k fails

/-- An occurrence of another kind (R196). -/
theorem Uncounted.occurrence (s : State) {other : CounterKind} (differs : other ≠ kind) (i : Station) :
    Uncounted kind s (s.occurrence other i) := by
  refine ⟨fun n of => ?_, (s.occurrence_reported other i).1⟩
  rw [State.occurrence_counter, if_neg]
  rintro takes
  simp only [Counter.takes, Bool.and_eq_true, decide_eq_true_eq] at takes
  rcases of with off | same
  · simp [off] at takes
  · exact differs (takes.1.1.2.symm.trans same)

theorem Uncounted.reportStation (s : State) (i : Station) : Uncounted kind s (s.reportStation i) :=
  ⟨fun _ _ => rfl, prefix_pendReport_station i _⟩

theorem Uncounted.modLcc (s : State) (i : Station) (f : Lcc → Lcc) : Uncounted kind s (s.modLcc i f) := .of_same rfl rfl

theorem Uncounted.modMu (s : State) (i : Station) (f : Mu → Mu) : Uncounted kind s (s.modMu i f) := .of_same rfl rfl

theorem Uncounted.modDhu (s : State) (i : Station) (f : Dhu → Dhu) : Uncounted kind s (s.modDhu i f) := .of_same rfl rfl

theorem Uncounted.modLpu (s : State) (i : Station) (f : Lpu → Lpu) : Uncounted kind s (s.modLpu i f) := .of_same rfl rfl

theorem Uncounted.modDsa (s : State) (f : Dsa → Dsa) : Uncounted kind s (s.modDsa f) := .of_same rfl rfl

end Rules

/-! ### The counters under the drive's work -/

theorem enterBrakeWait_counters (s : State) (i : Station) : (enterBrakeWait s i).counters = s.counters := by
  dsimp only [enterBrakeWait]
  split <;> rfl

theorem enterDriveWait_counters (s : State) (i : Station) : (enterDriveWait s i).counters = s.counters := by
  dsimp only [enterDriveWait]
  split
  · rw [enterBrakeWait_counters]
    rfl
  · rfl

theorem endSetting_counters (s : State) (i : Station) : (endSetting s i).counters = s.counters := by
  unfold endSetting resumeHandover
  split
  · split_ifs
    exacts [rfl, enterBrakeWait_counters s i, enterDriveWait_counters s i]
  · rfl

theorem enterSetting_counters (s : State) (i : Station) : (enterSetting s i).counters = s.counters := by
  dsimp only [enterSetting]
  split
  · rfl
  · rw [endSetting_counters]
    rfl

theorem hardStop_counters (s : State) (i : Station) : (hardStop s i).counters = s.counters := by
  have set : (enterSetting (s.modDhu i fun d => { d with stopRequest := .fault, pendingMotion := none }) i).counters =
      s.counters := by
    rw [enterSetting_counters]
    rfl
  dsimp only [hardStop]
  split
  · rfl
  · split
    case h_1 => rfl
    case h_7 => split <;> rfl
    all_goals exact set

/-! ### The arbiter, the needs and the LCC -/

/-- A kind of occurrence that neither the drive's arbiter nor a change of line state is: a sample or a latch pulse. -/
def CounterKind.isQuiet (kind : CounterKind) : Prop := kind = .tensionSample ∨ kind = .latchPulse

section Quiet

variable {kind : CounterKind} (quiet : kind.isQuiet) (s : State) (i : Station)

include quiet

theorem CounterKind.isQuiet.ne_other {other : CounterKind} (loud : ¬other.isQuiet) : other ≠ kind :=
  fun same => loud (same ▸ quiet)

theorem Uncounted.grantHead : Uncounted kind s (grantHead s) := by
  unfold Machine.grantHead
  split
  · exact .refl kind s
  · split
    · exact .modDsa s _
    · exact Uncounted.trans (.of_same (by simp) (by simp))
        (.occurrence _ (quiet.ne_other (by simp [CounterKind.isQuiet])) _)

theorem Uncounted.grantRule (n : Nat) : Uncounted kind s (grantRule n s) := by
  induction n generalizing s with
  | zero => exact .refl kind s
  | succ n ih =>
    unfold Machine.grantRule
    exact .ite (fun _ => (Uncounted.grantHead quiet s).trans (ih _)) fun _ => .refl kind s

theorem Uncounted.beginYield : Uncounted kind s (beginYield s i) := by
  dsimp only [Machine.beginYield]
  have counted : Uncounted kind s ((s.modHolder i (Holder.stopAs .yielding)).occurrence .slotYield i) :=
    (Uncounted.modDsa s _).trans (.occurrence _ (quiet.ne_other (by simp [CounterKind.isQuiet])) i)
  exact counted.trans (.of_same (by simp) (by simp))

omit quiet in
theorem Uncounted.rejoined : Uncounted kind s (rejoin (freeSlot s i) i) := by
  refine .of_same ?_ (by simp)
  unfold rejoin
  split <;> rfl

theorem Uncounted.preempt (n : Nat) : Uncounted kind s (preempt n s) := by
  induction n generalizing s with
  | zero => exact .refl kind s
  | succ n ih =>
    dsimp only [Machine.preempt]
    split
    · exact .refl kind s
    · next yielder forStation _ =>
      have yielded := (Uncounted.modDsa s fun d =>
        { d with yields := d.yields ++ [{ yielder := yielder, forStation := forStation, lapsed := false }] }).trans
          (Uncounted.beginYield quiet _ yielder)
      exact .ite (fun _ => ((yielded.trans (.rejoined _ yielder)).trans (Uncounted.grantRule quiet _ _)).trans (ih _))
        fun _ => yielded

theorem Uncounted.arbitrate : Uncounted kind s (arbitrate s) :=
  (Uncounted.grantRule quiet s _).trans (Uncounted.preempt quiet _ 13)

theorem Uncounted.settleStop : Uncounted kind s (settleStop s i) :=
  .ite (fun _ => (Uncounted.rejoined s i).trans (Uncounted.arbitrate quiet _)) fun _ => .refl kind s

theorem Uncounted.presentNeed (need : Need) : Uncounted kind s (presentNeed s i need) :=
  .ite (fun _ => (Uncounted.arbitrate quiet _).after rfl rfl) fun _ => .of_same rfl rfl

theorem Uncounted.withdrawNeed : Uncounted kind s (withdrawNeed s i) :=
  .ite (fun _ => .refl kind s) fun _ => .ite
    (fun _ => (Uncounted.arbitrate quiet _).after rfl rfl)
    (fun _ => (Uncounted.settleStop quiet _ i).after (by simp; rfl) (by simp))

theorem Uncounted.stopForFault : Uncounted kind s (stopForFault s i) :=
  .ite (fun _ => (Uncounted.arbitrate quiet _).after rfl rfl)
    (fun _ => (Uncounted.settleStop quiet _ i).after (hardStop_counters _ i) (by simp))

theorem Uncounted.changeState (new : LineState) (reason : Reason) : Uncounted kind s (changeState s i new reason) :=
  Uncounted.trans (t := recordMove s i new reason) ⟨fun _ _ => rfl, prefix_pendReport_station i _⟩
    (Uncounted.withdrawNeed quiet _ i)

omit quiet in
theorem Uncounted.addFurther (fault : FaultKind) : Uncounted kind s (addFurther s i fault) :=
  (Uncounted.modLcc s i _).trans (.reportStation _ i)

theorem Uncounted.enterFault (fault : FaultKind) : Uncounted kind s (enterFault s i fault) := by
  have stopped : Uncounted kind s (faultStopped s i fault) := by
    dsimp only [faultStopped]
    refine Uncounted.trans ?_ (.modLpu _ i _)
    exact (Uncounted.stopForFault quiet _ i).after rfl rfl
  have entered : Uncounted kind s (faultEntered s i fault) := by
    dsimp only [faultEntered]
    generalize faultStopped s i fault = u at stopped ⊢
    refine Uncounted.trans ?_ (.occurrence _ (quiet.ne_other (by simp [CounterKind.isQuiet])) i)
    refine Uncounted.trans ?_ (.reportStation _ i)
    exact stopped.trans (.of_same rfl rfl)
  rw [enterFault_eq]
  exact .ite (fun _ => entered.trans (.addFurther _ i _)) fun _ => entered

theorem Uncounted.detect (fault : FaultKind) : Uncounted kind s (detect s i fault) := by
  unfold Machine.detect
  split
  · exact .refl kind s
  · exact .addFurther s i fault
  · exact Uncounted.enterFault quiet s i fault

theorem Uncounted.lostAtEntry : Uncounted kind s (lostAtEntry s i) :=
  .ite (fun _ => Uncounted.detect quiet s i _) fun _ => .refl kind s

theorem Uncounted.limitTest : Uncounted kind s (limitTest s i) :=
  .ite (fun _ => Uncounted.detect quiet s i _) fun _ => .refl kind s

omit quiet in
theorem Uncounted.creepTest : Uncounted kind s (creepTest s i) :=
  .ite (fun _ => .of_same rfl rfl) fun _ => .refl kind s

theorem Uncounted.enterRewinding (reason : Reason) : Uncounted kind s (enterRewinding s i reason) := by
  have moved := Uncounted.changeState quiet s i .rewinding reason
  dsimp only [Machine.enterRewinding, arrive, enterStowed]
  exact .ite (fun _ => (moved.trans (Uncounted.changeState quiet _ i .stowed .stowed)).trans (.modMu _ i _))
    fun _ => ((moved.trans (Uncounted.presentNeed quiet _ i _)).trans (.creepTest _ i)).trans (Uncounted.lostAtEntry quiet _ i)

theorem Uncounted.enterTakingUp : Uncounted kind s (enterTakingUp s i) :=
  ((((Uncounted.modLcc s i _).trans (Uncounted.changeState quiet _ i _ _)).trans (Uncounted.presentNeed quiet _ i _)).trans
    (Uncounted.limitTest quiet _ i)).trans (Uncounted.lostAtEntry quiet _ i)

theorem Uncounted.enterAdjusting (dir : Dir) (cls : Nat) (aim : ProfileNo) (reason : Reason) :
    Uncounted kind s (enterAdjusting s i dir cls aim reason) :=
  ((((Uncounted.changeState quiet s i _ _).trans (.modLcc _ i _)).trans
    (.occurrence _ (quiet.ne_other (by simp [CounterKind.isQuiet])) i)).trans (Uncounted.presentNeed quiet _ i _)).trans
    (Uncounted.limitTest quiet _ i)

theorem Uncounted.reportConfirmed (sequence : Sequence) : Uncounted kind s (reportConfirmed s i sequence) := by
  unfold Machine.reportConfirmed releaseConfirmed
  split
  · exact Uncounted.enterTakingUp quiet s i
  · exact .ite (fun _ => Uncounted.enterRewinding quiet s i _) fun _ => Uncounted.changeState quiet s i _ _
  · exact .refl kind s

theorem Uncounted.confirmTest : Uncounted kind s (confirmTest s i) :=
  .ite (fun _ => (Uncounted.modLpu s i _).trans (Uncounted.reportConfirmed quiet _ i _)) fun _ => .refl kind s

end Quiet

/-! ### A sample is counted by its offer alone -/

section SampleWork

variable (s : State) (i : Station)

theorem CounterKind.isQuiet_tensionSample : CounterKind.isQuiet .tensionSample := .inl rfl

theorem Uncounted.energize : Uncounted .tensionSample s (energize s i) :=
  (Uncounted.occurrence _ (by simp) i).after rfl rfl

theorem Uncounted.beginPulse (kind : PulseKind) : Uncounted .tensionSample s (beginPulse s i kind) :=
  .ite (fun _ => (Uncounted.energize _ i).after rfl rfl) fun _ => .of_same rfl rfl

theorem Uncounted.startSequence (sequence : Sequence) : Uncounted .tensionSample s (startSequence s i sequence) :=
  .ite (fun _ => .of_same rfl rfl) fun _ => (Uncounted.beginPulse _ i _).after rfl rfl

theorem Uncounted.enterReleasing (reason : Reason) (rewind : Bool) :
    Uncounted .tensionSample s (enterReleasing s i reason rewind) := by
  have quiet := CounterKind.isQuiet_tensionSample
  exact ((((Uncounted.modLcc s i _).trans (Uncounted.changeState quiet _ i _ _)).trans (Uncounted.startSequence _ i _)).trans
    (Uncounted.lostAtEntry quiet _ i)).trans (Uncounted.confirmTest quiet _ i)

theorem Uncounted.overloadEvent : Uncounted .tensionSample s (overloadEvent s i) := by
  have counted : Uncounted .tensionSample s ((s.modLcc i fun l => { l with dose := 0 }).occurrence .overloadEvent i) :=
    (Uncounted.occurrence _ (by simp) i).after rfl rfl
  refine .ite (fun _ => counted.trans (Uncounted.enterReleasing _ i _ _)) fun _ => counted.trans ?_
  exact .ite (fun _ => .refl _ _) fun _ => (Uncounted.modLcc _ i _).trans (.reportStation _ i)

theorem Uncounted.doseWork (e : ProfileNo) : Uncounted .tensionSample s (doseWork s i e) :=
  .ite (fun _ => (Uncounted.modLcc s i _).trans (Uncounted.overloadEvent _ i)) fun _ => .modLcc s i _

theorem Uncounted.setCurrent (e : ProfileNo) : Uncounted .tensionSample s (setCurrent s i e) :=
  (Uncounted.modLcc s i _).trans (.reportStation _ i)

theorem Uncounted.settles (e : ProfileNo) (reason : Reason) :
    Uncounted .tensionSample s (enterHolding (Machine.setCurrent s i e) i reason) :=
  (Uncounted.setCurrent s i e).trans (Uncounted.changeState CounterKind.isQuiet_tensionSample _ i _ _)

theorem Uncounted.stateTest (e : ProfileNo) : Uncounted .tensionSample s (stateTest s i e) := by
  have adjusts (dir : Dir) (cls : Nat) (reason : Reason) :=
    Uncounted.enterAdjusting CounterKind.isQuiet_tensionSample s i dir cls e reason
  have stands := Uncounted.refl .tensionSample s
  have continues : Uncounted .tensionSample s (continueRun s i e) := .of_same rfl rfl
  have settled (reason : Reason) := Uncounted.settles s i e reason
  unfold Machine.stateTest
  split
  · exact .ite (fun _ => settled _) fun _ => stands
  · dsimp only [regulateHolding]
    split_ifs
    exacts [adjusts _ _ _, adjusts _ _ _, stands, Uncounted.setCurrent s i e, adjusts _ _ _, adjusts _ _ _]
  · dsimp only [testAdjusting]
    split
    · exact .ite (fun _ => continues) fun _ => .ite (fun _ => settled _) fun _ => adjusts _ _ _
    · exact .ite (fun _ => continues) fun _ => .ite (fun _ => settled _) fun _ => adjusts _ _ _
    · exact stands
  · exact stands

/-- The LCC's work at a sample counts no sample (R50). -/
theorem Uncounted.lccSample : Uncounted .tensionSample s (lccSample s i) := by
  have stands := Uncounted.refl .tensionSample s
  unfold Machine.lccSample
  dsimp only
  split
  · exact .ite (fun _ => Uncounted.detect CounterKind.isQuiet_tensionSample s i _) fun _ => stands
  · split
    · next e _ _ =>
      exact .ite (fun _ => (Uncounted.doseWork s i e).trans (Uncounted.stateTest _ i e)) fun _ => Uncounted.doseWork s i e
    · exact stands

end SampleWork

/-! ### A sample at the counters -/

/-- A counter after a sample is offered to it (R197, R198). -/
def Counter.sampled (c : Counter) (i : Station) (x : Nat) : Counter :=
  if c.takes .tensionSample i then
    { c with
      value := c.value + if c.countsSample i x then 1 else 0
      memory := c.memory.set i.val (some (c.condition x)) i.isLt }
  else c

/-- A sample wraps the counter: it counts it at its highest value (R200). -/
def Counter.wrapsAtSample (c : Counter) (i : Station) (x : Nat) : Bool :=
  c.takes .tensionSample i && c.countsSample i x && decide (c.value = BitVec.allOnes 32)

theorem State.offerSample_counter (s : State) (n m : CounterNo) (i : Station) (x : Nat) :
    (s.offerSample n i x).counters.get m = if m = n then (s.counters.get m).sampled i x else s.counters.get m := by
  dsimp only [State.offerSample]
  by_cases same : m = n
  · subst same
    rw [if_pos rfl, Counter.sampled]
    by_cases takes : (s.counters.get m).takes .tensionSample i = true
    · rw [if_pos takes, if_pos takes, State.modCounter_counter_same]
      by_cases counts : (s.counters.get m).countsSample i x = true
      · rw [if_pos counts, if_pos counts, State.bump_counters, State.modCounter_counter_same]
      · simp [counts]
    · rw [if_neg takes, if_neg takes]
  · rw [if_neg same]
    split
    · rw [State.modCounter_counter, if_neg same]
      split
      · rw [State.bump_counters, State.modCounter_counter, if_neg same]
      · rfl
    · rfl

/-- A sample is offered to each of the four counters (R196). -/
theorem State.sampleOccurrence_counter (s : State) (i : Station) (x : Nat) (m : CounterNo) :
    (s.sampleOccurrence i x).counters.get m = (s.counters.get m).sampled i x := by
  fin_cases m <;> simp [State.sampleOccurrence, allCounters, State.offerSample_counter]

/-- A sample reports exactly the counters that it wraps (R196, R200). -/
theorem State.sampleOccurrence_reported (s : State) (i : Station) (x : Nat) :
    WrapsReported (fun k => (s.counters.get k).wrapsAtSample i x = true) s.link.reports
      (s.sampleOccurrence i x).link.reports := by
  have offered := offers_reported (offer := fun s n => s.offerSample n i x) (wraps := fun c => c.wrapsAtSample i x)
    (fun s n m other => by rw [State.offerSample_counter, if_neg other])
    (fun s n => by
      by_cases takes : (s.counters.get n).takes .tensionSample i = true <;>
        by_cases counts : (s.counters.get n).countsSample i x = true <;>
        simp [State.offerSample, Counter.wrapsAtSample, takes, counts, State.bump_reports])
    allCounters s (by decide)
  simp only [mem_allCounters, true_and] at offered
  exact offered

theorem Counter.tests_iff (c : Counter) (i : Station) : c.tests i ↔ c.takes .tensionSample i = true := by
  simp only [Counter.tests, Counter.takes, Bool.and_eq_true, decide_eq_true_eq]
  tauto

/-- Where the LCC has nothing to decide at a sample, it leaves the state (R50, R66). -/
theorem lccSample_idle {s v : State} {i : Station} {x : Nat} (h : SampleAt i s v x (s.station i).lcc)
    (state : (s.station i).lcc.lineState ∈ [LineState.stowed, .payingOut, .seated, .locking, .releasing, .lineOut]) :
    lccSample v i = v := by
  have untensioned : (v.station i).tensioned = false := by
    simp only [List.mem_cons, List.not_mem_nil, or_false] at state
    rw [StationState.tensioned, h.lcc]
    rcases state with k | k | k | k | k | k <;> simp [k, LineState.isTensioned]
  unfold lccSample
  dsimp only
  split
  · next rewinding =>
    rw [h.lcc] at rewinding
    simp [rewinding] at state
  · simp [untensioned]

/-- Settles O32: the LCC counts no sample, and the offer of the sample to each counter is the last work of the step. -/
theorem sampleCounted : Obligations.SampleCounted := by
  unfold Obligations.SampleCounted
  intro s i c status high low n serving hc held ok
  obtain ⟨v, sampled, counters, runs⟩ := exec_sample (high := high) (low := low) serving hc held ok
  generalize c.tensionOfRecord status high low = x at *
  have worked := Uncounted.lccSample v i
  have same (of : (s.counters.get n).enabled = false ∨ (s.counters.get n).kind = .tensionSample) :
      (lccSample v i).counters.get n = s.counters.get n := by
    rw [worked.counters n (by rwa [counters]), counters]
  refine ⟨_, runs, fun tests => ?_, fun untested rest => ?_, fun tests counts full => ?_⟩
  · have takes := ((s.counters.get n).tests_iff i).mp tests
    rw [State.sampleOccurrence_counter, same (.inr tests.2.1), Counter.sampled, if_pos takes]
    rfl
  · have stands : (lccSample v i).counters.get n = s.counters.get n := by
      rcases rest with idle | off | kind
      · rw [lccSample_idle sampled idle, counters]
      · exact same (.inl off)
      · exact same (.inr kind)
    rw [State.sampleOccurrence_counter, stands, Counter.sampled, if_neg (mt ((s.counters.get n).tests_iff i).mpr untested)]
  · refine ((lccSample v i).sampleOccurrence_reported i x).2 _ |>.mpr (.inr ⟨n, ?_, rfl⟩)
    have counted : (s.counters.get n).countsSample i x = true := counts
    dsimp only
    rw [same (.inr tests.2.1), Counter.wrapsAtSample, ((s.counters.get n).tests_iff i).mp tests, counted, full]
    rfl

end Sys2Proof.Machine

/-!
PROOF. The ends of a pulse's delay and width (O49) and the confirm timeout (O50): how a pulse begins and is energized, and that a
confirmation counts no further pulse (R119 to R123, R126).
-/
namespace Sys2Proof.Machine

/-! ### Two updates of the LPU -/

section Lpu

variable {s : State} {i : Station}

theorem State.modLpu_congr {f g : Lpu → Lpu} (h : f (s.station i).lpu = g (s.station i).lpu) :
    s.modLpu i f = s.modLpu i g := by
  simp only [State.modLpu, h]

theorem State.modLpu_modLpu (s : State) (i : Station) (f g : Lpu → Lpu) :
    (s.modLpu i f).modLpu i g = s.modLpu i fun l => g (f l) := by
  simp [State.modLpu, State.setStation_setStation]

/-! ### Counting reads the counters and the Report Queue alone -/

theorem State.offer_congr {s t : State} (counters : t.counters = s.counters) (link : t.link = s.link) (n : CounterNo)
    (kind : CounterKind) (i : Station) :
    (t.offer n kind i).counters = (s.offer n kind i).counters ∧ (t.offer n kind i).link = (s.offer n kind i).link := by
  have bumped : (t.bump n).counters = (s.bump n).counters ∧ (t.bump n).link = (s.bump n).link := by
    refine ⟨by rw [State.bump_counters, State.bump_counters, State.modCounter, State.modCounter, counters], ?_⟩
    dsimp only [State.bump]
    rw [counters]
    split <;> simp [link]
  unfold State.offer
  rw [counters]
  split
  · exact bumped
  · exact ⟨counters, link⟩

theorem State.occurrence_congr {s t : State} (counters : t.counters = s.counters) (link : t.link = s.link)
    (kind : CounterKind) (i : Station) :
    (t.occurrence kind i).counters = (s.occurrence kind i).counters ∧
      (t.occurrence kind i).link = (s.occurrence kind i).link := by
  have offers (ns : List CounterNo) : ∀ {s t : State}, t.counters = s.counters → t.link = s.link →
      (ns.foldl (fun s n => s.offer n kind i) t).counters = (ns.foldl (fun s n => s.offer n kind i) s).counters ∧
        (ns.foldl (fun s n => s.offer n kind i) t).link = (ns.foldl (fun s n => s.offer n kind i) s).link := by
    induction ns with
    | nil => exact fun counters link => ⟨counters, link⟩
    | cons n ns ih =>
      intro s t counters link
      obtain ⟨counted, reported⟩ := State.offer_congr counters link n kind i
      exact ih counted reported
  exact offers allCounters counters link

/-! ### A pulse begins and is energized -/

theorem BerthConfig.delayOf_eq (c : BerthConfig) (kind : PulseKind) : c.pulseDelay kind = c.delayOf kind := by
  cases kind <;> rfl

theorem BerthConfig.widthOf_eq (c : BerthConfig) (kind : PulseKind) : c.pulseWidth kind = c.widthOf kind := by
  cases kind <;> rfl

/-- The coil energized, in the words of the statement (R119, R121). -/
theorem energize_eq {p : Pulse} (pulse : (s.station i).lpu.pulse = some p) :
    energize s i = (s.modLpu i fun l => l.energizes p s.settings).occurrence .latchPulse i := by
  dsimp only [energize]
  refine congrArg (fun u : State => u.occurrence .latchPulse i) (State.modLpu_congr ?_)
  rw [pulse]
  generalize (s.station i).lpu = l
  cases own : p.ofSequence <;> cases sequence : l.sequence <;>
    simp [Lpu.energizes, own, sequence, Sequence.confirms, BerthConfig.confirmTimeout]

/-- A pulse of this kind begins with these settings (R119). -/
def BerthConfig.pulseOf (c : BerthConfig) (kind : PulseKind) : Pulse :=
  { kind := kind, phase := .delay, remaining := c.delayOf kind, width := c.widthOf kind, ofSequence := true }

/-- A pulse with a delay begins after an update of the LPU (R119). -/
theorem beginPulse_delayed {kind : PulseKind} (f : Lpu → Lpu) (delayed : s.settings.delayOf kind ≠ 0) :
    beginPulse (s.modLpu i f) i kind =
      s.modLpu i fun l => { f l with attempts := (f l).attempts + 1, pulse := some (s.settings.pulseOf kind) } := by
  have settings : (s.modLpu i f).settings = s.settings := rfl
  dsimp only [beginPulse]
  rw [settings, BerthConfig.delayOf_eq, BerthConfig.widthOf_eq, if_neg delayed, State.modLpu_modLpu]
  rfl

/-- One without is energized at once (R119, R121). -/
theorem beginPulse_atOnce {kind : PulseKind} (f : Lpu → Lpu) (atOnce : s.settings.delayOf kind = 0) :
    beginPulse (s.modLpu i f) i kind =
      (s.modLpu i fun l => Lpu.energizes { f l with attempts := (f l).attempts + 1 } (s.settings.pulseOf kind)
        s.settings).occurrence .latchPulse i := by
  have settings : (s.modLpu i f).settings = s.settings := rfl
  dsimp only [beginPulse]
  rw [settings, BerthConfig.delayOf_eq, BerthConfig.widthOf_eq, if_pos atOnce, State.modLpu_modLpu,
    energize_eq (p := s.settings.pulseOf kind) (by rw [State.station_modLpu_same]; rfl), State.modLpu_modLpu]
  rfl

/-- The latch confirms the sequence in being when confirmation is open and it reads the target (R122). -/
theorem StationState.confirmsNow_iff_atTarget (a : StationState) :
    a.confirmsNow = true ↔ a.lpu.confirmOpen = true ∧ a.atTarget := by
  rw [confirmsNow_iff]
  cases sequence : a.lpu.sequence <;> 
    simp [Sequence.target, StationState.atTarget, sequence, eq_comm (a := LatchPosition.closed),
      eq_comm (a := LatchPosition.opened)]

/-- What a step confirms is confirmed from the state before it, if the step touched the pulses of the station alone. -/
theorem SequenceConfirmed.of_lpu {s u t : State} {i : Station} {l : Lpu} (h : SequenceConfirmed i u t)
    (station : u.station i = { s.station i with lpu := l }) (sequence : l.sequence = (s.station i).lpu.sequence)
    (settings : u.settings = s.settings) (berthTime : u.berthTime = s.berthTime) : SequenceConfirmed i s t := by
  obtain ⟨ended, closed, timer, queued, reported, locks, releases⟩ := h
  rw [station, settings, berthTime] at locks releases
  exact ⟨ended, closed, timer, queued, reported, fun lock => locks (sequence.trans lock),
    fun release => releases (sequence.trans release)⟩

/-- A confirmation ends the sequence, and an entry into FAULT that it brings leaves the pulses so (R122, R125). -/
theorem confirmTest_pulse (confirms : (s.station i).confirmsNow = true) (wanted : s.sequenceWanted i) :
    ((confirmTest s i).station i).lpu.pulse = (s.station i).lpu.confirmed.pulse := by
  have station : (s.modLpu i Lpu.confirmed).station i = { s.station i with lpu := (s.station i).lpu.confirmed } :=
    State.station_modLpu_same _ _ _
  have outcome : confirmTest s i = reportConfirmed (s.modLpu i Lpu.confirmed) i (s.station i).lpu.sequence := if_pos confirms
  rw [outcome]
  generalize s.modLpu i Lpu.confirmed = u at *
  have lpu : (u.station i).lpu = (s.station i).lpu.confirmed := by rw [station]
  rcases wanted with ⟨lock, locking, good⟩ | ⟨release, releasing⟩
  · have enters : reportConfirmed u i (s.station i).lpu.sequence = enterTakingUp u i := by
      simp only [reportConfirmed, lock, station, locking]
    have stands : (u.station i).mu.lost = false := by rw [station]; exact good
    rw [enters]
    by_cases zero : (u.station i).mu.count = 0
    · obtain ⟨handed, entered⟩ := enterTakingUp_at_zero stands zero
      rw [entered.station.lpu]
      dsimp only [StationState.inFault, StationState.takingUp]
      rw [lpu]
      rfl
    · rw [(enterTakingUp_becomes stands zero).station.lpu, ← lpu]
      rfl
  · have enters : reportConfirmed u i (s.station i).lpu.sequence = releaseConfirmed u i := by
      simp only [reportConfirmed, release, station, releasing]
    rw [enters, releaseConfirmed]
    split
    · rcases enterRewinding_lpu u i .releaseConfirmed with same | same
      · rw [same, lpu]
      · rw [same, lpu]
        rfl
    · rw [(enterLineOut_becomes u i .releaseConfirmed).station.lpu, ← lpu]
      rfl

/-- A pulse energized at the target of its sequence confirms it, and LATCH_PULSE is counted once (R119, R122; log 5). -/
theorem energized_confirms {l : Lpu} {p : Pulse} (u : State)
    (energized : u = (s.modLpu i fun _ => l.energizes p s.settings).occurrence .latchPulse i)
    (own : p.ofSequence = true) (sequence : l.sequence = (s.station i).lpu.sequence) (target : (s.station i).atTarget)
    (wanted : s.sequenceWanted i) :
    SequenceConfirmed i s (confirmTest u i) ∧ PulseCounted i s (confirmTest u i) ∧
      ((confirmTest u i).station i).lpu.pulse =
        some { p with phase := .energized, remaining := p.width, ofSequence := false } := by
  have counts := CountsOnly.occurrence (s.modLpu i fun _ => l.energizes p s.settings) .latchPulse i
  have counted := State.occurrence_congr (s := s) (t := s.modLpu i fun _ => l.energizes p s.settings) rfl rfl .latchPulse i
  rw [← energized] at counts counted
  have station : u.station i = { s.station i with lpu := l.energizes p s.settings } := by
    rw [counts.station, State.station_modLpu_same]
  have settings : u.settings = s.settings := congrArg BerthSettings.config counts.berth.berth
  have kept : (l.energizes p s.settings).sequence = (s.station i).lpu.sequence := sequence
  have confirms : (u.station i).confirmsNow = true := by
    rw [StationState.confirmsNow_iff_atTarget, station]
    refine ⟨?_, ?_⟩
    · have known : l.sequence ∈ [Sequence.lock, .release] := by
        rw [sequence]
        rcases target with ⟨lock, -⟩ | ⟨release, -⟩
        · simp [lock]
        · simp [release]
      exact if_pos ⟨own, known⟩
    · simpa only [StationState.atTarget, kept, StationState.latch] using target
  have stillWanted : u.sequenceWanted i := by
    simpa only [State.sequenceWanted, station, kept] using wanted
  refine ⟨(confirmTest_confirmed confirms stillWanted).of_lpu station kept settings counts.berth.berthTime,
    ⟨fun n kind => ?_, ?_⟩, ?_⟩
  · have quiet := (Uncounted.confirmTest (.inr rfl) u i).counters n (.inr (by rw [counts.counters]; exact kind))
    rw [quiet, counted.1]
  · rw [← counted.2]
    exact (Uncounted.confirmTest (kind := .latchPulse) (.inr rfl) u i).reports
  · rw [confirmTest_pulse confirms stillWanted, station]
    simp [Lpu.confirmed, Lpu.energizes, Pulse.released]

/-- No confirmation where the latch does not read the target (R122). -/
theorem confirmTest_rests {l : Lpu} {u : State} (station : (u.station i) = { s.station i with lpu := l })
    (rests : l.confirmOpen = true → l.sequence = (s.station i).lpu.sequence → ¬(s.station i).atTarget)
    (kept : l.sequence = (s.station i).lpu.sequence ∨ l.sequence = .none) : confirmTest u i = u := by
  refine confirmTest_of_not (Bool.eq_false_iff.mpr fun confirms => ?_)
  rw [StationState.confirmsNow_iff_atTarget, station] at confirms
  obtain ⟨confirmOpen, target⟩ := confirms
  rcases kept with same | ended
  · refine rests confirmOpen same ?_
    simpa only [StationState.atTarget, same, StationState.latch] using target
  · simp [StationState.atTarget, ended] at target

theorem occurrence_modLpu_station (f : Lpu → Lpu) (kind : CounterKind) :
    ((s.modLpu i f).occurrence kind i).station i = { s.station i with lpu := f (s.station i).lpu } := by
  rw [State.occurrence_station, State.station_modLpu_same]

theorem Lpu.energizes_confirmOpen {l : Lpu} {p : Pulse} {c : BerthConfig} (h : (l.energizes p c).confirmOpen = true) :
    p.ofSequence = true ∨ l.confirmOpen = true := by
  dsimp only [Lpu.energizes] at h
  split at h
  · next own => exact .inl own.1
  · exact .inr h

/-! ### The end of a pulse's width -/

/-- The coil off and the queue taken (R119, R120, R126). -/
theorem endPulse_unqueued {p : Pulse} (pulse : (s.station i).lpu.pulse = some p)
    (queued : (s.station i).lpu.queued = none) :
    endPulse s i = s.modLpu i fun l => { l with
      pulse := none
      sequence := if l.sequence = .headOpen ∧ p.ofSequence = true then .none else l.sequence } := by
  simp only [endPulse, queued]
  refine State.modLpu_congr ?_
  simp [pulse, queued]

theorem endPulse_queued {p : Pulse} {next : PulseKind} (pulse : (s.station i).lpu.pulse = some p)
    (queued : (s.station i).lpu.queued = some next)
    (goesOn : ¬((s.station i).lpu.sequence = .headOpen ∧ p.ofSequence = true)) :
    endPulse s i = beginPulse (s.modLpu i fun l => { l with pulse := none, queued := none }) i next := by
  simp only [endPulse, queued]
  refine congrArg (fun u => beginPulse u i next) (State.modLpu_congr ?_)
  have stands : (decide ((s.station i).lpu.sequence = .headOpen) &&
      ((s.station i).lpu.pulse.map Pulse.ofSequence == some true)) = false := by
    simpa [pulse] using goesOn
  rw [stands]
  rfl

end Lpu

/-- Settles O49: how a pulse is energized and how one begins behind another, and that a confirmation counts no pulse. -/
theorem pulseDelayAndWidthEnd : Obligations.PulseDelayAndWidthEnd := by
  unfold Obligations.PulseDelayAndWidthEnd
  intro s i p next ended pulse
  refine ⟨fun delay => ?_, fun energized => ?_⟩
  · have due : (s.station i).lpu.pulseDue .delay = true := by simp [Lpu.pulseDue, pulse, delay, ended]
    have runs : exec (.pulseDelayEnd i) s = .next (confirmTest (energize s i) i) := congrArg Host.Outcome.next (if_pos due)
    rw [runs, energize_eq pulse]
    refine ⟨fun away => congrArg Host.Outcome.next ?_, fun own target wanted => ⟨_, rfl, ?_⟩⟩
    · exact confirmTest_rests (occurrence_modLpu_station _ _) (fun confirmOpen _ => away (Lpu.energizes_confirmOpen confirmOpen))
        (.inl rfl)
    · refine energized_confirms _ ?_ own rfl target wanted
      exact congrArg (fun u : State => u.occurrence .latchPulse i) (State.modLpu_congr rfl)
  · have due : (s.station i).lpu.pulseDue .energized = true := by simp [Lpu.pulseDue, pulse, energized, ended]
    have runs : exec (.pulseWidthEnd i) s = .next (confirmTest (endPulse s i) i) := congrArg Host.Outcome.next (if_pos due)
    rw [runs]
    refine ⟨fun unqueued rests => congrArg Host.Outcome.next ?_, fun queued goesOn => ?_⟩
    · rw [endPulse_unqueued pulse unqueued]
      refine confirmTest_rests (State.station_modLpu_same _ _ _) (fun confirmOpen _ => rests confirmOpen) ?_
      dsimp only
      split
      exacts [.inr rfl, .inl rfl]
    · rw [endPulse_queued pulse queued goesOn]
      refine ⟨fun delayed rests => congrArg Host.Outcome.next ?_, fun atOnce away => congrArg Host.Outcome.next ?_,
        fun atOnce target wanted => ⟨_, rfl, ?_⟩⟩
      · rw [beginPulse_delayed _ (Nat.pos_iff_ne_zero.mp delayed)]
        exact confirmTest_rests (State.station_modLpu_same _ _ _) (fun confirmOpen _ => rests confirmOpen) (.inl rfl)
      · rw [beginPulse_atOnce _ atOnce]
        exact confirmTest_rests (occurrence_modLpu_station _ _) (fun _ _ => away) (.inl rfl)
      · rw [beginPulse_atOnce _ atOnce]
        refine energized_confirms (l := { (s.station i).lpu with
          pulse := none, queued := none, attempts := (s.station i).lpu.attempts + 1 })
          (p := s.settings.pulseOf next) _ ?_ rfl rfl target wanted
        exact congrArg (fun u : State => u.occurrence .latchPulse i) (State.modLpu_congr rfl)

/-! ### The confirm timeout -/

/-- Settles O50: with attempts left the next pulse begins or is queued, and with none left the sequence ends in a detection. -/
theorem confirmTimeoutActs : Obligations.ConfirmTimeoutActs := by
  unfold Obligations.ConfirmTimeoutActs
  intro s i elapsed limit p out timer confirmOpen serves
  have due : (s.station i).lpu.confirmDue = true := by simp [Lpu.confirmDue, timer, confirmOpen, Timer.due, out]
  have runs : exec (.confirmTimeout i) s = .next (confirmTimesOut s i) := congrArg Host.Outcome.next (if_pos due)
  have away : ¬(s.station i).atTarget := by
    rintro (⟨lock, closed⟩ | ⟨release, opened⟩)
    · rcases serves with ⟨-, -, other⟩ | ⟨release, -, -⟩
      · exact other closed
      · simp [lock] at release
    · rcases serves with ⟨lock, -, -⟩ | ⟨-, -, other⟩
      · simp [release] at lock
      · exact other opened
  have kind : (s.station i).lpu.sequence.kind = if (s.station i).lpu.sequence = .lock then .lock else .release := by
    cases (s.station i).lpu.sequence <;> rfl
  rw [runs]
  refine ⟨fun left => ?_, fun spent good => ⟨_, rfl, ?_⟩⟩
  · have retries : confirmTimesOut s i =
        confirmTest (askPulse (s.modLpu i fun l => { l with confirmTimer := none }) i (s.station i).lpu.sequence.kind) i :=
      if_pos left
    rw [retries, kind]
    refine ⟨fun pulse => congrArg Host.Outcome.next ?_, fun idle => ⟨_, rfl, ?_⟩⟩
    · rw [askPulse, if_pos (by rw [State.station_modLpu_same]; simp [pulse]), State.modLpu_modLpu]
      rw [confirmTest_rests (State.station_modLpu_same _ _ _) (fun _ _ => away) (.inl rfl)]
      exact State.modLpu_congr rfl
    · rw [askPulse, if_neg (by rw [State.station_modLpu_same]; simp [idle])]
      generalize (if (s.station i).lpu.sequence = .lock then PulseKind.lock else .release) = kind
      by_cases atOnce : s.settings.delayOf kind = 0
      · rw [beginPulse_atOnce _ atOnce,
          confirmTest_rests (occurrence_modLpu_station _ _) (fun _ _ => away) (.inl rfl), occurrence_modLpu_station]
        exact ⟨rfl, rfl, rfl, by simp [Lpu.energizes, confirmOpen], by simp [Lpu.energizes, atOnce, BerthConfig.pulseOf]⟩
      · rw [beginPulse_delayed _ atOnce,
          confirmTest_rests (State.station_modLpu_same _ _ _) (fun _ _ => away) (.inl rfl), State.station_modLpu_same]
        exact ⟨rfl, rfl, rfl, confirmOpen, by simp [atOnce, BerthConfig.pulseOf]⟩
  · have state : (s.station i).lcc.lineState ≠ .offline ∧ (s.station i).lcc.lineState ≠ .fault := by
      rcases serves with ⟨-, h, -⟩ | ⟨-, h, -⟩ <;> simp [h]
    have exhausts : confirmTimesOut s i = detect (s.modLpu i Lpu.exhausted) i
        (if (s.station i).lpu.sequence = .lock then .latchNotClosed else .latchNotOpen) := by
      rw [confirmTimesOut, if_neg (by omega), attemptsExhausted]
      rcases serves with ⟨h, -, -⟩ | ⟨h, -, -⟩ <;> simp [h]
    have becomes := (StationBecomes.refl i s).modLpu Lpu.exhausted
    have station : (s.modLpu i Lpu.exhausted).station i = { s.station i with lpu := (s.station i).lpu.exhausted } :=
      State.station_modLpu_same _ _ _
    have serving : ((s.modLpu i Lpu.exhausted).station i).lcc.lineState ≠ .offline := by rw [station]; exact state.1
    have outside : ((s.modLpu i Lpu.exhausted).station i).lcc.lineState ≠ .fault := by rw [station]; exact state.2
    rw [exhausts]
    generalize (if (s.station i).lpu.sequence = .lock then FaultKind.latchNotClosed else .latchNotOpen) = fault
    obtain ⟨handed, entered⟩ := detect_leaves serving outside fault
    refine ⟨(detect_moved serving fault).after becomes, ?_, ?_⟩
    · rw [detect_lcc_good serving outside (by rw [station]; exact good), station]
      rfl
    · rw [entered.station.lpu]
      dsimp only [StationState.inFault]
      rw [station]
      exact ⟨rfl, rfl, rfl, rfl, rfl⟩

end Sys2Proof.Machine

/-!
PROOF. A filtered level of a station's sensor: HEAD_SEATED and STOWED at the LCC (O46) and the latch sensors (O47; R13, R16, R18,
R22, R24, R26, R28, R122, R131, R133).
-/
namespace Sys2Proof.Machine

/-! ### A pending level that has held -/

section Passes

variable {s : State} {i : Station} {which : Sensor} {f : Filter} {p : PendingLevel}

/-- The pending level of a sensor has become its filtered level (R133). -/
def State.passed (s : State) (i : Station) (which : Sensor) (level : Bool) : State :=
  s.modFilters i fun g => g.set which { level := level, held := none }

theorem passed_station (s : State) (i : Station) (which : Sensor) (level : Bool) :
    (s.passed i which level).station i =
      { s.station i with filters := (s.station i).filters.set which { level := level, held := none } } :=
  State.station_modFilters_same _ _ _

theorem passed_station_ne (s : State) {i j : Station} (which : Sensor) (level : Bool) (h : j ≠ i) :
    (s.passed i which level).station j = s.station j :=
  State.station_modFilters_ne _ _ h

theorem passed_becomes (s : State) (i : Station) (which : Sensor) (level : Bool) :
    StationBecomes i s (s.passed i which level)
      { s.station i with filters := (s.station i).filters.set which { level := level, held := none } } :=
  (StationBecomes.refl i s).setStation _

/-- FILTER_WIDTH_ELAPSED at a sensor whose pending level has held for its width (R133). -/
theorem exec_filterWidthElapsed {level : Bool} (found : (s.station i).filters.get which = { level := level, held := some p })
    (held : p.width ≤ p.age) :
    exec (.filterWidthElapsed (.sensor i which)) s =
      .next (levelMoved (s.passed i which !level) (.sensor i which) (!level) fun j => (s.station j).latch) := by
  have filter : s.filter (.sensor i which) = { level := level, held := some p } := found
  have due : (s.filter (.sensor i which)).due = true := by simp [filter, Filter.due, held]
  have arm : exec (.filterWidthElapsed (.sensor i which)) s =
      .next (if (s.filter (.sensor i which)).due then filterPasses s (.sensor i which) else s) := rfl
  rw [arm, if_pos due, filterPasses, filter]
  rfl

end Passes

/-! ### HEAD_SEATED and STOWED -/

section Head

variable {s : State} {i : Station} {p : PendingLevel}

/-- A seated head in PAYING_OUT or LINE_OUT (R13, R16, R28). -/
theorem headSeated_rises (held : p.width ≤ p.age) (good : (s.station i).mu.lost = false)
    (found : (s.station i).filters.headSeated = { level := false, held := some p })
    (state : (s.station i).lcc.lineState = .payingOut ∨ (s.station i).lcc.lineState = .lineOut) :
    ∃ t, exec (.filterWidthElapsed (.sensor i .headSeated)) s = .next t ∧ ReportEntry.station i ∈ t.link.reports ∧
      ((s.station i).lcc.lockMode = .onRequest → (t.station i).lcc =
        { (s.station i).lcc.between .seated .seated with armExpiry := none, dose := 0, overloadHeld := false }) ∧
      ((s.station i).lcc.lockMode = .auto → (s.station i).latch ≠ .closed →
        (t.station i).lcc =
          { (s.station i).lcc.between .locking .seated with armExpiry := none, dose := 0, overloadHeld := false } ∧
        (t.station i).lpu = (s.station i).lpu.asked .lock .lock s.settings.retries s.settings.lockDelay
          s.settings.lockWidth s.settings.lockConfirmTimeout) := by
  have station := passed_station s i .headSeated true
  have settings : (s.passed i .headSeated true).settings = s.settings := rfl
  have runs := exec_filterWidthElapsed (which := .headSeated) found held
  have seats : levelMoved (s.passed i .headSeated true) (.sensor i .headSeated) true (fun j => (s.station j).latch) =
      enterSeated (s.passed i .headSeated true) i .seated := by
    dsimp only [levelMoved, headSeats]
    rw [station]
    rcases state with h | h <;> simp [h]
  refine ⟨_, runs, ?_⟩
  rw [Bool.not_false, seats]
  generalize s.passed i .headSeated true = u at *
  have moved := changeState_becomes u i .seated .seated
  have lockMode : (u.station i).lcc.lockMode = (s.station i).lcc.lockMode := by rw [station]
  dsimp only [enterSeated]
  rw [lockMode]
  refine ⟨?_, fun onRequest => ?_, fun auto open_ => ?_⟩
  · split
    · rw [enterLocking_eq]
      exact mem_reports_sequenceEntered _ i _ _ _
    · exact mem_reports_changeState u i _ _
  · rw [if_neg (by simp [onRequest]), moved.station.lcc, station]
    rfl
  · have asked := sequenceAsked_becomes (changeState u i .seated .seated) i .locking .seated .lock
    have seated := moved.station
    have kept := moved.settings
    rw [if_pos auto, enterLocking_eq]
    generalize changeState u i .seated .seated = w at *
    rw [sequenceEntered_waits rfl (by rw [seated.mu]; rw [station]; exact good)
      (fun atOnce => open_ ?_), asked.station.lcc, asked.station.lpu]
    · dsimp only [StationState.asking, StationState.moved]
      rw [seated.lcc, seated.lpu, kept, settings]
      dsimp only [StationState.moved]
      rw [station]
      exact ⟨rfl, rfl⟩
    · have target : LatchPosition.closed = (w.station i).latch := Option.some.inj atOnce.1
      rw [target, latch_of_same seated]
      dsimp only [StationState.moved]
      rw [station]
      rfl

/-- A head that falls (R16, R18, R22, R30). -/
theorem headSeated_falls (held : p.width ≤ p.age) (good : (s.station i).mu.lost = false)
    (found : (s.station i).filters.headSeated = { level := true, held := some p }) :
    ∃ t, exec (.filterWidthElapsed (.sensor i .headSeated)) s = .next t ∧
      ((s.station i).lcc.lineState = .seated →
        (t.station i).lcc = ((s.station i).lcc.between .lineOut .seatLost).slack) ∧
      ((s.station i).lcc.lineState ∈ [LineState.locking, .takingUp, .holding, .adjusting] →
        (t.station i).lcc =
          (s.station i).lccInFault .headLost (s.station i).lcc.lineState s.berthTime) ∧
      ((s.station i).lcc.lineState = .fault → (s.station i).latch = .closed →
        (t.station i).lcc = { (s.station i).lcc with
          fault := (s.station i).lcc.fault.map fun r => { r with further := r.further ||| (1 <<< 9) } }) ∧
      ((s.station i).lcc.lineState ∈ [LineState.offline, .stowed, .payingOut, .releasing, .rewinding, .lineOut] →
        (t.station i).lcc = (s.station i).lcc) := by
  have station := passed_station s i .headSeated false
  have berthTime : (s.passed i .headSeated false).berthTime = s.berthTime := rfl
  have runs := exec_filterWidthElapsed (which := .headSeated) found held
  refine ⟨_, runs, ?_⟩
  have falls : levelMoved (s.passed i .headSeated false) (.sensor i .headSeated) false (fun j => (s.station j).latch) =
      headUnseats (s.passed i .headSeated false) i := rfl
  rw [Bool.not_true, falls]
  generalize s.passed i .headSeated false = u at *
  have lcc : (u.station i).lcc = (s.station i).lcc := by rw [station]
  have latch : (u.station i).latch = (s.station i).latch := by rw [station]; rfl
  refine ⟨fun state => ?_, fun listed => ?_, fun state closed => ?_, fun listed => ?_⟩
  · have leaves : headUnseats u i = enterLineOut u i .seatLost := by simp only [headUnseats, lcc, state]
    rw [leaves, (enterLineOut_becomes u i .seatLost).station.lcc, StationState.moved, lcc]
    rfl
  · simp only [List.mem_cons, List.not_mem_nil, or_false] at listed
    have detects : headUnseats u i = detect u i .headLost := by
      rcases listed with h | h | h | h <;> simp only [headUnseats, lcc, h]
    have outside : (u.station i).lcc.lineState ≠ .offline ∧ (u.station i).lcc.lineState ≠ .fault := by
      rcases listed with h | h | h | h <;> simp [lcc, h]
    rw [detects, detect_lcc_good outside.1 outside.2 (by rw [station]; exact good), station, berthTime]
    rfl
  · have detects : headUnseats u i = detect u i .headLost := by
      simp only [headUnseats, lcc, state, latch, closed, if_true]
    rw [detects, detect_lcc_fault (by rw [lcc, state]), lcc]
    rfl
  · simp only [List.mem_cons, List.not_mem_nil, or_false] at listed
    have stands : headUnseats u i = u := by
      rcases listed with h | h | h | h | h | h <;> simp only [headUnseats, lcc, h]
    rw [stands, lcc]

/-- The sensor STOWED rises (R26, R28, R39, R42). -/
theorem stowed_rises (held : p.width ≤ p.age)
    (found : (s.station i).filters.stowed = { level := false, held := some p }) :
    ∃ t, exec (.filterWidthElapsed (.sensor i .stowed)) s = .next t ∧
      ((s.station i).lcc.lineState = .rewinding →
        (t.station i).lcc = ((s.station i).lcc.between .stowed .stowed).slack ∧
        (t.station i).mu.count = 0 ∧ (t.station i).mu.referenced = true ∧
        (t.station i).mu.correction = some (match (s.station i).lcc.creepCount with
          | none => ((s.station i).mu.count : Int)
          | some c => -(c : Int)) ∧
        ReportEntry.station i ∈ t.link.reports) ∧
      ((s.station i).lcc.lineState ≠ .rewinding → (t.station i).lcc = (s.station i).lcc ∧
        (t.station i).mu = (s.station i).mu) := by
  have station := passed_station s i .stowed true
  have runs := exec_filterWidthElapsed (which := .stowed) found held
  refine ⟨_, runs, ?_⟩
  have rises : levelMoved (s.passed i .stowed true) (.sensor i .stowed) true (fun j => (s.station j).latch) =
      stowedRises (s.passed i .stowed true) i := rfl
  rw [Bool.not_false, rises]
  generalize s.passed i .stowed true = u at *
  have lcc : (u.station i).lcc = (s.station i).lcc := by rw [station]
  have mu : (u.station i).mu = (s.station i).mu := by rw [station]
  refine ⟨fun state => ?_, fun elsewhere => ?_⟩
  · have arrives : stowedRises u i = arrive u i := by simp only [stowedRises, lcc, state]
    have same := (arrive_becomes u i).station
    rw [arrives, same.lcc, StationState.moved, lcc]
    refine ⟨rfl, by rw [same.mu], by rw [same.mu], ?_, mem_reports_changeState u i _ _⟩
    rw [same.mu]
    dsimp only [StationState.arrivalCorrection]
    rw [lcc, mu]
    cases (s.station i).lcc.creepCount <;> rfl
  · have stands : stowedRises u i = u := by
      unfold stowedRises
      split
      · next state => exact absurd (lcc ▸ state) elsewhere
      · rfl
    rw [stands]
    exact ⟨lcc, mu⟩

end Head

/-- Settles O46: what the LCC does as the head seats, as it falls, and as the stowed sensor rises. -/
theorem headAndStowedSensors : Obligations.HeadAndStowedSensors := by
  unfold Obligations.HeadAndStowedSensors
  intro s i p held good
  exact ⟨fun found state => headSeated_rises held good found state, fun found => headSeated_falls held good found,
    fun found => stowed_rises held found⟩

/-! ### The latch sensors -/

/-- The conflict timer of the station stands. -/
def ConflictKept (i : Station) (s t : State) : Prop :=
  (t.station i).lpu.conflictTimer = (s.station i).lpu.conflictTimer

section Conflict

variable {s t u : State} {i : Station}

theorem ConflictKept.trans (h : ConflictKept i s t) (k : ConflictKept i t u) : ConflictKept i s u := Eq.trans k h

theorem StationBecomes.conflictKept {a : StationState} (h : StationBecomes i s t a)
    (same : a.lpu.conflictTimer = (s.station i).lpu.conflictTimer) : ConflictKept i s t :=
  (congrArg Lpu.conflictTimer h.station.lpu).trans same

/-- An entry into FAULT ends a sequence, not the conflict timer (R125, R131). -/
theorem ConflictKept.detect (s : State) (i : Station) (kind : FaultKind) : ConflictKept i s (detect s i kind) := by
  unfold Machine.detect
  split
  · exact rfl
  · exact (addFurther_becomes s i kind).conflictKept rfl
  · obtain ⟨handed, entered⟩ := enterFault_leaves s i kind
    exact entered.conflictKept rfl

theorem ConflictKept.confirmTest (s : State) (i : Station) : ConflictKept i s (confirmTest s i) := by
  have tested (u : State) : ConflictKept i u (limitTest u i) := by
    unfold limitTest
    split
    exacts [.detect u i _, rfl]
  have lost (u : State) : ConflictKept i u (lostAtEntry u i) := by
    unfold lostAtEntry
    split
    exacts [.detect u i _, rfl]
  unfold Machine.confirmTest reportConfirmed releaseConfirmed
  split
  · refine ConflictKept.trans (((StationBecomes.refl i s).modLpu Lpu.confirmed).conflictKept rfl) ?_
    generalize s.modLpu i Lpu.confirmed = u
    split
    · rw [enterTakingUp_eq]
      exact (((takeupBegun_becomes u i).conflictKept rfl).trans (tested _)).trans (lost _)
    · split
      · rcases enterRewinding_lpu u i .releaseConfirmed with same | same
        · exact congrArg Lpu.conflictTimer same
        · exact (congrArg Lpu.conflictTimer same).trans rfl
      · exact (enterLineOut_becomes u i _).conflictKept rfl
    · rfl
  · rfl

end Conflict

section Latch

variable {s u : State} {i : Station} {p : PendingLevel} {which : Sensor} {old : LatchPosition}

/-- FILTER_WIDTH_ELAPSED at a latch sensor of a station in service (R5, R133). -/
theorem exec_latchSensor {level : Bool} (sensor : which = .latchClosed ∨ which = .latchOpen)
    (serving : (s.station i).lcc.lineState ≠ .offline)
    (found : (s.station i).filters.get which = { level := level, held := some p }) (held : p.width ≤ p.age) :
    exec (.filterWidthElapsed (.sensor i which)) s =
      .next (latchMoved (s.passed i which !level) i (s.station i).latch) := by
  have runs := exec_filterWidthElapsed found held
  have inService : (s.passed i which !level).inService i = true := by
    rw [State.inService, passed_station]
    exact decide_eq_true serving
  refine runs.trans (congrArg Host.Outcome.next ?_)
  rcases sensor with rfl | rfl
  · exact if_pos inService
  · exact if_pos inService

/-- The conflict timer follows the position (R131). -/
theorem watchConflict_station (u : State) (i : Station) :
    (watchConflict u i).station i = { u.station i with lpu := { (u.station i).lpu with
      conflictTimer := if (u.station i).latch = .conflict then .running 0 u.settings.lockConfirmTimeout else .absent } } :=
  State.station_modLpu_same _ _ _

theorem watchConflict_becomes (u : State) (i : Station) :
    StationBecomes i u (watchConflict u i) { u.station i with lpu := { (u.station i).lpu with
      conflictTimer := if (u.station i).latch = .conflict then .running 0 u.settings.lockConfirmTimeout else .absent } } :=
  (StationBecomes.refl i u).modLpu _

/-- A position that no sequence has for its target confirms nothing (R122). -/
theorem confirmTest_untargeted (untargeted : ∀ sequence : Sequence, sequence.target ≠ some (u.station i).latch) :
    confirmTest u i = u :=
  confirmTest_of_not (Bool.eq_false_iff.mpr fun confirms => untargeted _ ((confirmsNow_iff _).mp confirms).2)

theorem Sequence.target_ne_conflict (sequence : Sequence) : sequence.target ≠ some .conflict := by
  cases sequence <;> simp [Sequence.target]

/-- What a latch position that has moved brings about outside the states that it tells something of (R5). -/
theorem latchMoved_quiet (moved : (u.station i).latch ≠ old)
    (state : (u.station i).lcc.lineState ∉ [LineState.takingUp, .holding, .adjusting, .fault]) :
    latchMoved u i old = confirmTest (watchConflict u i) i := by
  cases now : (u.station i).lcc.lineState <;> simp_all [latchMoved]

/-- In a state that holds the ferry (R22). -/
theorem latchMoved_holding (moved : (u.station i).latch ≠ old)
    (state : (u.station i).lcc.lineState ∈ [LineState.takingUp, .holding, .adjusting]) :
    latchMoved u i old =
      if (u.station i).latch = .opened then detect (confirmTest (watchConflict u i) i) i .headLost
      else confirmTest (watchConflict u i) i := by
  simp only [List.mem_cons, List.not_mem_nil, or_false] at state
  rcases state with h | h | h <;> simp only [latchMoved, if_neg moved, h]

/-- In FAULT a latch that leaves CLOSED ends the dose (R4). -/
theorem latchMoved_unclosed (moved : (u.station i).latch ≠ .closed) (state : (u.station i).lcc.lineState = .fault) :
    latchMoved u i .closed =
      if (u.station i).lcc.overloadHeld || (u.station i).mu.lost then
        ((confirmTest (watchConflict u i) i).modLcc i fun l => { l with dose := 0, overloadHeld := false }).reportStation i
      else (confirmTest (watchConflict u i) i).modLcc i fun l => { l with dose := 0, overloadHeld := false } := by
  simp only [latchMoved, if_neg moved, state, if_true]

/-- In FAULT otherwise (R4, R52). -/
theorem latchMoved_fault (moved : (u.station i).latch ≠ old) (state : (u.station i).lcc.lineState = .fault)
    (unclosed : old ≠ .closed) :
    latchMoved u i old =
      if (u.station i).latch = .closed ∧ (u.station i).mu.lost = true then
        detect (confirmTest (watchConflict u i) i) i .sensorLost
      else confirmTest (watchConflict u i) i := by
  simp only [latchMoved, if_neg moved, state, if_neg unclosed]

/-- After the position has moved only the conflict timer follows it (R131). -/
theorem latchMoved_conflictKept (moved : (u.station i).latch ≠ old) :
    ConflictKept i (watchConflict u i) (latchMoved u i old) := by
  have confirmed := ConflictKept.confirmTest (watchConflict u i) i
  have detected (kind : FaultKind) := confirmed.trans (.detect _ i kind)
  have ended : ConflictKept i (watchConflict u i)
      ((confirmTest (watchConflict u i) i).modLcc i fun l => { l with dose := 0, overloadHeld := false }) :=
    confirmed.trans (((StationBecomes.refl i _).modLcc _).conflictKept rfl)
  by_cases fault : (u.station i).lcc.lineState = .fault
  · by_cases unclosed : old = .closed
    · subst unclosed
      rw [latchMoved_unclosed moved fault]
      split
      exacts [ended, ended]
    · rw [latchMoved_fault moved fault unclosed]
      split
      exacts [detected _, confirmed]
  · by_cases holding : (u.station i).lcc.lineState ∈ [LineState.takingUp, .holding, .adjusting]
    · rw [latchMoved_holding moved holding]
      split
      exacts [detected _, confirmed]
    · rw [latchMoved_quiet moved (by simp_all)]
      exact confirmed

/-- A position that becomes CONFLICT confirms nothing and is no HEAD_LOST; in FAULT it ends the dose (R4, R131). -/
theorem latchMoved_conflict (conflict : (u.station i).latch = .conflict) (moved : old ≠ .conflict) :
    latchMoved u i old = watchConflict u i ∨ ((u.station i).lcc.lineState = .fault ∧
      (latchMoved u i old = (watchConflict u i).modLcc i (fun l => { l with dose := 0, overloadHeld := false }) ∨
        latchMoved u i old =
          ((watchConflict u i).modLcc i fun l => { l with dose := 0, overloadHeld := false }).reportStation i)) := by
  have other : (u.station i).latch ≠ old := by rw [conflict]; exact moved.symm
  have latch : ((watchConflict u i).station i).latch = .conflict := by rw [watchConflict_station]; exact conflict
  have rests : confirmTest (watchConflict u i) i = watchConflict u i :=
    confirmTest_untargeted fun sequence => by rw [latch]; exact sequence.target_ne_conflict
  by_cases fault : (u.station i).lcc.lineState = .fault
  · by_cases unclosed : old = .closed
    · subst unclosed
      rw [latchMoved_unclosed other fault, rests]
      split
      exacts [.inr ⟨fault, .inr rfl⟩, .inr ⟨fault, .inl rfl⟩]
    · rw [latchMoved_fault other fault unclosed, rests, if_neg (by simp [conflict])]
      exact .inl rfl
  · left
    by_cases holding : (u.station i).lcc.lineState ∈ [LineState.takingUp, .holding, .adjusting]
    · rw [latchMoved_holding other holding, rests, if_neg (by simp [conflict])]
    · rw [latchMoved_quiet other (by simp_all), rests]

end Latch

section Moves

variable {s : State} {i : Station} {p : PendingLevel} {which partner : Sensor}

/-- The latch sensors, each with the other one. -/
def latchSensors : List (Sensor × Sensor) := [(.latchClosed, .latchOpen), (.latchOpen, .latchClosed)]

theorem sensor_of_latchSensors (pair : (which, partner) ∈ latchSensors) : which = .latchClosed ∨ which = .latchOpen := by
  simp only [latchSensors, List.mem_cons, Prod.mk.injEq, List.not_mem_nil, or_false] at pair
  exact pair.imp And.left And.left

/-- The position with this level of one latch sensor and the other asserted (Table 1-3). -/
theorem latch_with_partner (pair : (which, partner) ∈ latchSensors)
    (asserted : ((s.station i).filters.get partner).level = true) (level : Bool) :
    ((s.passed i which level).station i).latch = .conflict ↔ level = true := by
  simp only [latchSensors, List.mem_cons, Prod.mk.injEq, List.not_mem_nil, or_false] at pair
  rw [passed_station]
  rcases pair with ⟨rfl, rfl⟩ | ⟨rfl, rfl⟩
  · replace asserted : (s.station i).filters.latchOpen.level = true := asserted
    cases level <;> simp [StationState.latch, Filters.set, latchOf, asserted]
  · replace asserted : (s.station i).filters.latchClosed.level = true := asserted
    cases level <;> simp [StationState.latch, Filters.set, latchOf, asserted]

theorem latch_before {level : Bool} (pair : (which, partner) ∈ latchSensors)
    (asserted : ((s.station i).filters.get partner).level = true)
    (found : (s.station i).filters.get which = { level := level, held := some p }) :
    (s.station i).latch = .conflict ↔ level = true := by
  have same := latch_with_partner pair asserted level
  have stands : ((s.passed i which level).station i).latch = (s.station i).latch := by
    simp only [latchSensors, List.mem_cons, Prod.mk.injEq, List.not_mem_nil, or_false] at pair
    rw [passed_station]
    rcases pair with ⟨rfl, rfl⟩ | ⟨rfl, rfl⟩
    · replace found : (s.station i).filters.latchClosed = { level := level, held := some p } := found
      simp [StationState.latch, Filters.set, found]
    · replace found : (s.station i).filters.latchOpen = { level := level, held := some p } := found
      simp [StationState.latch, Filters.set, found]
  rwa [stands] at same

/-- The second latch sensor asserted: the position becomes CONFLICT (R131). -/
theorem conflict_begins (held : p.width ≤ p.age) (pair : (which, partner) ∈ latchSensors)
    (serving : (s.station i).lcc.lineState ≠ .offline) (asserted : ((s.station i).filters.get partner).level = true)
    (found : (s.station i).filters.get which = { level := false, held := some p }) :
    ∃ t, exec (.filterWidthElapsed (.sensor i which)) s = .next t ∧ KeptBeside i s t ∧ LinkKept s t ∧
      (t.station i).lpu = { (s.station i).lpu with conflictTimer := .running 0 s.settings.lockConfirmTimeout } ∧
      (t.station i).dhu = (s.station i).dhu ∧
      ((s.station i).lcc.lineState ≠ .fault → (t.station i).lcc = (s.station i).lcc ∧ t.link = s.link) := by
  have conflict := (latch_with_partner pair asserted true).mpr rfl
  have before : (s.station i).latch ≠ .conflict := mt (latch_before pair asserted found).mp (by simp)
  have outcome := latchMoved_conflict conflict before
  have station := passed_station s i which true
  have watched := watchConflict_station (s.passed i which true) i
  have becomes := (passed_becomes s i which true).trans (watchConflict_becomes (s.passed i which true) i)
  have settings : (s.passed i which true).settings = s.settings := rfl
  have link : (watchConflict (s.passed i which true) i).link = s.link := rfl
  rw [conflict, if_pos rfl, station, settings] at watched
  refine ⟨_, exec_latchSensor (sensor_of_latchSensors pair) serving found held, ?_⟩
  rw [Bool.not_false]
  generalize latchMoved (s.passed i which true) i (s.station i).latch = t at *
  generalize watchConflict (s.passed i which true) i = w at *
  have ended := becomes.modLcc fun l => { l with dose := 0, overloadHeld := false }
  have state : ((s.passed i which true).station i).lcc = (s.station i).lcc := by rw [station]
  rw [state] at outcome
  rcases outcome with rfl | ⟨fault, rfl | rfl⟩
  · exact ⟨becomes.keptBeside, becomes.link, by rw [watched], by rw [watched], fun _ => ⟨by rw [watched], link⟩⟩
  · refine ⟨ended.keptBeside, ended.link, ?_, ?_, fun outside => absurd fault outside⟩ <;>
      rw [State.station_modLcc_same, watched]
  · have reported := ended.reportStation i
    refine ⟨reported.keptBeside, reported.link, ?_, ?_, fun outside => absurd fault outside⟩ <;>
      rw [State.reportStation_station, State.station_modLcc_same, watched]

/-- One of two asserted latch sensors falls: the position leaves CONFLICT (R131). -/
theorem conflict_ends (held : p.width ≤ p.age) (pair : (which, partner) ∈ latchSensors)
    (serving : (s.station i).lcc.lineState ≠ .offline) (asserted : ((s.station i).filters.get partner).level = true)
    (found : (s.station i).filters.get which = { level := true, held := some p }) :
    ∃ t, exec (.filterWidthElapsed (.sensor i which)) s = .next t ∧ (t.station i).lpu.conflictTimer = .absent := by
  have leaves : ((s.passed i which false).station i).latch ≠ .conflict :=
    mt (latch_with_partner pair asserted false).mp (by simp)
  have before : (s.station i).latch = .conflict := (latch_before pair asserted found).mpr rfl
  refine ⟨_, exec_latchSensor (sensor_of_latchSensors pair) serving found held, ?_⟩
  rw [Bool.not_true]
  refine Eq.trans (latchMoved_conflictKept fun same => leaves (same.trans before)) ?_
  rw [watchConflict_station]
  exact if_neg leaves

/-- The state with the moved sensor and the conflict timer that follows the position, before anything is confirmed (R131). -/
def State.latched (s : State) (i : Station) (which : Sensor) (level : Bool) : State :=
  watchConflict (s.passed i which level) i

theorem latched_station (s : State) (i : Station) (which : Sensor) (level : Bool) :
    ∃ timer, (s.latched i which level).station i = { s.station i with
      filters := (s.station i).filters.set which { level := level, held := none }
      lpu := { (s.station i).lpu with conflictTimer := timer } } := by
  have station := watchConflict_station (s.passed i which level) i
  generalize (if ((s.passed i which level).station i).latch = .conflict then
    ConflictTimer.running 0 (s.passed i which level).settings.lockConfirmTimeout else .absent) = timer at station
  rw [passed_station] at station
  exact ⟨timer, station⟩

/-- What a confirmation by the moved latch leaves, in the words of the statement (R18, R24, R122). -/
theorem latched_confirms {level : Bool}
    (state : (s.station i).lcc.lineState ∉ [LineState.takingUp, .holding, .adjusting, .fault])
    (moved : ((s.passed i which level).station i).latch ≠ (s.station i).latch)
    (target : ((s.latched i which level).station i).atTarget) (confirmOpen : (s.station i).lpu.confirmOpen = true)
    (wanted : s.sequenceWanted i) :
    ∃ u, latchMoved (s.passed i which level) i (s.station i).latch = u ∧ SequenceConfirmed i (s.latched i which level) u ∧
      (u.station i).filters = (s.station i).filters.set which { level := level, held := none } := by
  obtain ⟨timer, station⟩ := latched_station s i which level
  have quiet := latchMoved_quiet (u := s.passed i which level) moved (by rw [passed_station]; exact state)
  have confirms : ((s.latched i which level).station i).confirmsNow = true := by
    rw [StationState.confirmsNow_iff_atTarget]
    exact ⟨by rw [station]; exact confirmOpen, target⟩
  have stillWanted : (s.latched i which level).sequenceWanted i := by
    simpa only [State.sequenceWanted, station] using wanted
  refine ⟨_, quiet, confirmTest_confirmed confirms stillWanted, ?_⟩
  rw [(StationWork.confirmTest (c := s.ceilingNow) _ i).ops.keeps.filters]
  change ((s.latched i which level).station i).filters = _
  rw [station]

/-- Without confirmation open nothing is confirmed (R121, R122). -/
theorem latched_rests {level : Bool} (confirmOpen : (s.station i).lpu.confirmOpen = false) :
    confirmTest (watchConflict (s.passed i which level) i) i = s.latched i which level := by
  obtain ⟨timer, station⟩ := latched_station s i which level
  refine confirmTest_of_not ?_
  change ((s.latched i which level).station i).confirmsNow = false
  simp [StationState.confirmsNow, station, confirmOpen]

/-- LATCH_CLOSED rises in LOCKING with confirmation open (R18, R19). -/
theorem lock_confirmed (held : p.width ≤ p.age) (good : (s.station i).mu.lost = false)
    (found : (s.station i).filters.latchClosed = { level := false, held := some p })
    (notOpen : (s.station i).filters.latchOpen.level = false) (state : (s.station i).lcc.lineState = .locking)
    (sequence : (s.station i).lpu.sequence = .lock) (confirmOpen : (s.station i).lpu.confirmOpen = true) :
    ∃ t, exec (.filterWidthElapsed (.sensor i .latchClosed)) s = .next t ∧
      ((s.station i).mu.count ≠ 0 → (t.station i).lcc = { (s.station i).lcc.between .takingUp .lockConfirmed with
        takeupStart := some (s.station i).mu.count
        need := some { cls := 1, dir := .inward, speed := s.settings.takeupSpeed } }) ∧
      ((s.station i).mu.count = 0 → (t.station i).lcc = StationState.lccInFault
        { s.station i with filters := (t.station i).filters } .drumLimit .takingUp s.berthTime) ∧
      (t.station i).lpu.sequence = .none ∧ (t.station i).lpu.confirmTimer = none ∧
      (t.station i).lpu.confirmOpen = false ∧ (t.station i).lpu.queued = none ∧
      ReportEntry.station i ∈ t.link.reports := by
  obtain ⟨timer, station⟩ := latched_station s i .latchClosed true
  have closed : ((s.passed i .latchClosed true).station i).latch = .closed := by
    rw [passed_station]
    simp [StationState.latch, Filters.set, latchOf, notOpen]
  have before : (s.station i).latch = .moving := by simp [StationState.latch, latchOf, found, notOpen]
  have target : ((s.latched i .latchClosed true).station i).atTarget := by
    refine .inl ⟨by rw [station]; exact sequence, ?_⟩
    rw [station]
    simp [StationState.latch, Filters.set, latchOf, notOpen]
  obtain ⟨u, runs, ⟨ended, shut, idle, queued, reported, locks, -⟩, filters⟩ := latched_confirms (by simp [state])
    (by simp [closed, before]) target confirmOpen (.inl ⟨sequence, state, good⟩)
  have outcome := exec_latchSensor (.inl rfl) (by simp [state]) found held
  rw [Bool.not_false, runs] at outcome
  have settings : (s.latched i .latchClosed true).settings = s.settings := rfl
  have berthTime : (s.latched i .latchClosed true).berthTime = s.berthTime := rfl
  rw [station, settings, berthTime] at locks
  obtain ⟨away, zero⟩ := locks sequence
  refine ⟨u, outcome, away, fun none => ?_, ended, idle, shut, queued, reported⟩
  rw [filters]
  exact zero none

/-- LATCH_OPEN rises (R22, R24, R26). -/
theorem latch_opens (held : p.width ≤ p.age) (good : (s.station i).mu.lost = false)
    (found : (s.station i).filters.latchOpen = { level := false, held := some p })
    (notClosed : (s.station i).filters.latchClosed.level = false) :
    ∃ t, exec (.filterWidthElapsed (.sensor i .latchOpen)) s = .next t ∧
      ((s.station i).lcc.lineState = .releasing → (s.station i).lpu.sequence = .release →
        (s.station i).lpu.confirmOpen = true → (s.station i).lcc.rewindFlag ≠ some true →
        (t.station i).lcc = ((s.station i).lcc.between .lineOut .releaseConfirmed).slack ∧
        (t.station i).lpu.sequence = .none) ∧
      ((s.station i).lcc.lineState = .releasing → (s.station i).lpu.sequence = .release →
        (s.station i).lpu.confirmOpen = true → (s.station i).lcc.rewindFlag = some true →
        ({ s.station i with lpu := (t.station i).lpu, filters := (t.station i).filters } : StationState).Rewound
          s.settings s.berthTime .releaseConfirmed t i) ∧
      ((s.station i).lcc.lineState ∈ [LineState.takingUp, .holding, .adjusting] →
        (s.station i).lpu.confirmOpen = false →
        (t.station i).lcc = StationState.lccInFault { s.station i with filters := (t.station i).filters }
          .headLost (s.station i).lcc.lineState s.berthTime) := by
  obtain ⟨timer, station⟩ := latched_station s i .latchOpen true
  have settings : (s.latched i .latchOpen true).settings = s.settings := rfl
  have berthTime : (s.latched i .latchOpen true).berthTime = s.berthTime := rfl
  have opened : ((s.passed i .latchOpen true).station i).latch = .opened := by
    rw [passed_station]
    simp [StationState.latch, Filters.set, latchOf, notClosed]
  have before : (s.station i).latch = .moving := by simp [StationState.latch, latchOf, found, notClosed]
  have moved : ((s.passed i .latchOpen true).station i).latch ≠ (s.station i).latch := by simp [opened, before]
  have target (sequence : (s.station i).lpu.sequence = .release) :
      ((s.latched i .latchOpen true).station i).atTarget := by
    refine .inr ⟨by rw [station]; exact sequence, ?_⟩
    rw [station]
    simp [StationState.latch, Filters.set, latchOf, notClosed]
  by_cases serving : (s.station i).lcc.lineState = .offline
  · exact ⟨_, rfl, fun state => absurd (serving.symm.trans state) (by simp),
      fun state => absurd (serving.symm.trans state) (by simp), fun state => by simp [serving] at state⟩
  have outcome := exec_latchSensor (.inr rfl) serving found held
  rw [Bool.not_false] at outcome
  have released (state : (s.station i).lcc.lineState = .releasing) (sequence : (s.station i).lpu.sequence = .release)
      (confirmOpen : (s.station i).lpu.confirmOpen = true) :=
    latched_confirms (which := .latchOpen) (level := true) (by simp [state]) moved (target sequence) confirmOpen
      (.inr ⟨sequence, state⟩)
  refine ⟨_, outcome, fun state sequence confirmOpen stays => ?_, fun state sequence confirmOpen rewinds => ?_,
    fun state unconfirmed => ?_⟩
  · obtain ⟨u, runs, ⟨ended, -, -, -, -, -, releases⟩, -⟩ := released state sequence confirmOpen
    rw [station] at releases
    rw [runs]
    exact ⟨(releases sequence).1 stays, ended⟩
  · obtain ⟨u, runs, ⟨-, -, -, -, -, -, releases⟩, filters⟩ := released state sequence confirmOpen
    rw [station, settings, berthTime] at releases
    rw [runs, filters]
    exact (releases sequence).2 rewinds
  · have quiet := latchMoved_holding (u := s.passed i .latchOpen true) moved (by rw [passed_station]; exact state)
    rw [if_pos opened, latched_rests unconfirmed] at quiet
    have outside : (s.station i).lcc.lineState ≠ .fault := by
      rintro fault
      simp [fault] at state
    rw [quiet, (LccWork.detect _ i _).filters, detect_lcc_good (by rw [station]; exact serving) (by rw [station]; exact outside)
      (by rw [station]; exact good), station, berthTime]
    rfl

/-- LATCH_CLOSED falls in FAULT (R4). -/
theorem latch_leaves_closed (held : p.width ≤ p.age)
    (found : (s.station i).filters.latchClosed = { level := true, held := some p })
    (notOpen : (s.station i).filters.latchOpen.level = false) (state : (s.station i).lcc.lineState = .fault)
    (unconfirmed : (s.station i).lpu.confirmOpen = false) :
    ∃ t, exec (.filterWidthElapsed (.sensor i .latchClosed)) s = .next t ∧
      (t.station i).lcc = { (s.station i).lcc with dose := 0, overloadHeld := false } ∧
      ((s.station i).lcc.overloadHeld = true → ReportEntry.station i ∈ t.link.reports) := by
  obtain ⟨timer, station⟩ := latched_station s i .latchClosed false
  have leaves : ((s.passed i .latchClosed false).station i).latch ≠ .closed := by
    rw [passed_station]
    simp [StationState.latch, Filters.set, latchOf, notOpen]
  have before : (s.station i).latch = .closed := by simp [StationState.latch, latchOf, found, notOpen]
  have outcome := exec_latchSensor (.inl rfl) (by simp [state]) found held
  have runs := latchMoved_unclosed leaves (by rw [passed_station]; exact state)
  rw [latched_rests unconfirmed] at runs
  rw [Bool.not_true, before, runs] at outcome
  have lcc : (((s.latched i .latchClosed false).modLcc i fun l => { l with dose := 0, overloadHeld := false }).station i).lcc =
      { (s.station i).lcc with dose := 0, overloadHeld := false } := by rw [State.station_modLcc_same, station]
  have overload : ((s.passed i .latchClosed false).station i).lcc.overloadHeld = (s.station i).lcc.overloadHeld := by
    rw [passed_station]
  refine ⟨_, outcome, ?_, fun latched => ?_⟩
  · split
    · exact lcc
    · exact lcc
  · rw [if_pos (by simp [overload, latched])]
    exact mem_reports_reportStation _ i

end Moves

/-- Settles O47: each move of the position, with what its confirmation brings. -/
theorem latchPositionMoves : Obligations.LatchPositionMoves := by
  unfold Obligations.LatchPositionMoves
  intro s i p held
  refine ⟨fun pair listed serving asserted => ⟨fun found => ?_, fun found => ?_⟩, fun good => ⟨?_, ?_, ?_⟩⟩
  · exact conflict_begins held listed serving asserted found
  · exact conflict_ends held listed serving asserted found
  · exact fun found notOpen state sequence confirmOpen => lock_confirmed held good found notOpen state sequence confirmOpen
  · exact fun found notClosed => latch_opens held good found notClosed
  · exact fun found notOpen state unconfirmed => latch_leaves_closed held found notOpen state unconfirmed

end Sys2Proof.Machine

/-!
PROOF. A stop that comes to its end, by whatever event (R88, R109), and BRAKE_OPEN and DRIVE_READY at the drive (O48; R55, R102 to
R104, R107 to R109, R113).
-/
namespace Sys2Proof.Machine

/-! ### A stop that has come to its end -/

/-- The stop of station `i` has completed and been handled whole (R88, R109). -/
structure StopCompleted (i : Station) (s t : State) : Prop where
  noNeed : (s.station i).lcc.need = none →
    (t.station i).dhu = (s.station i).dhu.atRest ∧ t.dsa.holds i = false ∧ SlotFreed i s t
  needs : ∀ need, (s.station i).lcc.need = some need → SlotRejoined (s.station i).dhu need i s t

section Stops

variable {s u : State} {i : Station}

/-- The completion of a stop that vacates its slot is handled whole (R88). -/
theorem Vacated.completes (vacated : Vacated i s (freeSlot u i)) (holds : u.dsa.holds i = true) :
    StopCompleted i s (settleStop u i) := by
  have rest : (u.station i).dhu = (s.station i).dhu.atRest := vacated.atRest
  have ended : stopEnded u i = true := by
    rw [stopEnded, holds, rest]
    rfl
  rw [settleStop, if_pos ended]
  refine ⟨fun noNeed => ?_, fun need needs => vacated.slotRejoined needs⟩
  rw [vacated.rejoin_noNeed noNeed]
  have out : OutOfPlay i ((freeSlot u i).station i) (freeSlot u i) :=
    ⟨rfl, (vacated.need i).trans noNeed, by simp [Dsa.holds, vacated.dsa]⟩
  exact ⟨vacated.staysAtRest noNeed, out.arbitrate.noSlot, vacated.slotFreed⟩

/-- A stop that has not ended leaves nothing to handle (R88). -/
theorem settleStop_going (going : (u.station i).dhu.phase ≠ .idle) : settleStop u i = u := by
  rw [settleStop, if_neg (by simp [stopEnded, going])]

theorem settleStop_unheld (unheld : u.dsa.holds i = false) : settleStop u i = u := by
  rw [settleStop, if_neg (by simp [stopEnded, unheld])]

theorem becomeIdle_station (s : State) (i : Station) : (becomeIdle s i).station i =
    { s.station i with dhu := (s.station i).dhu.atRest, mu := { (s.station i).mu with releaseMeasure := none } } := by
  dsimp only [becomeIdle]
  rw [State.station_modMu_same, State.station_modDhu_same]
  rfl

theorem becomeIdle_station_ne (s : State) {i j : Station} (other : j ≠ i) : (becomeIdle s i).station j = s.station j := by
  dsimp only [becomeIdle]
  rw [State.station_modMu_ne _ _ other, State.station_modDhu_ne _ _ other]

/-- A DHU that becomes IDLE vacates its slot (R88, R109). -/
theorem vacated_becomeIdle (s : State) (i : Station) : Vacated i s (freeSlot (becomeIdle s i) i) := by
  refine .of_stop (f := id) (fun _ => rfl) ?_ (by rw [becomeIdle_station]) (fun j other => becomeIdle_station_ne s other)
    (DriveOnly.becomeIdle s i) rfl
  have same : (becomeIdle s i).dsa = s.dsa := rfl
  simp [same]

theorem becomeIdle_completes (holds : s.dsa.holds i = true) : StopCompleted i s (settleStop (becomeIdle s i) i) :=
  (vacated_becomeIdle s i).completes holds

end Stops

/-! ### The handover -/

section Handover

variable {s : State} {i : Station}

/-- BRAKE_WAIT entered with the brake set (R102). -/
theorem enterBrakeWait_waits (set : (s.station i).filters.brakeOpen.level = false) :
    (enterBrakeWait s i).station i = { s.station i with
      dhu := { (s.station i).dhu with
        phase := .brakeWait, timer := .running .brakeLift 0 s.settings.brakeLiftTimeout }
      mu := { (s.station i).mu with releaseMeasure := some 0 } } ∧
    (enterBrakeWait s i).dsa = s.dsa := by
  dsimp only [enterBrakeWait]
  rw [if_neg (by simp [set]), State.station_modMu_same, State.station_modDhu_same]
  exact ⟨rfl, rfl⟩

/-- DRIVE_WAIT entered with the drive not ready (R101). -/
theorem enterDriveWait_waits (unready : (s.station i).filters.driveReady.level = false) :
    (enterDriveWait s i).station i = { s.station i with
      dhu := { (s.station i).dhu with
        phase := .driveWait, timer := .running .driveReady 0 s.settings.driveReadyTimeout } } ∧
    (enterDriveWait s i).dsa = s.dsa := by
  dsimp only [enterDriveWait]
  rw [if_neg (by simp [unready]), State.station_modDhu_same]
  exact ⟨rfl, rfl⟩

theorem enterRunning_station (s : State) (i : Station) : (enterRunning s i).station i = { s.station i with
    dhu := { (s.station i).dhu with
      phase := .running, timer := .absent, stall := some { elapsed := 0, limit := s.settings.stallTime } } } := by
  dsimp only [enterRunning, State.modHolder]
  rw [State.modDsa_station, State.station_modDhu_same]

end Handover

/-! ### BRAKE_OPEN and DRIVE_READY -/

section Sensors

variable {s : State} {i : Station} {p : PendingLevel} {m : Nat}

theorem driveReady_rises (held : p.width ≤ p.age)
    (found : (s.station i).filters.driveReady = { level := false, held := some p })
    (phase : (s.station i).dhu.phase = .driveWait) (set : (s.station i).filters.brakeOpen.level = false) :
    ∃ t, exec (.filterWidthElapsed (.sensor i .driveReady)) s = .next t ∧
      (t.station i).dhu = { (s.station i).dhu with
        phase := .brakeWait, timer := .running .brakeLift 0 s.settings.brakeLiftTimeout } ∧
      (t.station i).mu.releaseMeasure = some 0 ∧ t.dsa = s.dsa := by
  have station := passed_station s i .driveReady true
  have settings : (s.passed i .driveReady true).settings = s.settings := rfl
  have dsa : (s.passed i .driveReady true).dsa = s.dsa := rfl
  have rises : levelMoved (s.passed i .driveReady true) (.sensor i .driveReady) true (fun j => (s.station j).latch) =
      driveRises (s.passed i .driveReady true) i := rfl
  refine ⟨_, exec_filterWidthElapsed (which := .driveReady) found held, ?_⟩
  rw [Bool.not_false, rises]
  generalize s.passed i .driveReady true = u at *
  obtain ⟨waits, kept⟩ := enterBrakeWait_waits (s := u) (i := i) (by rw [station]; exact set)
  rw [driveRises, if_pos (by rw [station]; exact phase), waits, kept, station, settings, dsa]
  exact ⟨rfl, rfl, rfl⟩

theorem brakeOpen_rises (held : p.width ≤ p.age)
    (found : (s.station i).filters.brakeOpen = { level := false, held := some p })
    (phase : (s.station i).dhu.phase = .brakeWait) (clear : s.zoneHold = false)
    (measured : (s.station i).mu.releaseMeasure = some m) :
    ∃ t, exec (.filterWidthElapsed (.sensor i .brakeOpen)) s = .next t ∧
      (t.station i).dhu = { (s.station i).dhu with
        phase := .running, timer := .absent, stall := some { elapsed := 0, limit := s.settings.stallTime } } ∧
      (t.station i).mu.releaseTime = max 1 (min 65535 m) ∧ (t.station i).mu.releaseMeasure = none ∧
      (t.station i).lcc = (s.station i).lcc ∧
      t.dsa = { s.dsa with holders := s.dsa.holders.map fun h =>
        if h.station = i ∧ h.slice = .absent ∧ h.stopKind = .none then
          { h with slice := .running s.settings.sliceTime }
        else h } := by
  have station := passed_station s i .brakeOpen true
  have settings : (s.passed i .brakeOpen true).settings = s.settings := rfl
  have dsa : (s.passed i .brakeOpen true).dsa = s.dsa := rfl
  have zone : (s.passed i .brakeOpen true).zoneHold = s.zoneHold := rfl
  have rises : levelMoved (s.passed i .brakeOpen true) (.sensor i .brakeOpen) true (fun j => (s.station j).latch) =
      brakeRises (s.passed i .brakeOpen true) i := rfl
  refine ⟨_, exec_filterWidthElapsed (which := .brakeOpen) found held, ?_⟩
  rw [Bool.not_false, rises]
  generalize s.passed i .brakeOpen true = u at *
  have stored : measureRelease u i =
      u.modMu i fun k => { k with releaseMeasure := none, releaseTime := max 1 (min Config.ageMax m) } := by
    simp [measureRelease, station, measured, State.brakeRelease, phase, zone, clear]
  have kept : (measureRelease u i).settings = s.settings := by rw [stored]; exact settings
  have slots : (measureRelease u i).dsa = s.dsa := by rw [stored]; exact dsa
  have running := enterRunning_station (measureRelease u i) i
  have started := enterRunning_dsa (measureRelease u i) i
  rw [kept] at running started
  rw [slots] at started
  dsimp only [brakeRises]
  rw [if_pos (by rw [station]; exact phase)]
  rw [started, running, stored, State.station_modMu_same, station]
  refine ⟨rfl, rfl, rfl, rfl, ?_⟩
  simp only [Dsa.startsSlice, Holder.startSlice]
  refine congrArg (fun l => { s.dsa with holders := l }) (List.map_congr_left fun h _ => ?_)
  split_ifs <;> simp_all

theorem driveReady_falls (held : p.width ≤ p.age)
    (found : (s.station i).filters.driveReady = { level := true, held := some p }) (good : (s.station i).mu.lost = false)
    (serving : (s.station i).lcc.lineState ≠ .offline) (outside : (s.station i).lcc.lineState ≠ .fault)
    (phase : (s.station i).dhu.phase ∈ [DrivePhase.brakeWait, .running, .stopping]) :
    ∃ t, exec (.filterWidthElapsed (.sensor i .driveReady)) s = .next t ∧
      (t.station i).lcc = (s.station i).lccInFault .driveNotReady (s.station i).lcc.lineState s.berthTime := by
  have station := passed_station s i .driveReady false
  have berthTime : (s.passed i .driveReady false).berthTime = s.berthTime := rfl
  have falls : levelMoved (s.passed i .driveReady false) (.sensor i .driveReady) false (fun j => (s.station j).latch) =
      driveFalls (s.passed i .driveReady false) i := rfl
  refine ⟨_, exec_filterWidthElapsed (which := .driveReady) found held, ?_⟩
  rw [Bool.not_true, falls]
  generalize s.passed i .driveReady false = u at *
  have detects : driveFalls u i = detect u i .driveNotReady := by
    have same : (u.station i).dhu.phase = (s.station i).dhu.phase := by rw [station]
    simp only [List.mem_cons, List.not_mem_nil, or_false] at phase
    rcases phase with h | h | h <;> simp only [driveFalls, same, h]
  rw [detects, detect_lcc_good (by rw [station]; exact serving) (by rw [station]; exact outside) (by rw [station]; exact good),
    station, berthTime]
  rfl

/-- The brake that has fallen ends SETTING (R108, R109, R113). -/
theorem brakeOpen_falls (held : p.width ≤ p.age)
    (found : (s.station i).filters.brakeOpen = { level := true, held := some p })
    (phase : (s.station i).dhu.phase = .setting) :
    ∃ t, exec (.filterWidthElapsed (.sensor i .brakeOpen)) s = .next t ∧
      ((s.station i).dhu.stopRequest = .none → s.zoneHold = true →
        (t.station i).dhu = { (s.station i).dhu with phase := .held, timer := .absent } ∧ t.dsa = s.dsa) ∧
      ((s.station i).dhu.stopRequest = .none → s.zoneHold = false →
        ((s.station i).filters.driveReady.level = true →
          (t.station i).dhu = { (s.station i).dhu with
            phase := .brakeWait, timer := .running .brakeLift 0 s.settings.brakeLiftTimeout } ∧
          (t.station i).mu.releaseMeasure = some 0) ∧
        ((s.station i).filters.driveReady.level = false →
          (t.station i).dhu = { (s.station i).dhu with
            phase := .driveWait, timer := .running .driveReady 0 s.settings.driveReadyTimeout }) ∧
        t.dsa = s.dsa) ∧
      ((s.station i).dhu.stopRequest ≠ .none → (s.station i).lcc.need = none →
        (t.station i).dhu.phase = .idle ∧ t.dsa.holds i = false) ∧
      (∀ need, (s.station i).dhu.stopRequest ≠ .none → (s.station i).lcc.need = some need → s.dsa.holds i = true →
        SlotRejoined (s.station i).dhu need i
          (s.modFilters i fun f => { f with brakeOpen := { level := false, held := none } }) t) := by
  have station := passed_station s i .brakeOpen false
  have settings : (s.passed i .brakeOpen false).settings = s.settings := rfl
  have dsa : (s.passed i .brakeOpen false).dsa = s.dsa := rfl
  have zone : (s.passed i .brakeOpen false).zoneHold = s.zoneHold := rfl
  have named : (s.modFilters i fun f => { f with brakeOpen := { level := false, held := none } }) =
      s.passed i .brakeOpen false := rfl
  have falls : levelMoved (s.passed i .brakeOpen false) (.sensor i .brakeOpen) false (fun j => (s.station j).latch) =
      brakeFalls (s.passed i .brakeOpen false) i := rfl
  refine ⟨_, exec_filterWidthElapsed (which := .brakeOpen) found held, ?_⟩
  rw [Bool.not_true, falls, named]
  generalize s.passed i .brakeOpen false = u at *
  have dhu : (u.station i).dhu = (s.station i).dhu := by rw [station]
  have lcc : (u.station i).lcc = (s.station i).lcc := by rw [station]
  have set : (u.station i).filters.brakeOpen.level = false := by rw [station]; rfl
  have ready : (u.station i).filters.driveReady.level = (s.station i).filters.driveReady.level := by rw [station]; rfl
  have ends : brakeFalls u i = settleStop (endSetting u i) i := if_pos (by rw [dhu]; exact phase)
  have idles (asked : (s.station i).dhu.stopRequest ≠ .none) : endSetting u i = becomeIdle u i := by
    unfold endSetting
    rw [dhu]
    split
    · next unasked => exact absurd unasked asked
    · rfl
  have resumes (asked : (s.station i).dhu.stopRequest = .none) (clear : s.zoneHold = false) :
      endSetting u i = resumeHandover u i := by
    simp [endSetting, dhu, asked, zone, clear]
  rw [ends, ← dhu, ← lcc, ← dsa, ← settings]
  refine ⟨fun asked hold => ?_, fun asked clear => ?_, fun asked noNeed => ?_, fun need asked needs holds => ?_⟩
  · have rests : endSetting u i = u.modDhu i fun d => { d with phase := .held, timer := .absent } := by
      rw [dhu] at asked
      simp [endSetting, dhu, asked, zone, hold]
    rw [rests, settleStop_going (by rw [State.station_modDhu_same]; simp), State.station_modDhu_same]
    exact ⟨rfl, rfl⟩
  · obtain ⟨brakeWaits, brakeDsa⟩ := enterBrakeWait_waits set
    rw [resumes (dhu ▸ asked) clear, resumeHandover, ready]
    cases level : (s.station i).filters.driveReady.level with
    | true =>
      rw [if_pos rfl, settleStop_going (by rw [brakeWaits]; simp), brakeWaits, brakeDsa]
      exact ⟨fun _ => ⟨rfl, rfl⟩, fun unready => absurd unready (by simp), rfl⟩
    | false =>
      obtain ⟨driveWaits, driveDsa⟩ := enterDriveWait_waits (s := u) (i := i) (by rw [ready, level])
      rw [if_neg (by simp), settleStop_going (by rw [driveWaits]; simp), driveWaits, driveDsa]
      exact ⟨fun isReady => absurd isReady (by simp), fun _ => rfl, rfl⟩
  · rw [idles (dhu ▸ asked)]
    cases holds : u.dsa.holds i with
    | true =>
      obtain ⟨rest, freed, -⟩ := (becomeIdle_completes holds).noNeed noNeed
      exact ⟨by rw [rest]; rfl, freed⟩
    | false =>
      have unheld : (becomeIdle u i).dsa.holds i = false := holds
      rw [settleStop_unheld unheld, becomeIdle_station]
      exact ⟨rfl, unheld⟩
  · rw [idles (dhu ▸ asked)]
    exact (becomeIdle_completes holds).needs need needs

end Sensors

/-- Settles O48: each sensor's change by the drive phase that it finds. -/
theorem brakeAndDriveSensors : Obligations.BrakeAndDriveSensors := by
  unfold Obligations.BrakeAndDriveSensors
  intro s i p m held
  exact ⟨fun found phase set => driveReady_rises held found phase set,
    fun found phase clear measured => brakeOpen_rises held found phase clear measured,
    fun found good serving outside phase => driveReady_falls held found good serving outside phase,
    fun found phase => brakeOpen_falls held found phase⟩

end Sys2Proof.Machine

/-!
PROOF. The end of a 100 ms window (O40; R54, R104, R105, R107): what it leaves of its station, the drive by its phase, and the
demand that the arbiter's work afterwards leaves at 0.
-/
namespace Sys2Proof.Machine

/-! ### A rested drum keeps its demand at 0 -/

/-- The demand is 0 and has been 0 since the last window end (R107, log 12). -/
def Dhu.demandRests (d : Dhu) : Prop := d.demand = 0 ∧ d.zeroThroughout = true

/-- A step moves no demand from 0. -/
def DemandsRest (s t : State) : Prop := ∀ j : Station, (s.station j).dhu.demandRests → (t.station j).dhu.demandRests

section DemandsRest

variable {i : Station} {s t u : State}

theorem DemandsRest.refl (s : State) : DemandsRest s s := fun _ => id

theorem DemandsRest.trans (h : DemandsRest s t) (k : DemandsRest t u) : DemandsRest s u := fun j rests => k j (h j rests)

theorem DemandsRest.ite {p : Prop} [Decidable p] (h : DemandsRest s t) (k : DemandsRest s u) :
    DemandsRest s (if p then t else u) := by
  split
  · exact h
  · exact k

theorem DemandsRest.of_stations (h : ∀ j : Station, t.station j = s.station j) : DemandsRest s t :=
  fun j rests => by rwa [h j]

theorem DemandsRest.of_act (act : DhuAct i s t) (own : (s.station i).dhu.demandRests → (t.station i).dhu.demandRests) :
    DemandsRest s t := by
  intro j rests
  by_cases same : j = i
  · subst same
    exact own rests
  · rwa [act.others j same]

/-- A grant begins with the demand at 0 (R101). -/
theorem granted_demandRests {d : Dhu} (rests : d.demandRests) (need : Need) : (s.granted i d need).demandRests := by
  refine ⟨?_, ?_⟩ <;> dsimp only [State.granted, Dhu.handsOver] <;> repeat' split
  all_goals first | rfl | exact rests.2

/-- A normal stop raises no demand (R106). -/
theorem normalStop_demandRests (rests : (s.station i).dhu.demandRests) : ((normalStop s i).station i).dhu.demandRests := by
  by_cases asked : (s.station i).dhu.stopRequest = .none
  · by_cases idle : (s.station i).dhu.phase = .idle
    · rwa [normalStop, if_neg (by simp [asked]), idle]
    · by_cases atOnce : (s.station i).stopsAtOnce
      · rw [normalStop_atRest asked atOnce]
        exact ⟨rfl, rests.2⟩
      · rw [normalStop_station asked idle atOnce]
        unfold StationState.stopAsked
        split
        · exact ⟨rfl, rests.2⟩
        · exact rests
        · exact rests
  · rwa [normalStop, if_pos asked]

theorem DemandsRest.grantHead (s : State) : DemandsRest s (grantHead s) := by
  cases hw : s.dsa.waiting with
  | nil => simpa [Machine.grantHead, hw] using DemandsRest.refl s
  | cons e rest =>
    cases hn : (s.station e.station).lcc.need with
    | none =>
      simp only [Machine.grantHead, hw, hn]
      exact .of_stations fun _ => rfl
    | some need =>
      intro j rests
      by_cases own : j = e.station
      · subst own
        rw [grantHead_dhu hw hn]
        exact granted_demandRests rests need
      · rwa [grantHead_station_ne hw hn own]

theorem DemandsRest.grantRule (n : Nat) : ∀ s : State, DemandsRest s (grantRule n s) := by
  induction n with
  | zero => exact DemandsRest.refl
  | succ n ih => exact fun s => .ite ((DemandsRest.grantHead s).trans (ih _)) (.refl s)

theorem DemandsRest.rejoin (s : State) (i : Station) : DemandsRest s (rejoin s i) := by
  unfold Machine.rejoin
  split
  · exact .of_stations fun _ => rfl
  · exact .refl s

theorem DemandsRest.beginYield (s : State) (i : Station) : DemandsRest s (beginYield s i) := by
  have counted : DemandsRest s (s.yieldBegun i) := .of_stations fun j => State.yieldBegun_station s i j
  rw [beginYield_eq]
  exact counted.trans (.of_act (DhuAct.normalStop _ i) normalStop_demandRests)

theorem DemandsRest.preempt (n : Nat) : ∀ s : State, DemandsRest s (preempt n s) := by
  induction n with
  | zero => exact DemandsRest.refl
  | succ n ih =>
    intro s
    dsimp only [Machine.preempt]
    split
    · exact .refl s
    · next yielder forStation _ =>
      have yields : DemandsRest s (Machine.beginYield (s.modDsa fun d => { d with
          yields := d.yields ++ [{ yielder := yielder, forStation := forStation, lapsed := false }] }) yielder) :=
        DemandsRest.trans (t := s.modDsa _) (.of_stations fun _ => rfl) (.beginYield _ yielder)
      have freed (t : State) : DemandsRest t (freeSlot t yielder) := .of_stations (freeSlot_station t yielder)
      exact .ite (((yields.trans (freed _)).trans (.rejoin _ yielder)).trans ((DemandsRest.grantRule _ _).trans (ih _))) yields

theorem DemandsRest.settleStop (s : State) (i : Station) : DemandsRest s (settleStop s i) := by
  have freed : DemandsRest s (freeSlot s i) := .of_stations (freeSlot_station s i)
  exact .ite ((freed.trans (.rejoin _ i)).trans ((DemandsRest.grantRule _ _).trans (.preempt 13 _))) (.refl s)

end DemandsRest

/-! ### A rejoining read from beside the station's measurement -/

/-- What an arbiter has counted is read from the counters (R98). -/
theorem GrantCounted.of_counters {j : Station} {r s t u : State} (h : GrantCounted j s t) (before : s.counters = r.counters)
    (after : u.counters = t.counters) : GrantCounted j r u := by
  intro n
  have counts := h n
  rwa [State.occurrence_counter, before, ← State.occurrence_counter, ← after] at counts

/-- What a completed stop makes of the slot is read from the arbiter, the counts of its grants and yields, the zone hold, the
settings, of each station its need and its filters, and of those that wait their drive; and afterwards from the arbiter, the drives
and the counts. -/
theorem SlotRejoined.of_alike {d : Dhu} {need : Need} {i : Station} {r s t u : State} (h : SlotRejoined d need i s t)
    (dsa : s.dsa = r.dsa) (zoneHold : s.zoneHold = r.zoneHold) (settings : s.settings = r.settings)
    (stations : ∀ j : Station, (s.station j).lcc.need = (r.station j).lcc.need ∧
      (s.station j).filters = (r.station j).filters)
    (drives : ∀ e ∈ r.dsa.waiting, (s.station e.station).dhu = (r.station e.station).dhu)
    (after : u.dsa = t.dsa ∧ ∀ j : Station, (u.station j).dhu = (t.station j).dhu)
    (counted : ∀ j : Station, GrantCounted j s t → GrantCounted j r u) : SlotRejoined d need i r u := by
  have needs j := (stations j).1
  have filters j := (stations j).2
  have granted (j : Station) (d : Dhu) (need : Need) : s.granted j d need = r.granted j d need := by
    simp only [State.granted, zoneHold, settings, filters]
  have runs (j : Station) : s.runsAtGrant j ↔ r.runsAtGrant j := by
    simp only [State.runsAtGrant, zoneHold, filters]
  have serving (e : WaitEntry) (left : List WaitEntry) : s.dsaServing i e left = r.dsaServing i e left := by
    simp only [State.dsaServing, State.newHolder, runs, dsa, settings]
  unfold SlotRejoined at h ⊢
  simp only [dsa, needs, granted, runs, serving] at h
  rw [after.1]
  simp only [after.2]
  cases waiting : r.dsa.waiting with
  | nil =>
    rw [waiting] at h
    intro free
    obtain ⟨list, drive, counts⟩ := h free
    exact ⟨list, drive, counted _ counts⟩
  | cons e more =>
    rw [waiting] at h
    cases presents : (r.station e.station).lcc.need with
    | none => simp only [presents]
    | some other =>
      simp only [presents] at h ⊢
      intro elsewhere once ordered ahead urgent classes slots
      obtain ⟨list, drive, own, counts⟩ := h elsewhere once ordered ahead urgent classes slots
      rw [drives e (by simp [waiting])] at drive
      exact ⟨list, drive, own, counted _ counts⟩

/-! ### The window end -/

/-- The speed of station `i` is published and its accumulator starts again (R54). -/
def State.published (s : State) (i : Station) : State :=
  s.modMu i fun m => { m with speed := speedOf m.accumulator, accumulator := 0, windowDue := false }

section Window

variable {s u : State} {i : Station}

theorem exec_speedWindowEnd_due (serving : (s.station i).lcc.lineState ≠ .offline)
    (due : (s.station i).mu.windowDue = true) :
    exec (.speedWindowEnd i) s = .next (settleStop (dhuWindowEnd (s.published i) i) i) :=
  congrArg Host.Outcome.next (if_pos (by simp [State.inService, serving, due]))

theorem published_station (s : State) (i : Station) : (s.published i).station i = { s.station i with
    mu := { (s.station i).mu with speed := speedOf (s.station i).mu.accumulator, accumulator := 0, windowDue := false } } :=
  State.station_modMu_same s i _

theorem published_counters (s : State) (i : Station) : (s.published i).counters = s.counters := rfl

theorem published_stations (s : State) (i j : Station) : ((s.published i).station j).lcc = (s.station j).lcc ∧
    ((s.published i).station j).dhu = (s.station j).dhu ∧
    ((s.published i).station j).filters = (s.station j).filters := by
  by_cases own : j = i
  · subst own
    rw [published_station]
    exact ⟨rfl, rfl, rfl⟩
  · rw [State.published, State.station_modMu_ne _ _ own]
    exact ⟨rfl, rfl, rfl⟩

theorem windowEnd_becomes (s : State) (i : Station) :
    StationBecomes i s (settleStop (dhuWindowEnd (s.published i) i) i) { s.station i with
      mu := { (s.station i).mu with
        speed := speedOf (s.station i).mu.accumulator, accumulator := 0, windowDue := false } } :=
  ((StationBecomes.refl i s).modMu _ fun _ _ => rfl).drive
    ((DriveOnly.dhuWindowEnd _ i).trans (DriveOnly.settleStop _ i))

/-- A window end leaves the mark of its demand (log 12). -/
theorem dhuWindowEnd_mark (u : State) (i : Station) : ((dhuWindowEnd u i).station i).dhu.zeroThroughout =
    decide (((dhuWindowEnd u i).station i).dhu.demand = 0) := by
  unfold dhuWindowEnd
  rw [State.station_modDhu_same]
  rfl

/-- A stop that a window end completes has no demand (R107, R108). -/
theorem dhuWindowEnd_demand (moving : (u.station i).dhu.phase ≠ .idle)
    (ended : ((dhuWindowEnd u i).station i).dhu.phase = .idle) : ((dhuWindowEnd u i).station i).dhu.demand = 0 := by
  unfold dhuWindowEnd at ended ⊢
  rw [State.station_modDhu_same] at ended ⊢
  rw [Dhu.passWindow_demand]
  rw [Dhu.passWindow_phase] at ended
  split at ended
  case h_1 running => simp [windowRunning, running] at ended
  case h_2 stopping =>
    simp only [windowStopping] at ended ⊢
    split at ended
    · next rested =>
      rw [if_pos rested]
      exact (enterSetting_obeys (s := u)).demand_eq_zero (by simp [ended]) (by simp [ended])
    · next going =>
      split at ended <;> simp [stopping] at ended
  all_goals exact absurd ended moving

/-- A demand of 0 throughout a window is one that is 0 at its end (log 12). -/
theorem windowEnd_mark (idles : (u.station i).dhu.phase = .idle → u.dsa.holds i = false) :
    ((settleStop (dhuWindowEnd u i) i).station i).dhu.zeroThroughout =
      decide (((settleStop (dhuWindowEnd u i) i).station i).dhu.demand = 0) := by
  have mark := dhuWindowEnd_mark u i
  by_cases ended : ((dhuWindowEnd u i).station i).dhu.phase = .idle
  · by_cases idle : (u.station i).dhu.phase = .idle
    · have unheld : (dhuWindowEnd u i).dsa.holds i = false := ((DhuAct.dhuWindowEnd u i).holds i).trans (idles idle)
      rw [settleStop_unheld unheld, mark]
    · have rest := dhuWindowEnd_demand idle ended
      obtain ⟨demand, zero⟩ := DemandsRest.settleStop (dhuWindowEnd u i) i i ⟨rest, by simp [mark, rest]⟩
      rw [zero, demand]
      rfl
  · rw [settleStop_going ended, mark]

/-- In RUNNING the demand moves toward the target, and a moving drum restarts the stall timer (R104, R105). -/
theorem dhuWindowEnd_running {target : Target} (phase : (u.station i).dhu.phase = .running)
    (aimed : (u.station i).dhu.target = some target) :
    ((dhuWindowEnd u i).station i).dhu = Dhu.passWindow { (u.station i).dhu with
      demand := if (u.station i).dhu.demand < target.speed then
          min target.speed ((u.station i).dhu.demand + u.settings.slewStep)
        else max target.speed ((u.station i).dhu.demand - u.settings.slewStep)
      stall := if (u.station i).mu.speed = 0 then (u.station i).dhu.stall
        else some { elapsed := 0, limit := u.settings.stallTime } } ∧
    (dhuWindowEnd u i).dsa = u.dsa := by
  simp [dhuWindowEnd, phase, windowRunning, aimed, slewToward]

/-- A phase that a window end passes by (Table 5-4). -/
theorem dhuWindowEnd_passes (still : (u.station i).dhu.phase ∈ [DrivePhase.idle, .driveWait, .brakeWait, .setting, .held]) :
    dhuWindowEnd u i = u.modDhu i Dhu.passWindow := by
  simp only [List.mem_cons, List.not_mem_nil, or_false] at still
  rcases still with phase | phase | phase | phase | phase <;> simp only [dhuWindowEnd, phase]

section Stopping

variable (phase : (u.station i).dhu.phase = .stopping)

include phase

theorem dhuWindowEnd_slows (turning : (u.station i).dhu.demand ≠ 0) :
    ((dhuWindowEnd u i).station i).dhu = Dhu.passWindow { (u.station i).dhu with
      demand := (u.station i).dhu.demand - u.settings.slewStep
      timer := if (u.station i).dhu.demand ≤ u.settings.slewStep then .running .stop 0 u.settings.stopTimeout
        else (u.station i).dhu.timer } ∧
    (dhuWindowEnd u i).dsa = u.dsa := by
  simp [dhuWindowEnd, phase, windowStopping, turning, Nat.sub_eq_zero_iff_le]

theorem dhuWindowEnd_waits (still : (u.station i).dhu.demand = 0)
    (moving : (u.station i).mu.speed ≠ 0 ∨ (u.station i).dhu.zeroThroughout = false) :
    dhuWindowEnd u i = u.modDhu i Dhu.passWindow := by
  have going : ¬((u.station i).dhu.zeroThroughout = true ∧ (u.station i).dhu.demand = 0 ∧ (u.station i).mu.speed = 0) := by
    rintro ⟨zero, -, rest⟩
    exact moving.elim (absurd rest) (by simp [zero])
  simp only [dhuWindowEnd, phase, windowStopping]
  rw [if_neg going, if_neg (by simp [still])]

variable (still : (u.station i).dhu.demand = 0) (rest : (u.station i).mu.speed = 0)
  (zero : (u.station i).dhu.zeroThroughout = true)

include still rest zero

theorem dhuWindowEnd_rests : dhuWindowEnd u i = (enterSetting u i).modDhu i Dhu.passWindow := by
  simp [dhuWindowEnd, phase, windowStopping, still, rest, zero]

/-- A drum at rest for a whole window goes to SETTING (R107, R108). -/
theorem dhuWindowEnd_sets (brakeOpen : (u.station i).filters.brakeOpen.level = true) :
    ((dhuWindowEnd u i).station i).dhu = Dhu.passWindow { (u.station i).dhu with
      phase := .setting, stall := none, timer := .running .brakeSet 0 u.settings.brakeSetTimeout } ∧
    (dhuWindowEnd u i).dsa = u.dsa := by
  rw [dhuWindowEnd_rests phase still rest zero]
  simp [enterSetting, brakeOpen, still]

/-- With its brake set already its stop completes (R108, R109). -/
theorem vacated_dhuWindowEnd (set : (u.station i).filters.brakeOpen.level = false)
    (asked : (u.station i).dhu.stopRequest ≠ .none) : Vacated i u (freeSlot (dhuWindowEnd u i) i) := by
  have rests := dhuWindowEnd_rests phase still rest zero
  have ended : enterSetting u i = becomeIdle ((u.modDhu i fun d => { d with
      phase := .setting, demand := 0, stall := none, timer := .running .brakeSet 0 u.settings.brakeSetTimeout }).modMu i
      fun m => { m with releaseMeasure := none }) i := by
    dsimp only [enterSetting]
    rw [if_neg (by simp [set]), endSetting]
    simp only [State.station_modMu_same, State.station_modDhu_same]
  refine .of_stop (f := id) (fun _ => rfl) ?_ ?_ (DhuAct.dhuWindowEnd u i).others (DriveOnly.dhuWindowEnd u i) ?_
  · have same : (dhuWindowEnd u i).dsa = u.dsa := by
      rw [rests, ended]
      rfl
    simp [same]
  · rw [rests, State.station_modDhu_same, ended, becomeIdle_station]
    simp [Dhu.atRest, Dhu.passWindow, zero]
  · rw [rests, State.modDhu_counters, enterSetting_counters]

end Stopping

/-- A passing window changes its mark and nothing else (log 12). -/
theorem Dhu.eq_of_passed {a d : Dhu} (passed : a = d.passWindow) : a = { d with zeroThroughout := a.zeroThroughout } := by
  rw [passed]
  rfl

end Window

/-- Settles O40: the station's measurement by the frame, its drive by the phase that the window end finds. -/
theorem windowEndActs : Obligations.WindowEndActs := by
  unfold Obligations.WindowEndActs
  intro s i target v serving due speed
  have becomes := windowEnd_becomes s i
  obtain ⟨lcc, dhu, filters⟩ := published_stations s i i
  have dsa : (s.published i).dsa = s.dsa := rfl
  have settings : (s.published i).settings = s.settings := rfl
  have published : ((s.published i).station i).mu.speed = v := by
    rw [published_station, speed]
    rfl
  have alike := fun {d need t} (h : SlotRejoined d need i (s.published i) t) =>
    h.of_alike dsa rfl settings (fun j => ⟨congrArg Lcc.need (published_stations s i j).1, (published_stations s i j).2.2⟩)
      (fun e _ => (published_stations s i e.station).2.1) ⟨rfl, fun _ => rfl⟩
      fun j counts => counts.of_counters (published_counters s i) rfl
  have beside := fun {t} (h : SlotFreed i (s.published i) t) =>
    h.of_beside dsa rfl fun j other => State.station_modMu_ne s _ other
  refine ⟨_, exec_speedWindowEnd_due serving due, becomes.keptBeside, becomes.link, becomes.station.lcc, ?_⟩
  have mu := becomes.station.mu
  refine ⟨by rw [mu, speed]; rfl, by rw [mu], by rw [mu], by rw [mu], ?_⟩
  clear becomes mu
  generalize s.published i = u at *
  refine ⟨fun idles => windowEnd_mark (by rw [dhu, dsa]; exact idles), fun phase aimed => ?_, fun phase turning => ?_,
    fun phase still moving => ?_, fun phase still rest zero brakeOpen => ?_, fun phase still rest zero set asked holds => ?_,
    fun passes => ?_⟩
  · rw [← dhu] at phase aimed
    obtain ⟨runs, kept⟩ := dhuWindowEnd_running phase aimed
    rw [settleStop_going (by rw [runs]; simp [phase]), kept, dsa, Dhu.eq_of_passed runs, dhu, settings, published]
    exact ⟨rfl, rfl⟩
  · rw [← dhu] at phase turning
    obtain ⟨slows, kept⟩ := dhuWindowEnd_slows phase turning
    rw [settleStop_going (by rw [slows]; simp [phase]), kept, dsa, Dhu.eq_of_passed slows, dhu, settings]
    exact ⟨rfl, rfl⟩
  · rw [← dhu] at phase still moving
    rw [← published] at moving
    rw [dhuWindowEnd_waits phase still moving, settleStop_going (by rw [State.station_modDhu_same]; simp [phase]),
      State.station_modDhu_same, dhu]
    exact ⟨rfl, dsa⟩
  · rw [← dhu] at phase still zero
    rw [← published] at rest
    rw [← filters] at brakeOpen
    obtain ⟨sets, kept⟩ := dhuWindowEnd_sets phase still rest zero brakeOpen
    rw [settleStop_going (by rw [sets]; simp), kept, dsa, Dhu.eq_of_passed sets, dhu, settings]
    exact ⟨rfl, rfl⟩
  · rw [← dhu] at phase still zero asked
    rw [← published] at rest
    rw [← filters] at set
    have vacated := vacated_dhuWindowEnd phase still rest zero set asked
    obtain ⟨noNeed, needs⟩ := vacated.completes (((DhuAct.dhuWindowEnd u i).holds i).trans (dsa ▸ holds))
    rw [lcc] at noNeed needs
    rw [dhu] at noNeed needs
    refine ⟨fun unneeded => ?_, fun need presents => alike (needs need presents)⟩
    obtain ⟨rests, free, freed⟩ := noNeed unneeded
    exact ⟨rests, free, beside freed⟩
  · have passed : dhuWindowEnd u i = u.modDhu i Dhu.passWindow := by
      refine dhuWindowEnd_passes ?_
      rw [dhu]
      simp only [List.mem_cons, List.not_mem_nil, or_false] at passes ⊢
      tauto
    have settled : settleStop (u.modDhu i Dhu.passWindow) i = u.modDhu i Dhu.passWindow := by
      rcases passes with phase | ⟨-, unheld⟩
      · refine settleStop_going ?_
        rw [State.station_modDhu_same, Dhu.passWindow_phase, dhu]
        rintro idle
        simp [idle] at phase
      · exact settleStop_unheld (dsa ▸ unheld)
    rw [passed, settled, State.station_modDhu_same, dhu]
    exact ⟨rfl, dsa⟩

end Sys2Proof.Machine

/-!
PROOF. The hard stop of a FAULT entry by the drive phase that it finds (R94, R108, R110), and what it leaves of the drive and of
the slot of its station.
-/
namespace Sys2Proof.Machine

/-! ### A hard stop asked of a DHU -/

section HardStop

variable {s : State} {i : Station}

/-- The phases in which a hard stop enters SETTING (R110). -/
def hardStopSets : List DrivePhase := [.driveWait, .brakeWait, .running, .stopping, .held]

/-- The DHU of station `i` is asked for a hard stop, its pending motion discarded (R110). -/
def State.hardAsked (s : State) (i : Station) : State :=
  s.modDhu i fun d => { d with stopRequest := .fault, pendingMotion := none }

theorem hardAsked_station (s : State) (i : Station) : (s.hardAsked i).station i =
    { s.station i with dhu := { (s.station i).dhu with stopRequest := .fault, pendingMotion := none } } :=
  State.station_modDhu_same s i _

variable (asked : (s.station i).dhu.stopRequest ≠ .fault)

include asked

theorem hardStop_enters (active : (s.station i).dhu.phase ∈ hardStopSets) :
    hardStop s i = enterSetting (s.hardAsked i) i := by
  simp only [hardStopSets, List.mem_cons, List.not_mem_nil, or_false] at active
  rcases active with phase | phase | phase | phase | phase <;>
    simp only [hardStop, if_neg asked, phase, State.hardAsked]

/-- With its brake open the drum goes to SETTING (R108, R110). -/
theorem hardStop_sets (active : (s.station i).dhu.phase ∈ hardStopSets)
    (brakeOpen : (s.station i).filters.brakeOpen.level = true) :
    ((hardStop s i).station i).dhu = (s.station i).dhu.setsBrake .fault s.settings.brakeSetTimeout ∧
    (hardStop s i).dsa = s.dsa := by
  rw [hardStop_enters asked active]
  dsimp only [enterSetting]
  rw [if_pos (by rw [hardAsked_station]; exact brakeOpen), State.station_modMu_same, State.station_modDhu_same,
    hardAsked_station]
  exact ⟨rfl, rfl⟩

/-- With its brake set the stop completes at once (R108, R109, R110). -/
theorem hardStop_rests (active : (s.station i).dhu.phase ∈ hardStopSets)
    (set : (s.station i).filters.brakeOpen.level = false) :
    ((hardStop s i).station i).dhu = (s.station i).dhu.atRest ∧ (hardStop s i).dsa = s.dsa := by
  rw [hardStop_enters asked active]
  dsimp only [enterSetting]
  rw [if_neg (by rw [hardAsked_station]; simp [set]), endSetting]
  simp only [State.station_modMu_same, State.station_modDhu_same, hardAsked_station]
  rw [becomeIdle_station, State.station_modMu_same, State.station_modDhu_same, hardAsked_station]
  exact ⟨rfl, rfl⟩

/-- A SETTING under way goes on with its timer (R110). -/
theorem hardStop_goesOn (setting : (s.station i).dhu.phase = .setting) (running : (s.station i).dhu.timer ≠ .expired) :
    hardStop s i = s.hardAsked i := by
  simp only [hardStop, if_neg asked, setting, if_neg running, State.hardAsked]

/-- A SETTING whose timer has expired ends (R110). -/
theorem hardStop_ends (setting : (s.station i).dhu.phase = .setting) (expired : (s.station i).dhu.timer = .expired) :
    hardStop s i = becomeIdle (s.hardAsked i) i := by
  simp only [hardStop, if_neg asked, setting, expired, State.hardAsked, if_true]

omit asked in
theorem hardStop_again (again : (s.station i).dhu.stopRequest = .fault) :
    hardStop s i = s.modDhu i fun d => { d with pendingMotion := none } := if_pos again

end HardStop

/-! ### A freed slot, read beside -/

section Freed

variable {i : Station} {r s t u : State}

/-- A freed slot is read afterwards from the arbiter and the drive phases. -/
theorem SlotFreed.of_after (h : SlotFreed i s t) (dsa : u.dsa = t.dsa)
    (drives : ∀ j : Station, (u.station j).dhu = (t.station j).dhu) : SlotFreed i s u := by
  unfold SlotFreed at h ⊢
  simpa only [dsa, drives] using h

/-- What a freed slot leaves says nothing of the record that held it. -/
theorem SlotFreed.of_stopping {kind : StopKind} (h : SlotFreed i s t) (dsa : s.dsa = r.dsa.stopping i kind)
    (zoneHold : s.zoneHold = r.zoneHold) (others : ∀ j : Station, j ≠ i → (r.station j).SameButDrive (s.station j)) :
    SlotFreed i r t := by
  have records : (r.dsa.stopping i kind).holders.filter (fun k => decide (k.station ≠ i)) =
      r.dsa.holders.filter fun k => decide (k.station ≠ i) := by
    dsimp only [Dsa.stopping]
    induction r.dsa.holders with
    | nil => rfl
    | cons k l ih => by_cases hk : k.station = i <;> simp_all
  obtain ⟨nobody, served⟩ := h
  rw [dsa] at nobody served
  rw [records] at nobody served
  refine ⟨nobody, fun e more need remaining hr hw other hn classes slots held => ?_⟩
  rw [← (others _ other).lcc] at hn
  rw [← (others _ other).filters] at held
  rw [zoneHold] at served
  exact served e more need remaining hr hw other hn classes slots held

end Freed

/-! ### The hard stop of a FAULT entry -/

section StopForFault

variable {s : State} {i : Station}

/-- The station and its record as the hard stop finds them (R94). -/
def State.faultHeld (s : State) (i : Station) : State := (needDropped s i).modHolder i (Holder.stopAs .hard)

theorem faultHeld_station (s : State) (i : Station) : (s.faultHeld i).station i =
    { s.station i with
      lcc := { (s.station i).lcc with need := none }, dhu := { (s.station i).dhu with pendingMotion := none } } :=
  needDropped_station s i

theorem faultHeld_station_ne {j : Station} (other : j ≠ i) : (s.faultHeld i).station j = s.station j :=
  needDropped_station_ne other

theorem faultHeld_dsa (s : State) (i : Station) : (s.faultHeld i).dsa = s.dsa.stopping i .hard := by
  simp only [State.faultHeld, State.modHolder, State.modDsa_dsa, Dsa.stopping]
  refine congrArg (fun l => { s.dsa with holders := l }) (List.map_congr_left fun h _ => ?_)
  rfl

theorem faultHeld_holds (s : State) (i : Station) : (s.faultHeld i).dsa.holds i = s.dsa.holds i :=
  any_holder_update _ i i fun _ => rfl

/-- A slot freed after the hard stop of its station, read from before it. -/
theorem SlotFreed.of_faultHeld {t : State} (h : SlotFreed i (s.faultHeld i) t) : SlotFreed i s t :=
  h.of_stopping (faultHeld_dsa s i) rfl fun j other => by
    rw [faultHeld_station_ne other]
    exact StationState.SameButDrive.refl _

theorem stopForFault_holding (waits : s.dsa.waits i = false) :
    stopForFault s i = settleStop (hardStop (s.faultHeld i) i) i := by
  rw [stopForFault, if_neg (ne_true_of_eq_false waits)]
  rfl

theorem stopForFault_waiting (waits : s.dsa.waits i = true) :
    stopForFault s i = arbitrate (leaveList (needDropped s i) i) := by
  rw [stopForFault, if_pos waits]
  rfl

variable (waits : s.dsa.waits i = false)

include waits

theorem stopForFault_goesOn (again : (s.station i).dhu.stopRequest = .fault) (going : (s.station i).dhu.phase ≠ .idle) :
    ((stopForFault s i).station i).dhu = { (s.station i).dhu with pendingMotion := none } ∧
    (stopForFault s i).dsa = s.dsa.stopping i .hard := by
  have station := faultHeld_station s i
  rw [stopForFault_holding waits, hardStop_again (by rw [station]; exact again),
    settleStop_going (by rw [State.station_modDhu_same, station]; exact going), State.station_modDhu_same, station,
    State.modDhu_dsa, faultHeld_dsa]
  exact ⟨rfl, rfl⟩

variable (asked : (s.station i).dhu.stopRequest ≠ .fault)

include asked

theorem stopForFault_sets (active : (s.station i).dhu.phase ∈ hardStopSets)
    (brakeOpen : (s.station i).filters.brakeOpen.level = true) :
    ((stopForFault s i).station i).dhu = (s.station i).dhu.setsBrake .fault s.settings.brakeSetTimeout ∧
    (stopForFault s i).dsa = s.dsa.stopping i .hard := by
  have station := faultHeld_station s i
  obtain ⟨sets, dsa⟩ := hardStop_sets (s := s.faultHeld i) (i := i) (by rw [station]; exact asked)
    (by rw [station]; exact active) (by rw [station]; exact brakeOpen)
  rw [stopForFault_holding waits, settleStop_going (by rw [sets]; simp [Dhu.setsBrake]), sets, dsa, station, faultHeld_dsa]
  exact ⟨rfl, rfl⟩

theorem stopForFault_settingGoesOn (setting : (s.station i).dhu.phase = .setting)
    (running : (s.station i).dhu.timer ≠ .expired) :
    ((stopForFault s i).station i).dhu = { (s.station i).dhu with stopRequest := .fault, pendingMotion := none } ∧
    (stopForFault s i).dsa = s.dsa.stopping i .hard := by
  have station := faultHeld_station s i
  have asks := hardAsked_station (s.faultHeld i) i
  rw [stopForFault_holding waits, hardStop_goesOn (by rw [station]; exact asked) (by rw [station]; exact setting)
    (by rw [station]; exact running), settleStop_going (by rw [asks, station]; simp [setting]), asks, station]
  exact ⟨rfl, faultHeld_dsa s i⟩

/-- A hard stop that completes at once frees the slot (R88, R109, R110). -/
theorem stopForFault_frees (holds : s.dsa.holds i = true)
    (ends : ((s.station i).dhu.phase ∈ hardStopSets ∧ (s.station i).filters.brakeOpen.level = false) ∨
      ((s.station i).dhu.phase = .setting ∧ (s.station i).dhu.timer = .expired)) :
    ((stopForFault s i).station i).dhu = (s.station i).dhu.atRest ∧ SlotFreed i s (stopForFault s i) := by
  have station := faultHeld_station s i
  have asked' : ((s.faultHeld i).station i).dhu.stopRequest ≠ .fault := by rw [station]; exact asked
  have rests : ((hardStop (s.faultHeld i) i).station i).dhu = ((s.faultHeld i).station i).dhu.atRest ∧
      (hardStop (s.faultHeld i) i).dsa = (s.faultHeld i).dsa := by
    rcases ends with ⟨active, set⟩ | ⟨setting, expired⟩
    · exact hardStop_rests asked' (by rw [station]; exact active) (by rw [station]; exact set)
    · rw [hardStop_ends asked' (by rw [station]; exact setting) (by rw [station]; exact expired), becomeIdle_station,
        hardAsked_station]
      exact ⟨rfl, rfl⟩
  have vacated : Vacated i (s.faultHeld i) (freeSlot (hardStop (s.faultHeld i) i) i) := by
    refine .of_stop (f := id) (fun _ => rfl) ?_ rests.1 (DhuAct.hardStop _ i).others (DriveOnly.hardStop _ i)
      (hardStop_counters _ i)
    simp [rests.2]
  have held : (hardStop (s.faultHeld i) i).dsa.holds i = true := by
    rw [rests.2, faultHeld_holds]
    exact holds
  obtain ⟨rest, -, freed⟩ := (vacated.completes held).noNeed (by rw [station])
  rw [stopForFault_holding waits, rest, station]
  exact ⟨rfl, freed.of_faultHeld⟩

end StopForFault

/-! ### The drive after a FAULT entry -/

section Entry

variable {s : State} {i : Station} {kind : FaultKind}

/-- The record of the entry is made, before the hard stop (R29). -/
def State.faultRecorded (s : State) (i : Station) (kind : FaultKind) : State :=
  (s.modLcc i fun l => { l.moved .fault .fault (s.station i).latch with
    fault := some ((s.station i).recordFor kind s.berthTime) }).modMu i fun m => { m with correction := none }

theorem faultRecorded_station (s : State) (i : Station) (kind : FaultKind) : (s.faultRecorded i kind).station i =
    { s.station i with
      lcc := { (s.station i).lcc.moved .fault .fault (s.station i).latch with
        fault := some ((s.station i).recordFor kind s.berthTime) }
      mu := { (s.station i).mu with correction := none } } := by
  rw [State.faultRecorded, State.station_modMu_same, State.station_modLcc_same]

theorem faultRecorded_station_ne {j : Station} (other : j ≠ i) : (s.faultRecorded i kind).station j = s.station j := by
  rw [State.faultRecorded, State.station_modMu_ne _ _ other, State.station_modLcc_ne _ _ other]

theorem addFurther_drives (s : State) (i : Station) (kind : FaultKind) :
    (addFurther s i kind).dsa = s.dsa ∧ ∀ j : Station, ((addFurther s i kind).station j).dhu = (s.station j).dhu := by
  refine ⟨rfl, fun j => ?_⟩
  have reported : (addFurther s i kind).station j = (s.modLcc i fun l => { l with
      fault := l.fault.map fun r => { r with further := r.further ||| kind.bit } }).station j := rfl
  rw [reported]
  by_cases own : j = i
  · subst own
    rw [State.station_modLcc_same]
  · rw [State.station_modLcc_ne _ _ own]

/-- Beside its hard stop a FAULT entry leaves every drive and the arbiter (R29). -/
theorem enterFault_drives (s : State) (i : Station) (kind : FaultKind) :
    (enterFault s i kind).dsa = (stopForFault (s.faultRecorded i kind) i).dsa ∧
    ∀ j : Station, ((enterFault s i kind).station j).dhu = ((stopForFault (s.faultRecorded i kind) i).station j).dhu := by
  have entered : (faultEntered s i kind).dsa = (stopForFault (s.faultRecorded i kind) i).dsa ∧
      ∀ j : Station, ((faultEntered s i kind).station j).dhu =
        ((stopForFault (s.faultRecorded i kind) i).station j).dhu := by
    have stopped : faultStopped s i kind = (stopForFault (s.faultRecorded i kind) i).modLpu i Lpu.endedByFault := rfl
    unfold faultEntered
    rw [stopped]
    generalize stopForFault (s.faultRecorded i kind) i = u
    refine ⟨by rw [State.occurrence_dsa]; rfl, fun j => ?_⟩
    rw [State.occurrence_station, State.reportStation_station]
    by_cases own : j = i
    · subst own
      rw [State.station_modHanded_same, State.station_modLpu_same]
    · rw [State.station_modHanded_ne _ _ own, State.station_modLpu_ne _ _ own]
  obtain ⟨dsa, dhu⟩ := entered
  obtain ⟨dsa', dhu'⟩ := addFurther_drives (faultEntered s i kind) i .sensorLost
  rw [enterFault_eq]
  split
  · exact ⟨dsa'.trans dsa, fun j => (dhu' j).trans (dhu j)⟩
  · exact ⟨dsa, dhu⟩

end Entry

end Sys2Proof.Machine

/-!
PROOF. The detections that a timeout makes (O41; R102, R103, R105, R107, R108, R111, R123, R131, R137): each as one detection at
its station with its timer marked, the drive that its hard stop leaves, and a second detection that is due beside it.
-/
namespace Sys2Proof.Machine

/-! ### A drum in SETTING while the arbiter works elsewhere -/

/-- Station `i` presents no need and has no entry, and its drum is in SETTING with this timer. -/
structure SettingOn (i : Station) (timer : PhaseTimer) (s : State) : Prop where
  unlisted : Unlisted i s
  phase : (s.station i).dhu.phase = .setting
  running : (s.station i).dhu.timer = timer

section SettingOn

variable {i : Station} {timer : PhaseTimer} {s t : State}

theorem SettingOn.of_dhu (h : SettingOn i timer s) (unlisted : Unlisted i t) (same : (t.station i).dhu = (s.station i).dhu) :
    SettingOn i timer t := ⟨unlisted, by rw [same, h.phase], by rw [same, h.running]⟩

theorem SettingOn.grantHead (h : SettingOn i timer s) : SettingOn i timer (grantHead s) := by
  have unlisted := h.unlisted.grantHead
  cases hw : s.dsa.waiting with
  | nil => simpa only [Machine.grantHead, hw] using h
  | cons e rest =>
    cases hn : (s.station e.station).lcc.need with
    | none =>
      refine h.of_dhu unlisted ?_
      simp only [Machine.grantHead, hw, hn]
      rfl
    | some need =>
      have other : i ≠ e.station := by
        rintro rfl
        simp [h.unlisted.noNeed] at hn
      exact h.of_dhu unlisted (by rw [grantHead_station_ne hw hn other])

theorem SettingOn.grantRule (n : Nat) : ∀ {s : State}, SettingOn i timer s → SettingOn i timer (grantRule n s) := by
  induction n with
  | zero => exact id
  | succ n ih =>
    intro s h
    unfold Machine.grantRule
    split_ifs
    · exact ih h.grantHead
    · exact h

theorem normalStop_setting (setting : (s.station i).dhu.phase = .setting) :
    ((normalStop s i).station i).dhu.phase = .setting ∧
    ((normalStop s i).station i).dhu.timer = (s.station i).dhu.timer := by
  by_cases asked : (s.station i).dhu.stopRequest = .none
  · simp [normalStop, asked, setting]
  · simp [normalStop, asked, setting]

/-- A yield asked of a drum in SETTING leaves it there (Table 5-4). -/
theorem SettingOn.beginYield (h : SettingOn i timer s) (j : Station) : SettingOn i timer (beginYield s j) := by
  have unlisted := h.unlisted.beginYield j
  rw [beginYield_eq] at unlisted ⊢
  by_cases own : i = j
  · subst own
    have phase : ((s.yieldBegun i).station i).dhu.phase = .setting := by rw [State.yieldBegun_station]; exact h.phase
    obtain ⟨stays, runs⟩ := normalStop_setting phase
    exact ⟨unlisted, stays, by rw [runs, State.yieldBegun_station]; exact h.running⟩
  · refine h.of_dhu unlisted ?_
    rw [normalStop_station_ne _ own, State.yieldBegun_station]

theorem SettingOn.rejoin (h : SettingOn i timer s) (j : Station) : SettingOn i timer (rejoin s j) := by
  refine h.of_dhu (h.unlisted.rejoin j) ?_
  unfold Machine.rejoin
  split <;> rfl

theorem SettingOn.preempt (n : Nat) : ∀ {s : State}, SettingOn i timer s → SettingOn i timer (preempt n s) := by
  induction n with
  | zero => exact id
  | succ n ih =>
    intro s h
    dsimp only [Machine.preempt]
    split
    · exact h
    · next yielder forStation _ =>
      have paired : SettingOn i timer (s.modDsa fun d =>
          { d with yields := d.yields ++ [{ yielder := yielder, forStation := forStation, lapsed := false }] }) :=
        ⟨⟨h.unlisted.noNeed, h.unlisted.noEntry⟩, h.phase, h.running⟩
      have yielded := paired.beginYield yielder
      have freed (u : State) (k : SettingOn i timer u) : SettingOn i timer (freeSlot u yielder) :=
        ⟨k.unlisted.freeSlot yielder, k.phase, k.running⟩
      split_ifs
      · exact ih (((freed _ yielded).rejoin yielder).grantRule _)
      · exact yielded

theorem SettingOn.arbitrate (h : SettingOn i timer s) : SettingOn i timer (arbitrate s) := (h.grantRule _).preempt 13

/-- The hard stop of a FAULT entry leaves a SETTING under way with its timer (R110). -/
theorem stopForFault_setting (setting : (s.station i).dhu.phase = .setting) (running : (s.station i).dhu.timer ≠ .expired) :
    ((stopForFault s i).station i).dhu.phase = .setting ∧
    ((stopForFault s i).station i).dhu.timer = (s.station i).dhu.timer := by
  cases waits : s.dsa.waits i with
  | true =>
    have left : SettingOn i (s.station i).dhu.timer (leaveList (needDropped s i) i) := by
      have station : (leaveList (needDropped s i) i).station i = (needDropped s i).station i := rfl
      rw [needDropped_station] at station
      exact ⟨⟨by rw [station], by simp [leaveList, Dsa.waits]⟩, by rw [station]; exact setting, by rw [station]⟩
    rw [stopForFault_waiting waits]
    exact ⟨left.arbitrate.phase, left.arbitrate.running⟩
  | false =>
    by_cases again : (s.station i).dhu.stopRequest = .fault
    · rw [(stopForFault_goesOn waits again (by simp [setting])).1]
      exact ⟨setting, rfl⟩
    · rw [(stopForFault_settingGoesOn waits again setting running).1]
      exact ⟨setting, rfl⟩

end SettingOn

/-! ### A timer marked -/

/-- The station as its timeout's detection finds it: the timer that has run out marked (R108, R123, R131, R51). -/
def StationState.marked (a : StationState) : FaultKind → StationState
  | .brakeNotSet => { a with dhu := { a.dhu with timer := .expired } }
  | .latchSensor => { a with lpu := { a.lpu with conflictTimer := .expired } }
  | .latchNotClosed => { a with lpu := a.lpu.exhausted }
  | .latchNotOpen => { a with lpu := a.lpu.exhausted }
  | .sensorLost => { a with mu := { a.mu with lost := true }, handed := a.handed.filter fun k => !decide (k = .sensorLost) }
  | _ => a

section Marked

variable (a : StationState) (kind : FaultKind)

theorem StationState.marked_lcc : (a.marked kind).lcc = a.lcc := by cases kind <;> rfl

theorem StationState.marked_filters : (a.marked kind).filters = a.filters := by cases kind <;> rfl

theorem StationState.marked_latch : (a.marked kind).latch = a.latch := by
  rw [StationState.latch, StationState.latch, a.marked_filters]

theorem StationState.marked_measured :
    (a.marked kind).mu.tension = a.mu.tension ∧ (a.marked kind).mu.count = a.mu.count := by
  cases kind <;> exact ⟨rfl, rfl⟩

theorem StationState.marked_stream (other : kind ≠ .sensorLost) : (a.marked kind).mu = a.mu := by
  cases kind <;> first | rfl | exact absurd rfl other

theorem StationState.marked_dhu (other : kind ≠ .brakeNotSet) : (a.marked kind).dhu = a.dhu := by
  cases kind <;> first | rfl | exact absurd rfl other

end Marked

section Detections

variable {s t u : State} {i : Station} {kind : FaultKind}

/-- The timer of this kind stands marked at station `i`. -/
def State.timerMarked (s : State) (i : Station) (kind : FaultKind) : State := s.setStation i ((s.station i).marked kind)

theorem timerMarked_station (s : State) (i : Station) (kind : FaultKind) :
    (s.timerMarked i kind).station i = (s.station i).marked kind := State.station_setStation_same s i _

theorem timerMarked_becomes (s : State) (i : Station) (kind : FaultKind) :
    StationBecomes i s (s.timerMarked i kind) ((s.station i).marked kind) := (StationBecomes.refl i s).setStation _

/-- A SETTING whose timer has expired, and that the hard stop has not ended, ends (R108, R111). -/
def State.settingEnds (s : State) (i : Station) : State :=
  if (s.station i).dhu.phase = .setting ∧ (s.station i).dhu.timer = .expired then settleStop (becomeIdle s i) i else s

/-- A timeout's detection, with the end of SETTING that BRAKE_NOT_SET brings besides (R111, R137). -/
def State.timedOut (s : State) (i : Station) (kind : FaultKind) : State :=
  if kind = .brakeNotSet then (detect (s.timerMarked i kind) i kind).settingEnds i else detect (s.timerMarked i kind) i kind

theorem timedOut_drive (s : State) (i : Station) (kind : FaultKind) :
    DriveOnly (detect (s.timerMarked i kind) i kind) (s.timedOut i kind) := by
  unfold State.timedOut State.settingEnds
  split_ifs
  · exact (DriveOnly.becomeIdle _ i).trans (DriveOnly.settleStop _ i)
  all_goals exact DriveOnly.refl _

/-- Each of the timeouts makes its detection (R102, R103, R105, R107, R108, R123, R131, R51). -/
theorem exec_timedDetection {d : Instr × FaultKind} {elapsed limit : Nat} (out : limit ≤ elapsed)
    (serving : (s.station i).lcc.lineState ≠ .offline) (mem : d ∈ timedDetections i)
    (due : (s.station i).timesOut d.2 elapsed limit) : exec d.1 s = .next (s.timedOut i d.2) := by
  have unmarked (kind : FaultKind) (same : (s.station i).marked kind = s.station i) : s.timerMarked i kind = s := by
    rw [State.timerMarked, same, State.setStation_self]
  simp only [timedDetections, List.mem_cons, List.not_mem_nil, or_false] at mem
  rcases mem with rfl | rfl | rfl | rfl | rfl | rfl | rfl | rfl | rfl
  · obtain ⟨phase, timer⟩ := due
    rw [State.timedOut, if_neg (by simp), unmarked _ rfl]
    exact congrArg Host.Outcome.next (if_pos (by simp [Dhu.stallDue, timer, phase, Timer.due, out]))
  · obtain ⟨phase, timer⟩ := due
    rw [State.timedOut, if_neg (by simp), unmarked _ rfl]
    exact congrArg Host.Outcome.next (if_pos (by simp [Dhu.phaseDue, Dhu.phaseTimerDue, timer, phase, out]))
  · obtain ⟨phase, timer⟩ := due
    rw [State.timedOut, if_neg (by simp), unmarked _ rfl]
    exact congrArg Host.Outcome.next (if_pos (by simp [Dhu.phaseDue, Dhu.phaseTimerDue, timer, phase, out]))
  · obtain ⟨phase, timer⟩ := due
    rw [State.timedOut, if_neg (by simp), unmarked _ rfl]
    exact congrArg Host.Outcome.next (if_pos (by simp [Dhu.phaseDue, Dhu.phaseTimerDue, timer, phase, out]))
  · obtain ⟨phase, timer⟩ := due
    exact congrArg Host.Outcome.next (if_pos (by simp [Dhu.phaseDue, Dhu.phaseTimerDue, timer, phase, out]))
  · have timer : (s.station i).lpu.conflictTimer = .running elapsed limit := due
    exact congrArg Host.Outcome.next (if_pos (by simp [ConflictTimer.due, timer, out]))
  · obtain ⟨sequence, confirmOpen, timer, spent⟩ := due
    have runs : exec (.confirmTimeout i) s = .next (confirmTimesOut s i) :=
      congrArg Host.Outcome.next (if_pos (by simp [Lpu.confirmDue, timer, confirmOpen, Timer.due, out]))
    rw [runs, confirmTimesOut, if_neg (by omega), attemptsExhausted, sequence]
    rfl
  · obtain ⟨sequence, confirmOpen, timer, spent⟩ := due
    have runs : exec (.confirmTimeout i) s = .next (confirmTimesOut s i) :=
      congrArg Host.Outcome.next (if_pos (by simp [Lpu.confirmDue, timer, confirmOpen, Timer.due, out]))
    rw [runs, confirmTimesOut, if_neg (by omega), attemptsExhausted, sequence]
    rfl
  · obtain ⟨good, age, timeout, holds⟩ := due
    have runs : exec (.sampleTimeout i) s = .next (loseStream s i) := congrArg Host.Outcome.next (if_pos (by
      simp [State.sampleDue, State.inService, Mu.lossDue, serving, good, age, timeout, out]))
    have lost : (s.station i).lossDetected = true := by
      simp only [List.mem_cons, List.not_mem_nil, or_false] at holds
      rcases holds with (h | h | h | h | h | h) | ⟨h, closed⟩ <;>
        simp [StationState.lossDetected, StationState.lostIsFault, LineState.lostIsFault, LineState.isTensioned, *]
    have marks : s.streamLost i = s.timerMarked i .sensorLost := by
      refine (State.setStation_setStation s i _ _).trans ?_
      simp only [State.station_modMu_same]
      rfl
    rw [runs, loseStream_eq, if_pos lost, marks]
    rfl

/-- A timeout's detection is an event taken at its station (R2, R30, R137). -/
theorem timedOut_moved (serving : (s.station i).lcc.lineState ≠ .offline) (kind : FaultKind) :
    StationMoved i s (s.timedOut i kind) := by
  have detected : StationMoved i s (detect (s.timerMarked i kind) i kind) :=
    (detect_moved (by rw [timerMarked_station, StationState.marked_lcc]; exact serving) kind).after
      (timerMarked_becomes s i kind)
  have drive := timedOut_drive s i kind
  refine ⟨⟨fun j other => (detected.beside.others j other).trans (drive.stations j),
    detected.beside.berth.trans drive.berth⟩, detected.link.trans drive.link, ?_⟩
  have reported := detected.report
  unfold State.timedOut State.settingEnds
  split_ifs
  · exact reports_subset_settleStop _ i reported
  all_goals exact reported

end Detections

end Sys2Proof.Machine

/-!
PROOF. What a timeout's detection leaves of the drive and of the slot (O41; R88, R108 to R111), and the second detection that is
due beside it: its timer still stands, or it has been handed to the LCC (R137, log 29).
-/
namespace Sys2Proof.Machine

section Drive

variable {s : State} {i : Station} {kind : FaultKind}

/-- The state from which the hard stop of a timeout's FAULT entry is asked. -/
def State.stopsFrom (s : State) (i : Station) (kind : FaultKind) : State := (s.timerMarked i kind).faultRecorded i kind

theorem stopsFrom_station (s : State) (i : Station) (kind : FaultKind) :
    ((s.stopsFrom i kind).station i).dhu = ((s.station i).marked kind).dhu ∧
    ((s.stopsFrom i kind).station i).filters = (s.station i).filters := by
  rw [State.stopsFrom, faultRecorded_station, timerMarked_station]
  exact ⟨rfl, StationState.marked_filters _ kind⟩

theorem stopsFrom_station_ne {j : Station} (other : j ≠ i) : (s.stopsFrom i kind).station j = s.station j := by
  rw [State.stopsFrom, faultRecorded_station_ne other, State.timerMarked, State.station_setStation_ne _ _ other]

/-- What a freed slot leaves is the same from before the entry. -/
theorem SlotFreed.of_stopsFrom {t : State} (h : SlotFreed i (s.stopsFrom i kind) t) : SlotFreed i s t :=
  h.of_beside rfl rfl fun _ other => stopsFrom_station_ne other

variable (serving : (s.station i).lcc.lineState ≠ .offline) (outside : (s.station i).lcc.lineState ≠ .fault)

include serving outside

theorem timedDetect_enters : detect (s.timerMarked i kind) i kind = enterFault (s.timerMarked i kind) i kind := by
  have lcc : ((s.timerMarked i kind).station i).lcc = (s.station i).lcc := by
    rw [timerMarked_station, StationState.marked_lcc]
  exact detect_enters _ i kind (by rw [lcc]; exact serving) (by rw [lcc]; exact outside)

theorem timedDetect_drives : (detect (s.timerMarked i kind) i kind).dsa = (stopForFault (s.stopsFrom i kind) i).dsa ∧
    ∀ j : Station, ((detect (s.timerMarked i kind) i kind).station j).dhu =
      ((stopForFault (s.stopsFrom i kind) i).station j).dhu := by
  rw [timedDetect_enters serving outside]
  exact enterFault_drives _ i kind

/-- The hard stop of a timeout's FAULT entry by the drive phase that it finds (R94, R108, R110). -/
theorem timedOut_stops (other : kind ≠ .brakeNotSet) (waits : s.dsa.waits i = false)
    (asked : (s.station i).dhu.stopRequest ≠ .fault) :
    ((s.station i).dhu.phase ∈ hardStopSets →
      ((s.station i).filters.brakeOpen.level = true →
        ((s.timedOut i kind).station i).dhu = (s.station i).dhu.setsBrake .fault s.settings.brakeSetTimeout ∧
        (s.timedOut i kind).dsa = s.dsa.stopping i .hard) ∧
      ((s.station i).filters.brakeOpen.level = false → s.dsa.holds i = true →
        ((s.timedOut i kind).station i).dhu = (s.station i).dhu.atRest ∧ SlotFreed i s (s.timedOut i kind))) ∧
    ((s.station i).dhu.phase = .setting → (s.station i).dhu.timer ≠ .expired →
      ((s.timedOut i kind).station i).dhu = { (s.station i).dhu with stopRequest := .fault, pendingMotion := none } ∧
      (s.timedOut i kind).dsa = s.dsa.stopping i .hard) := by
  obtain ⟨dsa, drives⟩ := timedDetect_drives (kind := kind) serving outside
  obtain ⟨dhu, filters⟩ := stopsFrom_station s i kind
  rw [StationState.marked_dhu _ kind other] at dhu
  rw [State.timedOut, if_neg other]
  have waits' : (s.stopsFrom i kind).dsa.waits i = false := waits
  have holds' : (s.stopsFrom i kind).dsa.holds i = s.dsa.holds i := rfl
  have settings : (s.stopsFrom i kind).settings = s.settings := rfl
  have slots : (s.stopsFrom i kind).dsa = s.dsa := rfl
  rw [← dhu] at asked ⊢
  rw [← filters, drives i, dsa, ← settings, ← slots]
  refine ⟨fun active => ⟨fun brakeOpen => stopForFault_sets waits' asked active brakeOpen, fun set holds => ?_⟩,
    fun setting running => stopForFault_settingGoesOn waits' asked setting running⟩
  obtain ⟨rest, freed⟩ := stopForFault_frees waits' asked (holds'.trans holds) (.inl ⟨active, set⟩)
  exact ⟨rest, freed.of_stopsFrom.of_after dsa drives⟩

end Drive

/-! ### A brake that does not set -/

section BrakeNotSet

variable {s : State} {i : Station}

/-- A SETTING that ends after its detection frees the slot (R88, R108, R109). -/
theorem settingEnds_frees (setting : (s.station i).dhu.phase = .setting) (expired : (s.station i).dhu.timer = .expired)
    (noNeed : (s.station i).lcc.need = none) (holds : s.dsa.holds i = true) :
    ((s.settingEnds i).station i).dhu = (s.station i).dhu.atRest ∧ SlotFreed i s (s.settingEnds i) := by
  obtain ⟨rest, -, freed⟩ := (becomeIdle_completes holds).noNeed noNeed
  rw [State.settingEnds, if_pos ⟨setting, expired⟩]
  exact ⟨rest, freed⟩

/-- BRAKE_NOT_SET leaves the drum at rest and its slot free, its stop normal or hard (R108, R110, R111). -/
theorem timedOut_brakeNotSet (setting : (s.station i).dhu.phase = .setting) (serving : (s.station i).lcc.lineState ≠ .offline)
    (waits : s.dsa.waits i = false) (holds : s.dsa.holds i = true)
    (state : (s.station i).lcc.lineState ≠ .fault ∨ (s.station i).lcc.need = none) :
    ((s.timedOut i .brakeNotSet).station i).dhu = (s.station i).dhu.atRest ∧ SlotFreed i s (s.timedOut i .brakeNotSet) := by
  have marked := timerMarked_station s i .brakeNotSet
  have moved : StationMoved i s (detect (s.timerMarked i .brakeNotSet) i .brakeNotSet) :=
    (detect_moved (by rw [marked]; exact serving) _).after (timerMarked_becomes s i _)
  rw [State.timedOut, if_pos rfl]
  by_cases fault : (s.station i).lcc.lineState = .fault
  · have need : (s.station i).lcc.need = none := state.resolve_left (absurd fault)
    rw [detect_fault _ _ _ (by rw [marked]; exact fault)] at moved ⊢
    obtain ⟨dsa, drives⟩ := addFurther_drives (s.timerMarked i .brakeNotSet) i .brakeNotSet
    have dhu := drives i
    have lcc := (addFurther_becomes (s.timerMarked i .brakeNotSet) i .brakeNotSet).station.lcc
    rw [marked] at dhu lcc
    obtain ⟨rest, freed⟩ := settingEnds_frees (s := addFurther (s.timerMarked i .brakeNotSet) i .brakeNotSet) (i := i)
      (by rw [dhu]; exact setting) (by rw [dhu]; rfl) (by rw [lcc]; exact need) (by rw [dsa]; exact holds)
    refine ⟨by rw [rest, dhu]; rfl, freed.of_beside (dsa.trans rfl) rfl fun j other => ?_⟩
    rw [addFurther, State.reportStation_station, State.station_modLcc_ne _ _ other, State.timerMarked,
      State.station_setStation_ne _ _ other]
  · obtain ⟨dsa, drives⟩ := timedDetect_drives (kind := .brakeNotSet) serving fault
    obtain ⟨dhu, filters⟩ := stopsFrom_station s i .brakeNotSet
    have waits' : (s.stopsFrom i .brakeNotSet).dsa.waits i = false := waits
    have holds' : (s.stopsFrom i .brakeNotSet).dsa.holds i = true := holds
    by_cases again : (s.station i).dhu.stopRequest = .fault
    · obtain ⟨goes, slots⟩ := stopForFault_goesOn waits' (by rw [dhu]; exact again)
        (by rw [dhu]; simp [StationState.marked, setting])
      have own := drives i
      rw [goes, dhu] at own
      rw [slots] at dsa
      have noNeed : ((detect (s.timerMarked i .brakeNotSet) i .brakeNotSet).station i).lcc.need = none := by
        obtain ⟨handed, entered⟩ := detect_leaves (s := s.timerMarked i .brakeNotSet) (i := i) (by rw [marked]; exact serving)
          (by rw [marked]; exact fault) .brakeNotSet
        rw [entered.station.lcc]
        dsimp only [StationState.inFault, StationState.lccFaulted]
        split <;> rfl
      have still : (detect (s.timerMarked i .brakeNotSet) i .brakeNotSet).dsa.holds i = true := by
        rw [dsa]
        exact (any_holder_update _ i i (f := Holder.stopAs .hard) fun _ => rfl).trans holds
      obtain ⟨rest, freed⟩ := settingEnds_frees (by rw [own]; exact setting) (by rw [own]; rfl) noNeed still
      refine ⟨by rw [rest, own]; rfl, freed.of_stopping (dsa.trans rfl) ?_ moved.beside.others⟩
      exact congrArg Filter.level moved.beside.berth.zoneFilter
    · obtain ⟨rest, freed⟩ := stopForFault_frees waits' (by rw [dhu]; exact again) holds'
        (.inr (by rw [dhu]; exact ⟨setting, rfl⟩))
      have ended : State.settingEnds (detect (s.timerMarked i .brakeNotSet) i .brakeNotSet) i =
          detect (s.timerMarked i .brakeNotSet) i .brakeNotSet :=
        if_neg (by rw [drives i, rest]; simp [Dhu.atRest])
      rw [ended, drives i, rest, dhu]
      exact ⟨rfl, freed.of_stopsFrom.of_after dsa drives⟩

end BrakeNotSet


/-! ### A second detection that is due -/

section Second

variable {s t : State} {i : Station} {a : StationState}

/-- A detection of this kind is made by its timeout as the station stands: its timer has run out, or it has been handed to the
LCC (R137, log 29). -/
def StationState.stillDetects (a : StationState) : FaultKind → Prop
  | .brakeNotSet => a.dhu.phaseDue .brakeSet = true
  | .latchSensor => a.lpu.conflictTimer.due = true
  | .latchNotClosed => a.lpu.confirmDue = false ∧ .latchNotClosed ∈ a.handed
  | .latchNotOpen => a.lpu.confirmDue = false ∧ .latchNotOpen ∈ a.handed ∧ .latchNotClosed ∉ a.handed
  | .sensorLost => a.mu.lossDue = true ∧ a.lossDetected = true
  | kind => a.detectionDue kind = true ∨ kind ∈ a.handed

/-- In FAULT a detection adds its kind, whatever its timeout marks beside the context (R30). -/
theorem detect_further (fault : (t.station i).lcc.lineState = .fault) {v : State}
    (lcc : (v.station i).lcc = (t.station i).lcc) (kind : FaultKind) :
    ((detect v i kind).station i).lcc = { (t.station i).lcc with
      fault := (t.station i).lcc.fault.map fun r => { r with further := r.further ||| (1 <<< kind.code) } } := by
  rw [detect_lcc_fault (by rw [lcc]; exact fault), lcc]

theorem takeHanded_further (fault : (t.station i).lcc.lineState = .fault) {kind : FaultKind}
    (handed : kind ∈ (t.station i).handed) :
    ((takeHanded t i kind).station i).lcc = { (t.station i).lcc with
      fault := (t.station i).lcc.fault.map fun r => { r with further := r.further ||| (1 <<< kind.code) } } := by
  rw [takeHanded_of_handed handed (by simp [State.isFaultNow, fault])]
  exact detect_further fault (by rw [State.dropHanded, State.station_modHanded_same]) kind

/-- A detection taken in FAULT is a further fault (R30, R137). -/
theorem exec_stillDetects (fault : (t.station i).lcc.lineState = .fault) {e : Instr × FaultKind}
    (mem : e ∈ timedDetections i) (still : (t.station i).stillDetects e.2) :
    ∃ u, exec e.1 t = .next u ∧ (u.station i).lcc = { (t.station i).lcc with
      fault := (t.station i).lcc.fault.map fun r => { r with further := r.further ||| (1 <<< e.2.code) } } := by
  have either {due : Bool} {kind : FaultKind} (h : due = true ∨ kind ∈ (t.station i).handed) :
      ((if due then detect t i kind else takeHanded t i kind).station i).lcc = { (t.station i).lcc with
        fault := (t.station i).lcc.fault.map fun r => { r with further := r.further ||| (1 <<< kind.code) } } := by
    by_cases run : due = true
    · rw [if_pos run]
      exact detect_further fault rfl kind
    · rw [if_neg run]
      exact takeHanded_further fault (h.resolve_left run)
  simp only [timedDetections, List.mem_cons, List.not_mem_nil, or_false] at mem
  rcases mem with rfl | rfl | rfl | rfl | rfl | rfl | rfl | rfl | rfl
  · exact ⟨_, rfl, either still⟩
  · exact ⟨_, rfl, either still⟩
  · exact ⟨_, rfl, either still⟩
  · exact ⟨_, rfl, either still⟩
  · refine ⟨_, congrArg Host.Outcome.next (if_pos still), ?_⟩
    have expires : brakeSetExpires t i = t.timedOut i .brakeNotSet := rfl
    rw [expires, ((timedOut_drive t i .brakeNotSet).stations i).lcc]
    exact detect_further fault (by rw [timerMarked_station, StationState.marked_lcc]) _
  · refine ⟨_, congrArg Host.Outcome.next (if_pos still), ?_⟩
    exact detect_further fault (by rw [State.station_modLpu_same]) _
  · obtain ⟨ended, handed⟩ := still
    refine ⟨_, congrArg Host.Outcome.next (if_neg (by simp [ended])), ?_⟩
    rw [takeExhaustion, if_pos handed]
    exact takeHanded_further fault handed
  · obtain ⟨ended, handed, alone⟩ := still
    refine ⟨_, congrArg Host.Outcome.next (if_neg (by simp [ended])), ?_⟩
    rw [takeExhaustion, if_neg alone]
    exact takeHanded_further fault handed
  · obtain ⟨due, detected⟩ := still
    refine ⟨_, congrArg Host.Outcome.next (if_pos (by simp [State.sampleDue, State.inService, fault, due])), ?_⟩
    rw [loseStream_eq, if_pos detected]
    exact detect_further fault (by rw [streamLost_station]) _

/-- The station after the hard stop of a FAULT entry, up to its drive (R29, R125). -/
theorem faultStopped_becomes (s : State) (i : Station) (kind : FaultKind) :
    StationBecomes i s (faultStopped s i kind) ((s.station i).faulted kind s.berthTime (s.station i).handed) := by
  have recorded : StationBecomes i s (s.faultRecorded i kind) _ :=
    ((StationBecomes.refl i s).modLcc _).modMu (fun m => { m with correction := none }) fun _ _ => rfl
  exact ((recorded.modLcc fun l => { l with need := none }).drive (stopForFault_frame _ i)).modLpu Lpu.endedByFault

/-- The station after a FAULT entry, up to its drive and the further faults of its record (R29, R125, R137). -/
theorem enterFault_stands (s : State) (i : Station) (kind : FaultKind) :
    ∃ record, StationBecomes i s (enterFault s i kind)
      { (s.station i).faulted kind s.berthTime ((s.station i).handedAfter ((faultStopped s i kind).station i) kind) with
        lcc := { ((s.station i).faulted kind s.berthTime []).lcc with fault := record } } := by
  have entered := faultEntered_becomes s i kind
  rw [enterFault_eq]
  split
  · have further := entered.trans (addFurther_becomes (faultEntered s i kind) i .sensorLost)
    have lcc := entered.station.lcc
    generalize faultEntered s i kind = u at *
    refine ⟨(u.station i).lcc.fault.map fun r => { r with further := r.further ||| FaultKind.sensorLost.bit },
      further.of_same ⟨?_, entered.station.config, entered.station.lpu, entered.station.filters, entered.station.handed,
        entered.station.mu⟩⟩
    dsimp only
    rw [lcc]
    rfl
  · exact ⟨_, entered⟩

/-- A detection that is due beside another one is handed to the LCC by its FAULT entry, or still due after it (R137, log 29). -/
theorem handed_or_due {kind other : FaultKind} (distinct : other ≠ kind) (listed : other ∈ handedKinds)
    (due : (s.station i).detectionDue other = true) :
    ((faultStopped s i kind).station i).detectionDue other = true ∨ other ∈ ((enterFault s i kind).station i).handed := by
  obtain ⟨_, stands⟩ := enterFault_stands s i kind
  rw [stands.station.handed]
  by_cases after : ((faultStopped s i kind).station i).detectionDue other = true
  · exact .inl after
  · refine .inr (List.mem_filter.mpr ⟨listed, ?_⟩)
    simp [due, after, distinct]

/-- A drive's detection still stands after another one's FAULT entry (R137). -/
theorem drive_stillDetects {kind other : FaultKind} (distinct : other ≠ kind)
    (drive : other ∈ [FaultKind.driveNotReady, .brakeStuck, .stall, .overrun])
    (due : (s.station i).detectionDue other = true) : ((enterFault s i kind).station i).stillDetects other := by
  have listed : other ∈ handedKinds := by
    simp only [List.mem_cons, List.not_mem_nil, or_false] at drive
    rcases drive with rfl | rfl | rfl | rfl <;> simp [handedKinds]
  have stopped : ((faultStopped s i kind).station i).dhu = ((enterFault s i kind).station i).dhu := by
    rw [(enterFault_drives s i kind).2 i, faultStopped, State.station_modLpu_same]
    rfl
  have stands := handed_or_due distinct listed due
  simp only [List.mem_cons, List.not_mem_nil, or_false] at drive
  rcases drive with rfl | rfl | rfl | rfl <;>
    simpa only [StationState.stillDetects, StationState.detectionDue, stopped] using stands

/-- Exhausted attempts are handed, their sequence ended by the entry (R125, R137). -/
theorem exhaustion_handed {kind other : FaultKind} (distinct : other ≠ kind) (listed : other ∈ handedKinds)
    (due : (s.station i).detectionDue other = true)
    (reads : ∀ a : StationState, a.lpu.confirmDue = false → a.detectionDue other = false) :
    ((enterFault s i kind).station i).lpu.confirmDue = false ∧ other ∈ ((enterFault s i kind).station i).handed := by
  have ends (l : Lpu) : l.endedByFault.confirmDue = false := rfl
  obtain ⟨_, stands⟩ := enterFault_stands s i kind
  refine ⟨by rw [stands.station.lpu]; exact ends _, (handed_or_due distinct listed due).resolve_left ?_⟩
  rw [reads _ (by rw [(faultStopped_becomes s i kind).station.lpu]; exact ends _)]
  simp

/-- A stream about to be lost still is, as a further fault or handed (R52, R137). -/
theorem loss_stillDetects {kind : FaultKind} (distinct : .sensorLost ≠ kind)
    (due : (s.station i).detectionDue .sensorLost = true) : ((enterFault s i kind).station i).stillDetects .sensorLost := by
  obtain ⟨record, stands⟩ := enterFault_stands s i kind
  have stopped := faultStopped_becomes s i kind
  have loss : (s.station i).mu.lossDue = true := (Bool.and_eq_true_iff.mp due).1
  have lossDue {b : StationState} (mu : b.mu = { (s.station i).mu with
      correction := none, releaseMeasure := b.mu.releaseMeasure }) : b.mu.lossDue = true := by rw [mu]; exact loss
  have same : ((enterFault s i kind).station i).lostIsFault = ((faultStopped s i kind).station i).lostIsFault := by
    simp only [StationState.lostIsFault, StationState.latch, stands.station.lcc, stopped.station.lcc, stands.station.filters,
      stopped.station.filters]
    rfl
  have fault : ((enterFault s i kind).station i).lcc.lineState = .fault := (enterFault_lineState s i kind).1
  refine ⟨lossDue stands.station.mu, ?_⟩
  rcases handed_or_due distinct (by simp [handedKinds]) due with after | handed
  · have lost : ((enterFault s i kind).station i).lostIsFault = true := same.trans (Bool.and_eq_true_iff.mp after).2
    simp [StationState.lossDetected, lost]
  · simp [StationState.lossDetected, fault, handed]

/-- What a detection that the LCC or the latch makes reads lies beside the drive. -/
theorem StationState.stillDetects_of_drive {b : StationState} (same : a.SameButDrive b) {kind : FaultKind}
    (beside : kind ∈ [FaultKind.latchSensor, .latchNotClosed, .latchNotOpen, .sensorLost]) (still : a.stillDetects kind) :
    b.stillDetects kind := by
  have loss : b.mu.lossDue = a.mu.lossDue := by rw [same.mu]; rfl
  simp only [List.mem_cons, List.not_mem_nil, or_false] at beside
  rcases beside with rfl | rfl | rfl | rfl <;>
    simpa only [StationState.stillDetects, StationState.lossDetected, StationState.lostIsFault, StationState.latch, loss,
      same.lpu, same.handed, same.lcc, same.filters] using still

/-- A mark changes nothing of another sequence's exhaustion. -/
theorem StationState.marked_exhaustion (a : StationState) {kind : FaultKind} (closed : kind ≠ .latchNotClosed)
    (opened : kind ≠ .latchNotOpen) (sequence : Sequence) :
    (a.marked kind).lpu.exhaustionDue sequence = a.lpu.exhaustionDue sequence := by
  cases kind <;> first | rfl | exact absurd rfl closed | exact absurd rfl opened

/-- The mark of another timer leaves the conflict timer. -/
theorem StationState.marked_conflict (a : StationState) {kind : FaultKind} (other : kind ≠ .latchSensor) :
    (a.marked kind).lpu.conflictTimer = a.lpu.conflictTimer := by
  cases kind <;> first | rfl | exact absurd rfl other

theorem StationState.marked_handed (a : StationState) (kind : FaultKind) (unhanded : a.handed = []) :
    (a.marked kind).handed = [] := by
  cases kind <;> simp [StationState.marked, unhanded]

theorem exhaustionDue_of_exhaustsAt {l : Lpu} {sequence : Sequence} {elapsed limit : Nat} (out : limit ≤ elapsed)
    (spent : l.exhaustsAt sequence elapsed limit) : l.exhaustionDue sequence = true := by
  obtain ⟨same, confirmOpen, timer, attempts⟩ := spent
  simp [Lpu.exhaustionDue, Lpu.confirmDue, same, confirmOpen, timer, attempts, Timer.due, out]

variable {d e : Instr × FaultKind} {elapsed limit elapsed' limit' : Nat}

/-- Of two detections due together the second still stands after the first (R137, log 29). -/
theorem timedOut_stillDetects (serving : (s.station i).lcc.lineState ≠ .offline)
    (outside : (s.station i).lcc.lineState ≠ .fault) (unhanded : (s.station i).handed = []) {first second : FaultKind}
    (distinct : first ≠ second) (out : limit' ≤ elapsed') (due : (s.station i).timesOut first elapsed limit)
    (due' : (s.station i).timesOut second elapsed' limit') : ((s.timedOut i first).station i).stillDetects second := by
  have marked := timerMarked_station s i first
  have enters := timedDetect_enters (kind := first) serving outside
  have drive := (timedOut_drive s i first).stations i
  rw [enters] at drive
  have drives (other : first ≠ .brakeNotSet) : s.timedOut i first = enterFault (s.timerMarked i first) i first := by
    rw [State.timedOut, if_neg other, enters]
  have sameDhu (other : first ≠ .brakeNotSet) : ((s.timerMarked i first).station i).dhu = (s.station i).dhu := by
    rw [marked, StationState.marked_dhu _ _ other]
  obtain ⟨_, stands⟩ := enterFault_stands (s.timerMarked i first) i first
  cases second
  case driveNotReady =>
    obtain ⟨phase, timer⟩ := due'
    have other : first ≠ .brakeNotSet := by rintro rfl; simp [due.1] at phase
    rw [drives other]
    refine drive_stillDetects distinct.symm (by simp) ?_
    simp [StationState.detectionDue, Dhu.phaseDue, Dhu.phaseTimerDue, sameDhu other, phase, timer, out]
  case brakeStuck =>
    obtain ⟨phase, timer⟩ := due'
    have other : first ≠ .brakeNotSet := by rintro rfl; simp [due.1] at phase
    rw [drives other]
    refine drive_stillDetects distinct.symm (by simp) ?_
    simp [StationState.detectionDue, Dhu.phaseDue, Dhu.phaseTimerDue, sameDhu other, phase, timer, out]
  case stall =>
    obtain ⟨phase, timer⟩ := due'
    have other : first ≠ .brakeNotSet := by rintro rfl; simp [due.1] at phase
    rw [drives other]
    refine drive_stillDetects distinct.symm (by simp) ?_
    simp [StationState.detectionDue, Dhu.stallDue, Timer.due, sameDhu other, phase, timer, out]
  case overrun =>
    obtain ⟨phase, timer⟩ := due'
    have other : first ≠ .brakeNotSet := by rintro rfl; simp [due.1] at phase
    rw [drives other]
    refine drive_stillDetects distinct.symm (by simp) ?_
    simp [StationState.detectionDue, Dhu.phaseDue, Dhu.phaseTimerDue, sameDhu other, phase, timer, out]
  case brakeNotSet =>
    obtain ⟨phase, timer⟩ := due'
    obtain ⟨dhu, -⟩ := stopsFrom_station s i first
    rw [StationState.marked_dhu _ _ distinct] at dhu
    obtain ⟨stays, runs⟩ := stopForFault_setting (s := s.stopsFrom i first) (i := i) (by rw [dhu]; exact phase)
      (by rw [dhu, timer]; simp)
    have same := (enterFault_drives (s.timerMarked i first) i first).2 i
    rw [drives distinct]
    rw [dhu, timer] at runs
    rw [State.stopsFrom] at stays runs
    rw [StationState.stillDetects, same]
    simp [Dhu.phaseDue, Dhu.phaseTimerDue, stays, runs, out]
  case latchSensor =>
    have timer : (s.station i).lpu.conflictTimer = .running elapsed' limit' := due'
    refine StationState.stillDetects_of_drive drive (by simp) ?_
    have kept : ((s.timerMarked i first).station i).lpu.endedByFault.conflictTimer = .running elapsed' limit' := by
      rw [marked]
      exact (StationState.marked_conflict _ distinct).trans timer
    rw [StationState.stillDetects, stands.station.lpu]
    dsimp only [StationState.faulted]
    rw [kept]
    simp [ConflictTimer.due, out]
  case latchNotClosed =>
    have other : first ≠ .latchNotOpen := by
      rintro rfl
      have sequence := due.1
      simp [due'.1] at sequence
    refine StationState.stillDetects_of_drive drive (by simp) ?_
    refine exhaustion_handed distinct.symm (by simp [handedKinds]) ?_ fun b ended => ?_
    · rw [marked]
      exact (StationState.marked_exhaustion _ distinct other _).trans (exhaustionDue_of_exhaustsAt out due')
    · simp [StationState.detectionDue, Lpu.exhaustionDue, ended]
  case latchNotOpen =>
    have other : first ≠ .latchNotClosed := by
      rintro rfl
      have sequence := due.1
      simp [due'.1] at sequence
    have exhaustion := StationState.marked_exhaustion (s.station i) other distinct
    refine StationState.stillDetects_of_drive drive (by simp) ?_
    obtain ⟨ended, handed⟩ := exhaustion_handed (s := s.timerMarked i first) (i := i) distinct.symm (by simp [handedKinds])
      (by rw [marked]; exact (exhaustion _).trans (exhaustionDue_of_exhaustsAt out due'))
      (fun b ended => by simp [StationState.detectionDue, Lpu.exhaustionDue, ended])
    refine ⟨ended, handed, ?_⟩
    have unexhausted : ((s.station i).marked first).detectionDue .latchNotClosed = false :=
      (exhaustion _).trans (by simp [Lpu.exhaustionDue, due'.1])
    rw [stands.station.handed]
    simp [StationState.handedAfter, StationState.faulted, marked, StationState.marked_handed _ _ unhanded, unexhausted]
  case sensorLost =>
    obtain ⟨good, age, timeout, holds⟩ := due'
    refine StationState.stillDetects_of_drive drive (by simp) (loss_stillDetects distinct.symm ?_)
    have lost : (s.station i).lostIsFault = true := by
      have listed := holds.resolve_right fun fault => outside fault.1
      simp only [List.mem_cons, List.not_mem_nil, or_false] at listed
      rcases listed with h | h | h | h | h | h <;>
        simp [StationState.lostIsFault, LineState.lostIsFault, LineState.isTensioned, h]
    have reads : ((s.station i).marked first).lostIsFault = (s.station i).lostIsFault := by
      rw [StationState.lostIsFault, StationState.marked_lcc, StationState.marked_latch]
      rfl
    rw [marked, StationState.detectionDue, reads, lost, StationState.marked_stream _ _ distinct]
    simp [Mu.lossDue, good, age, timeout, out]
  all_goals exact due'.elim

/-- The kind of a detection stands in a record that it joined. -/
theorem getLsbD_bit (b : BitVec 14) (kind : FaultKind) : (b ||| kind.bit).getLsbD kind.code = true := by
  have own : kind.bit.getLsbD kind.code = true := by cases kind <;> rfl
  rw [BitVec.getLsbD_or, own, Bool.or_true]

/-- The record of a station that has entered FAULT (R139, R140). -/
theorem lccFaulted_record (a : StationState) (kind : FaultKind) (left : LineState) (berthTime : Count32) :
    ∃ record, (a.lccFaulted kind left berthTime).fault = some record ∧ (a.lcc.fault = none → record.first = kind) ∧
      (a.lcc.fault ≠ none → record.further.getLsbD kind.code = true) := by
  have made : (a.lcc.fault = none → (a.recordOf kind left berthTime).first = kind) ∧
      (a.lcc.fault ≠ none → (a.recordOf kind left berthTime).further.getLsbD kind.code = true) := by
    unfold StationState.recordOf
    split
    · next absent => exact ⟨fun _ => rfl, fun stands => absurd absent stands⟩
    · next r stands => exact ⟨fun absent => by simp [stands] at absent, fun _ => getLsbD_bit _ _⟩
  obtain ⟨first, further⟩ := made
  unfold StationState.lccFaulted StationState.lccLost StationState.recordLost
  split_ifs
  · exact ⟨_, rfl, first, fun stands => by rw [BitVec.getLsbD_or, further stands, Bool.true_or]⟩
  · exact ⟨_, rfl, first, further⟩
  · exact ⟨_, rfl, first, further⟩

end Second

/-- Settles O41: each timeout as its detection, the hard stop that it asks for, and a second detection beside it. -/
theorem timeoutsDetectFaults : Obligations.TimeoutsDetectFaults := by
  unfold Obligations.TimeoutsDetectFaults
  intro s i elapsed limit out serving
  refine ⟨fun d six good due => ?_, fun d mem other due outside waits asked => ?_, fun due waits holds state => ?_,
    fun d mem e mem' elapsed' limit' out' distinct due due' outside unhanded => ?_⟩
  · have mem : d ∈ timedDetections i := List.mem_of_mem_take six
    have stream : d.2 ≠ .sensorLost := by
      simp only [timedDetections, List.take_succ_cons, List.take_zero, List.mem_cons, List.not_mem_nil, or_false] at six
      rcases six with rfl | rfl | rfl | rfl | rfl | rfl <;> simp
    have marked := timerMarked_station s i d.2
    have lcc : ((s.timerMarked i d.2).station i).lcc = (s.station i).lcc := by rw [marked, StationState.marked_lcc]
    have drive := (timedOut_drive s i d.2).stations i
    refine ⟨_, exec_timedDetection out serving mem due, timedOut_moved serving d.2, fun outside => ?_, fun fault => ?_,
      fun latch => ?_⟩
    · have good' : ((s.timerMarked i d.2).station i).mu.lost = false := by
        rw [marked, StationState.marked_stream _ _ stream]
        exact good
      rw [drive.lcc, detect_lcc_good (by rw [lcc]; exact serving) (by rw [lcc]; exact outside) good', lcc]
      obtain ⟨tension, count⟩ := StationState.marked_measured (s.station i) d.2
      rw [marked]
      exact StationState.lccInFault_congr (by rw [StationState.marked_lcc]) tension count (StationState.marked_latch _ _) _ _ _
    · rw [drive.lcc]
      exact detect_further fault lcc d.2
    · have conflict : (s.timedOut i d.2).station i = (detect (s.timerMarked i d.2) i d.2).station i := by
        rw [State.timedOut, if_neg (by simp [latch])]
      have mark : ((s.timerMarked i d.2).station i).lpu.conflictTimer = .expired := by rw [marked, latch]; rfl
      rw [conflict]
      by_cases fault : (s.station i).lcc.lineState = .fault
      · rw [detect_fault _ _ _ (by rw [lcc]; exact fault), (addFurther_becomes _ i d.2).station.lpu]
        exact mark
      · obtain ⟨_, entered⟩ := detect_leaves (s := s.timerMarked i d.2) (i := i) (by rw [lcc]; exact serving)
          (by rw [lcc]; exact fault) d.2
        rw [entered.station.lpu]
        exact mark
  · exact ⟨_, exec_timedDetection out serving mem due, timedOut_stops serving outside other waits asked⟩
  · have mem : (Instr.brakeSetTimeout i, FaultKind.brakeNotSet) ∈ timedDetections i := by simp [timedDetections]
    obtain ⟨rest, freed⟩ := timedOut_brakeNotSet due.1 serving waits holds state
    refine ⟨_, exec_timedDetection out serving mem due, rest, freed, ?_, ?_, ?_⟩
    · simp [State.driveEnable, rest, Dhu.atRest]
    · simp [State.brakeRelease, rest, Dhu.atRest]
    · simp [State.demandOut, rest, Dhu.atRest]
  · have still := timedOut_stillDetects serving outside unhanded distinct out' due due'
    have marked := timerMarked_station s i d.2
    have lcc : ((s.timerMarked i d.2).station i).lcc = (s.station i).lcc := by rw [marked, StationState.marked_lcc]
    have entered : ((s.timedOut i d.2).station i).lcc = ((s.timerMarked i d.2).station i).lccFaulted d.2
        (s.station i).lcc.lineState s.berthTime := by
      rw [((timedOut_drive s i d.2).stations i).lcc,
        detect_lcc_outside (by rw [lcc]; exact serving) (by rw [lcc]; exact outside), lcc]
      rfl
    obtain ⟨record, stands, first, further⟩ := lccFaulted_record ((s.timerMarked i d.2).station i) d.2
      (s.station i).lcc.lineState s.berthTime
    rw [← entered] at stands
    have fault : ((s.timedOut i d.2).station i).lcc.lineState = .fault := by
      rw [entered]
      unfold StationState.lccFaulted
      split <;> rfl
    obtain ⟨u, runs, joined⟩ := exec_stillDetects fault mem' still
    rw [lcc] at first further
    refine ⟨_, u, { record with further := record.further ||| e.2.bit }, exec_timedDetection out serving mem due, runs, ?_, ?_,
      getLsbD_bit _ _, first, fun stood => ?_⟩
    · rw [joined]
      exact fault
    · rw [joined, stands]
      rfl
    · rw [BitVec.getLsbD_or, further stood, Bool.true_or]

end Sys2Proof.Machine

/-!
PROOF. A motion need presented by a station with its DHU at rest (O43; R84, R85, R87, R91): it joins the list, and is granted at
once where a slot is free, or waits behind its class where none is.
-/
namespace Sys2Proof.Machine

/-- What an occurrence counts is read from the counters alone (R196). -/
theorem occurrence_counters_congr {s t : State} (counters : t.counters = s.counters) (kind : CounterKind) (i : Station) :
    (t.occurrence kind i).counters = (s.occurrence kind i).counters := by
  refine Vector.ext fun n hn => ?_
  have same : (t.occurrence kind i).counters.get ⟨n, hn⟩ = (s.occurrence kind i).counters.get ⟨n, hn⟩ := by
    rw [State.occurrence_counter, State.occurrence_counter, counters]
  exact same

/-! ### A need that joins the list -/

section Joins

variable {s : State} {i : Station} {need : Need}

/-- The need of station `i` is presented and its entry has joined, before the arbiter acts (R3, R85). -/
def State.joined (s : State) (i : Station) (need : Need) : State :=
  joinList (s.modLcc i fun l => { l with need := some need }) i need.cls

theorem presentNeed_atRest (idle : (s.station i).dhu.phase = .idle) (need : Need) :
    presentNeed s i need = arbitrate (s.joined i need) := if_pos idle

theorem joined_station (s : State) (i : Station) (need : Need) : (s.joined i need).station i =
    { s.station i with lcc := { (s.station i).lcc with need := some need } } := by
  rw [State.joined, joinList, State.modDsa_station, State.station_modLcc_same]

theorem joined_station_ne {j : Station} (other : j ≠ i) : (s.joined i need).station j = s.station j := by
  rw [State.joined, joinList, State.modDsa_station, State.station_modLcc_ne _ _ other]

theorem joined_waiting (s : State) (i : Station) (need : Need) :
    (s.joined i need).dsa.waiting = insertEntry { station := i, cls := need.cls } s.dsa.waiting := rfl

/-- With a slot free and nobody waiting the entry is granted at once (R87, R101). -/
theorem joined_granted (nobody : s.dsa.waiting = []) (free : s.dsa.holders.length < s.dsa.slots)
    (rests : ¬s.runsAtGrant i) :
    ((arbitrate (s.joined i need)).station i).dhu = s.granted i (s.station i).dhu need ∧
    (arbitrate (s.joined i need)).dsa = { s.dsa with
      grantSeq := s.dsa.grantSeq + 1
      holders := s.dsa.holders ++
        [{ station := i, cls := need.cls, grant := s.dsa.grantSeq + 1, slice := .absent, stopKind := .none }]
      yields := lapseFor i s.dsa.yields } ∧
    (arbitrate (s.joined i need)).counters = (s.occurrence .slotGrant i).counters := by
  have alone : (s.joined i need).dsa.waiting = { station := i, cls := need.cls } :: [] := by
    rw [joined_waiting, nobody]
    rfl
  have presents : ((s.joined i need).station i).lcc.need = some need := by rw [joined_station]
  have station := joined_station s i need
  have still : ¬(s.joined i need).runsAtGrant i := by
    rintro ⟨zone, ready, brakeOpen⟩
    rw [station] at ready brakeOpen
    exact rests ⟨zone, ready, brakeOpen⟩
  have once : (s.joined i need).runsAtGrant i → ∀ h ∈ (s.joined i need).dsa.holders, h.station ≠ i :=
    fun runs => absurd runs still
  rw [arbitrate_grantsHead alone presents once free (.inl rfl) (by simp)]
  refine ⟨?_, ?_, ?_⟩
  · rw [grantHead_dhu alone presents, station]
    unfold State.granted
    rw [station]
    rfl
  · rw [grantHead_dsa alone presents once, State.newHolder, if_neg still, ← nobody]
    rfl
  · rw [grantHead_eq alone presents]
    exact occurrence_counters_congr (by rw [beginGrant_counters]; rfl) .slotGrant i

/-- With every slot taken, and no class-0 entry to preempt for, the entry waits (R84, R91). -/
theorem joined_waits (full : s.dsa.slots ≤ s.dsa.holders.length) (patient : ∀ e ∈ s.dsa.waiting, e.cls ≠ 0)
    (late : need.cls ≠ 0) (ordered : s.dsa.waiting.Pairwise fun a b => a.cls ≤ b.cls) :
    arbitrate (s.joined i need) = s.joined i need ∧
    (s.joined i need).dsa = { s.dsa with
      waiting := s.dsa.waiting.filter (fun e => decide (e.cls ≤ need.cls)) ++
        { station := i, cls := need.cls } :: s.dsa.waiting.filter (fun e => decide (need.cls < e.cls)) } := by
  have waiting := joined_waiting s i need
  rw [insertEntry_eq_filter ordered] at waiting
  have classes : ∀ e ∈ (s.joined i need).dsa.waiting, 1 ≤ e.cls := by
    intro e listed
    rw [waiting] at listed
    simp only [List.mem_append, List.mem_cons, List.mem_filter] at listed
    rcases listed with ⟨before, -⟩ | rfl | ⟨behind, -⟩
    · exact Nat.pos_of_ne_zero (patient e before)
    · exact Nat.pos_of_ne_zero late
    · exact Nat.pos_of_ne_zero (patient e behind)
  have ungranted : grantAll (s.joined i need) = s.joined i need := by
    exact grantRule_done (s := s.joined i need) (.inr full) _
  refine ⟨by rw [arbitrate, ungranted, preempt_done classes], ?_⟩
  rw [← waiting]
  rfl

end Joins

/-- An entry of REWINDING away from count 0, with a good stream, is its need presented (R26). -/
theorem enterRewinding_presents {s : State} {i : Station} {reason : Reason} (noNeed : (s.station i).lcc.need = none)
    (good : (s.station i).mu.lost = false) (away : (s.station i).filters.stowed.level = false)
    (count : (s.station i).mu.count ≠ 0) (idle : (s.station i).dhu.phase = .idle) :
    enterRewinding s i reason = arbitrate ((recordMove s i .rewinding reason).joined i
      { cls := 2, dir := .inward, speed := s.settings.rewindSpeed }) := by
  have begun := rewindBegun_becomes s i reason
  have presents : rewindBegun s i reason = arbitrate ((recordMove s i .rewinding reason).joined i
      { cls := 2, dir := .inward, speed := s.settings.rewindSpeed }) := by
    rw [rewindBegun, changeState_noNeed noNeed]
    exact presentNeed_atRest (by rw [recordMove_station]; exact idle) _
  have counted : ((rewindBegun s i reason).station i).mu.count = (s.station i).mu.count := by rw [begun.station.mu]; rfl
  have stream : ((rewindBegun s i reason).station i).mu.lost = false := by rw [begun.station.mu]; exact good
  rw [enterRewinding_eq, if_neg (ne_true_of_eq_false away), creepTest, if_neg (by simp [counted, count]),
    lostAtEntry_of_not_lost stream, presents]

/-- Settles O43: an accepted REWIND with the drum at rest is the joining of its need (`joined_granted`, `joined_waits`). -/
theorem needWaitsOrIsGranted : Obligations.NeedWaitsOrIsGranted := by
  unfold Obligations.NeedWaitsOrIsGranted
  intro s i tag n rest takes inside noNeed good away count idle
  have serving : (s.station i).lcc.lineState ≠ .offline := by rcases inside with h | h <;> simp [h]
  have serves (result : Applied) : inServiceOnly (s.serving rest (workingAt 0x0F tag .rewind i)) i result = result :=
    inServiceOnly_inService (s := s.serving rest _) serving result
  have executed := exec_ranged_applied (c := .rewind (n + 1)) (result := .accepted) rfl takes (decodeRange_plain .rewind i)
    (by simp) ((serves _).trans (applyRewind_accepted (s := s.serving rest (workingAt 0x0F tag .rewind i)) inside))
  rw [enterRewinding_presents (s := s.serving rest _) noNeed good away count idle] at executed
  refine ⟨_, executed, ?_⟩
  have station := recordMove_station (s.serving rest (workingAt 0x0F tag .rewind i)) i .rewinding .request
  have dsa := recordMove_dsa (s.serving rest (workingAt 0x0F tag .rewind i)) i .rewinding .request
  have zone : (recordMove (s.serving rest (workingAt 0x0F tag .rewind i)) i .rewinding .request).zoneHold = s.zoneHold := rfl
  have settings : (recordMove (s.serving rest (workingAt 0x0F tag .rewind i)) i .rewinding .request).settings = s.settings :=
    rfl
  have counters : (recordMove (s.serving rest (workingAt 0x0F tag .rewind i)) i .rewinding .request).counters = s.counters :=
    rfl
  rw [State.serving_station] at station
  have dsa' : (recordMove (s.serving rest (workingAt 0x0F tag .rewind i)) i .rewinding .request).dsa = s.dsa := dsa
  generalize recordMove (s.serving rest (workingAt 0x0F tag .rewind i)) i .rewinding .request = u at *
  have own : (s.serving rest (workingAt 0x0F tag .rewind i)).settings = s.settings := rfl
  have asked : ({ cls := 2, dir := .inward,
                  speed := (s.serving rest (workingAt 0x0F tag .rewind i)).settings.rewindSpeed } : Need) =
      { cls := 2, dir := .inward, speed := s.settings.rewindSpeed } := rfl
  rw [asked]
  refine ⟨fun nobody free => ?_, fun full patient ordered => ?_⟩
  · have granted := joined_granted (s := u) (i := i) (need := { cls := 2, dir := .inward, speed := s.settings.rewindSpeed })
      (by rw [dsa']; exact nobody) (by rw [dsa']; exact free)
    have levels : (u.station i).filters = (s.station i).filters := by rw [station]
    have dhu : (u.station i).dhu = (s.station i).dhu := by rw [station]
    have reads : u.granted i (s.station i).dhu { cls := 2, dir := .inward, speed := s.settings.rewindSpeed } =
        s.granted i (s.station i).dhu { cls := 2, dir := .inward, speed := s.settings.rewindSpeed } := by
      simp only [State.granted, zone, settings, levels]
    rw [State.replied_station]
    refine ⟨fun held => ?_, fun clear unready => ?_, fun rests => ?_⟩
    · rw [(granted fun runs => by simp [zone, held, State.runsAtGrant] at runs).1, dhu, reads, State.granted, if_pos held]
    · rw [(granted fun runs => by simp [levels, unready, State.runsAtGrant] at runs).1, dhu, reads, State.granted,
        if_neg (by simp [clear]), unready]
      rfl
    · have still : ¬u.runsAtGrant i := by
        rintro ⟨unheld, ready, -⟩
        rw [zone] at unheld
        rw [levels] at ready
        rcases rests with held | unready
        · simp [held] at unheld
        · simp [unready] at ready
      obtain ⟨-, list, counts⟩ := granted still
      rw [dsa'] at list
      exact ⟨list, counts.trans (occurrence_counters_congr counters .slotGrant i)⟩
  · obtain ⟨waits, list⟩ := joined_waits (s := u) (i := i)
      (need := { cls := 2, dir := .inward, speed := s.settings.rewindSpeed }) (by rw [dsa']; exact full)
      (by rw [dsa']; exact patient) (by simp) (by rw [dsa']; exact ordered)
    rw [State.replied_station, waits, joined_station, station, ← dsa']
    exact ⟨list, rfl⟩

end Sys2Proof.Machine

/-!
PROOF. Preemption (O44; R91, R93, R95): the yielder that the test chooses, its yield under way or completed at once, and the
class-0 need that a BAND_HIGH sample presents while every slot is taken.
-/
namespace Sys2Proof.Machine

/-! ### The yielder -/

/-- Of two candidates this one yields before that one: by class, then by grant (R91). -/
def Holder.yieldsBefore (h k : Holder) : Prop := k.cls < h.cls ∨ (k.cls = h.cls ∧ k.grant < h.grant)

theorem foldl_betterYielder_best {h : Holder} (l : List Holder) : ∀ {best : Option Holder},
    (∀ k ∈ l, k = h ∨ h.yieldsBefore k) → (∀ b, best = some b → b = h ∨ h.yieldsBefore b) →
    h ∈ l ∨ best = some h → l.foldl betterYielder best = some h := by
  induction l with
  | nil =>
    intro best _ _ found
    exact found.resolve_left (by simp)
  | cons k l ih =>
    intro best listed so found
    have first := listed k (by simp)
    refine ih (fun k' later => listed k' (List.mem_cons_of_mem k later)) (fun b better => ?_) ?_
    · unfold betterYielder at better
      split at better
      · exact Option.some.inj better ▸ first
      · next b' =>
        split_ifs at better
        · exact Option.some.inj better ▸ first
        · exact Option.some.inj better ▸ so b' rfl
    · have stays (b : Holder) (isBest : b = h) : betterYielder (some b) k = some h := by
        subst isBest
        rcases first with rfl | worse
        · simp [betterYielder]
        · refine if_neg ?_
          unfold Holder.yieldsBefore at worse
          omega
      have wins (old : ∀ b, best = some b → b = h ∨ h.yieldsBefore b) (isBest : k = h) : betterYielder best k = some h := by
        subst isBest
        cases best with
        | none => rfl
        | some b =>
          rcases old b rfl with rfl | worse
          · simp [betterYielder]
          · exact if_pos worse
      rcases found with inList | already
      · rcases List.mem_cons.mp inList with rfl | later
        · exact .inr (wins so rfl)
        · exact .inl later
      · rw [already]
        exact .inr (stays h rfl)

/-- The candidate before all others is the one chosen (R91). -/
theorem preemptChoice_best {d : Dsa} {e : WaitEntry} {rest : List WaitEntry} {h : Holder} (heads : d.waiting = e :: rest)
    (urgent : e.cls = 0) (full : d.holders.length = d.slots)
    (lapsed : ∀ q ∈ d.yields, q.forStation = e.station → q.lapsed = true) (holds : h ∈ d.holders) (late : 2 ≤ h.cls)
    (runs : h.stopKind = .none)
    (best : ∀ k ∈ d.holders, 2 ≤ k.cls → k.stopKind = .none → k = h ∨ h.yieldsBefore k) :
    preemptChoice d = some (h.station, e.station) := by
  have chosen : chooseYielder d.holders = some h := by
    refine foldl_betterYielder_best _ (fun k candidate => ?_) (by simp) (.inl ?_)
    · obtain ⟨listed, fit⟩ := List.mem_filter.mp candidate
      simp only [Holder.isCandidate, Bool.and_eq_true, decide_eq_true_eq] at fit
      exact best k listed fit.1 fit.2
    · exact List.mem_filter.mpr ⟨holds, by simp [Holder.isCandidate, late, runs]⟩
  have unpaired : (d.yields.any fun p => decide (p.forStation = e.station) && !p.lapsed) = false := by
    rw [List.any_eq_false]
    intro q listed
    by_cases own : q.forStation = e.station
    · simp [lapsed q listed own]
    · simp [own]
  simp [preemptChoice, heads, urgent, full, unpaired, chosen]

/-! ### The preemption test -/

section Preempt

variable {s : State} {j f : Station}

/-- The pair of the yielder and the station it yields for is in the list (R91). -/
def State.pairedFor (s : State) (j f : Station) : State :=
  s.modDsa fun d => { d with yields := d.yields ++ [{ yielder := j, forStation := f, lapsed := false }] }

theorem preempt_chosen (choice : preemptChoice s.dsa = some (j, f)) (n : Nat) :
    preempt (n + 1) s =
      if stopEnded (beginYield (s.pairedFor j f) j) j then
        preempt n (grantAll (rejoin (freeSlot (beginYield (s.pairedFor j f) j) j) j))
      else beginYield (s.pairedFor j f) j := by
  rw [preempt, choice]
  rfl

/-- With every slot taken the arbiter's work is the yield of the chosen station and what its completion brings (R88, R91). -/
theorem arbitrate_preempts (full : s.dsa.slots ≤ s.dsa.holders.length) (choice : preemptChoice s.dsa = some (j, f)) :
    arbitrate s =
      if stopEnded (beginYield (s.pairedFor j f) j) j then
        preempt 12 (grantAll (rejoin (freeSlot (beginYield (s.pairedFor j f) j) j) j))
      else beginYield (s.pairedFor j f) j := by
  have ungranted : grantAll s = s := by exact grantRule_done (.inr full) _
  rw [arbitrate, ungranted, preempt_chosen choice 12]

/-- A yield whose stop takes time (R93, Table 5-4). -/
theorem beginYield_underWay (asked : (s.station j).dhu.stopRequest = .none) (moving : (s.station j).dhu.phase ≠ .idle)
    (later : ¬(s.station j).stopsAtOnce) :
    beginYield s j = (s.yieldBegun j).setStation j ((s.station j).stopAsked s.settings) := by
  have stops : (normalStop (s.yieldBegun j) j).station j = (s.station j).stopAsked s.settings := by
    rw [normalStop_station] <;> simp only [State.yieldBegun_station, State.yieldBegun_settings]
    exacts [asked, moving, later]
  rw [beginYield_eq, normalStop_eq, stops]

/-- The preemption whose yielder's stop takes time (R91, R93). -/
theorem arbitrate_yields (full : s.dsa.slots ≤ s.dsa.holders.length) (choice : preemptChoice s.dsa = some (j, f))
    (asked : (s.station j).dhu.stopRequest = .none) (moving : (s.station j).dhu.phase ≠ .idle)
    (later : ¬(s.station j).stopsAtOnce) :
    (arbitrate s).dsa = { s.dsa with
      yields := s.dsa.yields ++ [{ yielder := j, forStation := f, lapsed := false }]
      holders := s.dsa.holders.map fun k =>
        if k.station = j then { k with stopKind := .yielding, slice := .absent } else k } ∧
    (arbitrate s).station j = (s.station j).stopAsked s.settings ∧
    (arbitrate s).counters = (s.occurrence .slotYield j).counters := by
  have station : (s.pairedFor j f).station j = s.station j := rfl
  have yields := beginYield_underWay (s := s.pairedFor j f) (j := j) (by rwa [station]) (by rwa [station]) (by rwa [station])
  rw [station] at yields
  have going : stopEnded (beginYield (s.pairedFor j f) j) j = false := by
    rw [yields]
    simp [stopEnded, StationState.stopAsked_phase _ moving]
  rw [arbitrate_preempts full choice, if_neg (ne_true_of_eq_false going), yields, State.setStation_dsa,
    State.setStation_counters, State.station_setStation_same, State.yieldBegun_eq]
  refine ⟨?_, rfl, occurrence_counters_congr (s := s) (t := s.pairedFor j f) rfl .slotYield j⟩
  refine congrArg (fun l => { (s.pairedFor j f).dsa with holders := l }) (List.map_congr_left fun k _ => ?_)
  rfl

/-- The grant to the head of the list is all that the grant rule does with one slot to give (R87). -/
theorem preempt_grantsHead {e : WaitEntry} {rest : List WaitEntry} {need : Need} (waiting : s.dsa.waiting = e :: rest)
    (presents : (s.station e.station).lcc.need = some need)
    (once : s.runsAtGrant e.station → ∀ h ∈ s.dsa.holders, h.station ≠ e.station)
    (last : s.dsa.holders.length + 1 = s.dsa.slots) (classes : ∀ k ∈ rest, 1 ≤ k.cls) (n : Nat) :
    preempt n (grantAll s) = arbitrate s := by
  have after := grantHead_dsa waiting presents once
  have full : (grantHead s).dsa.slots ≤ (grantHead s).dsa.holders.length := by
    rw [after]
    simp [last]
  have granted : grantAll s = grantHead s :=
    calc grantRule s.dsa.waiting.length s = grantRule (rest.length + 1) s := by rw [waiting, List.length_cons]
      _ = grantRule rest.length (grantHead s) := if_pos ⟨by omega, by simp [waiting]⟩
      _ = grantHead s := grantRule_done (.inr full) _
  have done (m : Nat) : preempt m (grantAll s) = grantHead s := by
    rw [granted]
    exact preempt_done (by rw [after]; exact classes) m
  rw [done, arbitrate, done]

/-- A completed stop of the arbiter's own asking is handled like every other (R88, R91). -/
theorem Vacated.preemptRejoined {i : Station} {v : State} (h : Vacated i s v) {need : Need}
    (presents : (s.station i).lcc.need = some need) {e : WaitEntry} {more : List WaitEntry}
    (waiting : s.dsa.waiting = e :: more) (n : Nat) :
    SlotRejoined (s.station i).dhu need i s (preempt n (grantAll (rejoin v i))) := by
  have rejoined := h.slotRejoined presents
  unfold SlotRejoined at rejoined ⊢
  rw [waiting] at rejoined ⊢
  cases other : (s.station e.station).lcc.need with
  | none => simp only [other]
  | some needed =>
    simp only [other] at rejoined ⊢
    intro elsewhere once ordered ahead urgent classes slots
    have joined : rejoin v i = v.withWaiting (insertEntry { station := i, cls := need.cls } (e :: more)) := by
      simp [rejoin, (h.need i).trans presents, joinList, h.dsa, waiting, State.withWaiting, State.modDsa]
    rw [insertEntry_eq_filter ordered] at joined
    have behind : (rejoin v i).dsa.waiting = e :: (more.filter (fun k => decide (k.cls ≤ need.cls)) ++
        { station := i, cls := need.cls } :: more.filter (fun k => decide (need.cls < k.cls))) := by
      rw [joined, State.withWaiting_dsa]
      simp [ahead]
    have holders : (rejoin v i).dsa.holders = s.dsa.holders.filter (fun k => decide (k.station ≠ i)) ∧
        (rejoin v i).dsa.slots = s.dsa.slots := by
      rw [joined, State.withWaiting_dsa, h.dsa]
      exact ⟨rfl, rfl⟩
    have station (k : Station) : (rejoin v i).station k = v.station k := by
      rw [joined]
      rfl
    have runs : (rejoin v i).runsAtGrant e.station → s.runsAtGrant e.station := by
      rw [joined]
      exact (h.runsAtGrant e.station).mp
    rw [preempt_grantsHead behind (by rw [station, h.need]; exact other) (fun now k listed => ?_)
      (by rw [holders.1, holders.2]; exact slots) (fun k listed => ?_) n]
    · exact rejoined elsewhere once ordered ahead urgent classes slots
    · rw [holders.1] at listed
      exact once (runs now) k (List.mem_filter.mp listed).1
    · simp only [List.mem_append, List.mem_cons, List.mem_filter] at listed
      rcases listed with ⟨before, -⟩ | rfl | ⟨after, -⟩
      · exact classes k before
      · exact urgent
      · exact classes k after

/-- A yield that completes at once vacates the slot, its pair with it (R88, R91). -/
theorem vacated_paired (asked : (s.station j).dhu.stopRequest = .none) (atOnce : (s.station j).stopsAtOnce) (f : Station) :
    Vacated j (s.occurrence .slotYield j) (freeSlot (beginYield (s.pairedFor j f) j) j) := by
  have vacated := vacated_beginYield (s := s.pairedFor j f) (i := j) asked atOnce
  have counted : (s.pairedFor j f).occurrence .slotYield j = (s.occurrence .slotYield j).pairedFor j f :=
    State.occurrence_modDsa s _ .slotYield j
  rw [counted] at vacated
  have paired : DriveOnly (s.occurrence .slotYield j) ((s.occurrence .slotYield j).pairedFor j f) :=
    DriveOnly.modDsa _ _ rfl
  have stations (k : Station) :
      ((s.occurrence .slotYield j).pairedFor j f).station k = (s.occurrence .slotYield j).station k := rfl
  generalize freeSlot (beginYield (s.pairedFor j f) j) j = v at *
  generalize s.occurrence .slotYield j = u at *
  refine ⟨?_, by rw [vacated.atRest, stations], fun k other => by rw [vacated.others k other, stations],
    paired.trans vacated.drives, vacated.counters⟩
  rw [vacated.dsa]
  simp [State.pairedFor]

/-- The preemption whose yielder's stop completes at once (R88, R91, R95). -/
theorem arbitrate_yieldsAtOnce (full : s.dsa.slots ≤ s.dsa.holders.length) (choice : preemptChoice s.dsa = some (j, f))
    (asked : (s.station j).dhu.stopRequest = .none) (atOnce : (s.station j).stopsAtOnce) {need : Need}
    (presents : (s.station j).lcc.need = some need) {e : WaitEntry} {more : List WaitEntry}
    (waiting : s.dsa.waiting = e :: more) :
    SlotRejoined (s.station j).dhu need j (s.occurrence .slotYield j) (arbitrate s) := by
  have vacated := vacated_paired asked atOnce f
  have held : (beginYield (s.pairedFor j f) j).dsa.holds j = true := by
    have holds := preemptChoice_holds choice
    rw [beginYield_eq, normalStop_dsa, State.yieldBegun_holds]
    exact holds
  have ended : stopEnded (beginYield (s.pairedFor j f) j) j = true := by
    have rest := vacated.atRest
    rw [freeSlot_station] at rest
    rw [stopEnded, held, rest]
    rfl
  have rejoined := vacated.preemptRejoined (need := need) (by rw [State.occurrence_station]; exact presents)
    (by rw [State.occurrence_dsa]; exact waiting) 12
  rw [State.occurrence_station] at rejoined
  rwa [arbitrate_preempts full choice, if_pos ended]

end Preempt

/-! ### A class-0 need at a BAND_HIGH sample -/

/-- In `z` the class-0 need of station `i` stands at the head of the list, what the arbiter reads else being as in `s`. -/
structure AsksFirst (i : Station) (need : Need) (s z : State) : Prop where
  dsa : z.dsa = { s.dsa with waiting := { station := i, cls := 0 } :: s.dsa.waiting }
  need : (z.station i).lcc.need = some need
  dhu : (z.station i).dhu = (s.station i).dhu
  filters : (z.station i).filters = (s.station i).filters
  others : ∀ j : Station, j ≠ i → z.station j = s.station j
  zoneHold : z.zoneHold = s.zoneHold
  settings : z.settings = s.settings
  counters : ∀ n : CounterNo, (s.counters.get n).kind ≠ .adjustStart → z.counters.get n = s.counters.get n

/-- An entry of ADJUSTING with the drum at rest, away from its limit, is its need presented (R6, R21). -/
theorem enterAdjusting_presents {s : State} {i : Station} {cls : Nat} {aim : ProfileNo} {reason : Reason}
    (noNeed : (s.station i).lcc.need = none) (idle : (s.station i).dhu.phase = .idle)
    (away : (s.station i).mu.count ≠ (s.station i).cmax) :
    enterAdjusting s i .outward cls aim reason =
      arbitrate ((((recordMove s i .adjusting reason).modLcc i fun l => { l with
          adjustDir := some .outward, adjustClass := some cls, aimProfile := some aim }).occurrence .adjustStart i).joined
        i { cls := cls, dir := .outward, speed := (s.profile aim).adjustSpeed }) := by
  have begun := adjustBegun_becomes s i .outward cls aim reason
  have inside : ((adjustBegun s i .outward cls aim reason).station i).atLimit = false := by
    rw [atLimit_of_same begun.station]
    simpa [StationState.adjusting, StationState.moved, StationState.atLimit, Lcc.moved, StationState.cmax] using away
  rw [enterAdjusting_eq, limitTest_of_not_atLimit inside, adjustBegun, changeState_noNeed noNeed]
  refine presentNeed_atRest ?_ _
  rw [State.occurrence_station, State.station_modLcc_same, recordMove_station]
  exact idle

/-- An entry of class 0 joins before entries that have all a higher class (R84). -/
theorem insertEntry_first {e : WaitEntry} {l : List WaitEntry} (urgent : e.cls = 0) (patient : ∀ k ∈ l, k.cls ≠ 0) :
    insertEntry e l = e :: l := by
  cases l with
  | nil => rfl
  | cons k l => exact if_pos (by have := patient k (by simp); omega)

section BandHigh

variable {s v z : State} {i : Station} {x : Nat} {p : ProfileNo}

/-- A class-0 need joins at the head of a list without a class-0 entry (R84, R85). -/
theorem joined_asksFirst {u : State} {need : Need} (urgent : need.cls = 0) (dsa : u.dsa = s.dsa)
    (dhu : (u.station i).dhu = (s.station i).dhu) (filters : (u.station i).filters = (s.station i).filters)
    (others : ∀ j : Station, j ≠ i → u.station j = s.station j) (zoneHold : u.zoneHold = s.zoneHold)
    (settings : u.settings = s.settings)
    (counters : ∀ n : CounterNo, (s.counters.get n).kind ≠ .adjustStart → u.counters.get n = s.counters.get n)
    (patient : ∀ k ∈ s.dsa.waiting, k.cls ≠ 0) : AsksFirst i need s (u.joined i need) where
  dsa := by
    have list := joined_waiting u i need
    rw [dsa, insertEntry_first urgent patient, urgent] at list
    rw [← list, ← dsa]
    rfl
  need := by rw [joined_station]
  dhu := by rw [joined_station]; exact dhu
  filters := by rw [joined_station]; exact filters
  others j other := (joined_station_ne other).trans (others j other)
  zoneHold := zoneHold
  settings := settings
  counters := counters

/-- A sample above the band, with no overload event at it, makes a class-0 need join (R67, R85). -/
theorem sample_asksFirst (sampled : SampleAt i s v x (s.station i).lcc) (counters : v.counters = s.counters)
    (noNeed : (s.station i).lcc.need = none) (idle : (s.station i).dhu.phase = .idle)
    (away : (s.station i).mu.count ≠ (s.station i).cmax) (below : s.doseGrown i p x < s.doseLimitFor i p)
    (patient : ∀ k ∈ s.dsa.waiting, k.cls ≠ 0) :
    ∃ z, AsksFirst i { cls := 0, dir := .outward, speed := (s.profile p).adjustSpeed } s z ∧
      enterAdjusting (doseWork v i p) i .outward 0 p .bandHigh = arbitrate z := by
  have dosed : SampleAt i s (s.dosed v i p x) x { (s.station i).lcc with dose := s.doseGrown i p x } :=
    sampled.modLcc fun l => { l with dose := s.doseGrown i p x }
  have counted : (s.dosed v i p x).counters = s.counters := counters
  rw [doseWork_eq sampled, if_neg (by omega)]
  generalize s.dosed v i p x = w at *
  have presents := enterAdjusting_presents (s := w) (i := i) (cls := 0) (aim := p) (reason := .bandHigh)
    (by rw [dosed.lcc]; exact noNeed) (by rw [dosed.dhu]; exact idle) (by rw [dosed.count, dosed.cmax]; exact away)
  rw [dosed.profile] at presents
  have zone : (recordMove w i .adjusting .bandHigh).zoneHold = s.zoneHold := congrArg Filter.level dosed.berth.zoneFilter
  have settings : (recordMove w i .adjusting .bandHigh).settings = s.settings := dosed.settings
  have before : (recordMove w i .adjusting .bandHigh).counters = s.counters := counted
  have station := recordMove_station w i .adjusting .bandHigh
  have others (j : Station) (other : j ≠ i) : (recordMove w i .adjusting .bandHigh).station j = s.station j := by
    rw [recordMove_station_ne _ _ _ _ other, dosed.others j other]
  have dsa : (recordMove w i .adjusting .bandHigh).dsa = s.dsa := by rw [recordMove_dsa, dosed.dsa]
  generalize recordMove w i .adjusting .bandHigh = u at *
  refine ⟨_, joined_asksFirst rfl ?_ ?_ ?_ (fun j other => ?_) ?_ ?_ (fun n kind => ?_) patient, presents⟩
  · rw [State.occurrence_dsa, State.modLcc_dsa, dsa]
  · rw [State.occurrence_station, State.station_modLcc_same, station, ← dosed.dhu]
  · rw [State.occurrence_station, State.station_modLcc_same, station, ← dosed.filters]
  · rw [State.occurrence_station, State.station_modLcc_ne _ _ other, others j other]
  · rw [State.occurrence_zoneHold, ← zone]
    rfl
  · rw [State.occurrence_settings, ← settings]
    rfl
  · rw [State.occurrence_counter, State.modLcc_counters, before, if_neg]
    simp [Counter.takes, kind]

theorem occurrence_kind (s : State) (kind : CounterKind) (j : Station) (n : CounterNo) :
    ((s.occurrence kind j).counters.get n).kind = (s.counters.get n).kind := by
  rw [State.occurrence_counter]
  split <;> rfl

/-- What an arbiter has counted is read from the counters of grants and yields, and no sample changes it (R98, R196). -/
theorem GrantCounted.of_kinds {j : Station} {r t u : State} (h : GrantCounted j s t)
    (before : ∀ n, (r.counters.get n).kind = .slotGrant ∨ (r.counters.get n).kind = .slotYield →
      s.counters.get n = r.counters.get n)
    (after : ∀ n, (t.counters.get n).kind ≠ .tensionSample → u.counters.get n = t.counters.get n) : GrantCounted j r u := by
  refine fun n => ⟨fun grants => ?_, fun yields => ?_⟩
  · have same := before n (.inl grants)
    have counts := (h n).1 (by rw [same]; exact grants)
    have kept : (r.occurrence .slotGrant j).counters.get n = (s.occurrence .slotGrant j).counters.get n := by
      rw [State.occurrence_counter, State.occurrence_counter, same]
    rw [kept, ← counts]
    exact after n (by rw [counts, occurrence_kind, same, grants]; simp)
  · have same := before n (.inr yields)
    have counts := (h n).2 (by rw [same]; exact yields)
    rw [← same, ← counts]
    exact after n (by rw [counts, same, yields]; simp)

/-- The rejoining of the yielder, read from the state that the statement names (R98). -/
theorem AsksFirst.rejoined {need needed : Need} {j : Station} {d : Dhu} {t : State} (asks : AsksFirst i need s z)
    (rejoined : SlotRejoined d needed j (z.occurrence .slotYield j) t) (x : Nat) :
    SlotRejoined d needed j ((State.modLcc { s with
      dsa := { s.dsa with waiting := { station := i, cls := 0 } :: s.dsa.waiting } } i
        (fun l => { l with need := some need })).occurrence .slotYield j) (t.sampleOccurrence i x) := by
  generalize made : State.modLcc { s with
    dsa := { s.dsa with waiting := { station := i, cls := 0 } :: s.dsa.waiting } } i
      (fun l => { l with need := some need }) = asked
  have dsa : z.dsa = asked.dsa := by rw [asks.dsa, ← made]; rfl
  have counters : asked.counters = s.counters := by rw [← made]; rfl
  have zoneHold : z.zoneHold = asked.zoneHold := by rw [asks.zoneHold, ← made]; rfl
  have settings : z.settings = asked.settings := by rw [asks.settings, ← made]; rfl
  have stations (k : Station) : (z.station k).lcc.need = (asked.station k).lcc.need ∧
      (z.station k).dhu = (asked.station k).dhu ∧ (z.station k).filters = (asked.station k).filters := by
    rw [← made]
    by_cases own : k = i
    · subst own
      rw [State.station_modLcc_same, asks.need, asks.dhu, asks.filters]
      exact ⟨rfl, rfl, rfl⟩
    · rw [State.station_modLcc_ne _ _ own, asks.others k own]
      exact ⟨rfl, rfl, rfl⟩
  have stands (n : CounterNo) (kind : (asked.counters.get n).kind = .slotGrant ∨ (asked.counters.get n).kind = .slotYield) :
      z.counters.get n = asked.counters.get n := by
    rw [counters] at kind ⊢
    exact asks.counters n (by rcases kind with h | h <;> simp [h])
  refine rejoined.of_alike (by rw [State.occurrence_dsa, State.occurrence_dsa, dsa])
    (by rw [State.occurrence_zoneHold, State.occurrence_zoneHold, zoneHold])
    (by rw [State.occurrence_settings, State.occurrence_settings, settings])
    (fun k => by rw [State.occurrence_station, State.occurrence_station]; exact ⟨(stations k).1, (stations k).2.2⟩)
    (fun e _ => by rw [State.occurrence_station, State.occurrence_station]; exact (stations e.station).2.1)
    ⟨sampleOccurrence_dsa t i x, fun k => by rw [sampleOccurrence_station]⟩
    fun k counts => counts.of_kinds (fun n kind => ?_) fun n kind => ?_
  · rw [occurrence_kind] at kind
    rw [State.occurrence_counter, State.occurrence_counter, stands n kind]
  · rw [State.sampleOccurrence_counter]
    exact if_neg (by simp [Counter.takes, kind])

end BandHigh

/-- Settles O44: the yielder chosen by `preemptChoice_best`, its stop under way or completed at once, for an entry that heads
the list or that a BAND_HIGH sample makes join. -/
theorem preemptionChoosesYielder : Obligations.PreemptionChoosesYielder := by
  unfold Obligations.PreemptionChoosesYielder
  intro s e rest h i c p status high low full holds late runs best moving asked
  refine ⟨fun heads urgent lapsed => ?_, fun state noNeed idle hc effective held away ok above below patient lapsed => ?_⟩
  · have choice := preemptChoice_best heads urgent full lapsed holds late runs best
    exact ⟨fun later => arbitrate_yields (by omega) choice asked moving later,
      fun atOnce need presents => arbitrate_yieldsAtOnce (by omega) choice asked atOnce presents heads⟩
  · obtain ⟨v, sampled, counters, executed⟩ := exec_sample (high := high) (low := low) (by simp [state]) hc held ok
    have dosed := doseWork_locked sampled hc (.inl below)
    obtain ⟨z, asks, presents⟩ := sample_asksFirst sampled counters noNeed idle away below patient
    have regulates : lccSample v i = arbitrate z := by
      rw [lccSample_locked sampled hc effective (by simp [StationState.tensioned, state, LineState.isTensioned]) (.inl below),
        stateTest, dosed.lcc, lccDosed_lineState, state]
      exact (regulateHolding_cases dosed p).trans ((if_pos above).trans presents)
    rw [regulates] at executed
    have elsewhere : h.station ≠ i := by
      rintro own
      exact moving (by rw [own]; exact idle)
    have station := asks.others h.station elsewhere
    have list : z.dsa.waiting = { station := i, cls := 0 } :: s.dsa.waiting := by rw [asks.dsa]
    have choice : preemptChoice z.dsa = some (h.station, i) := by
      rw [asks.dsa]
      exact preemptChoice_best (e := { station := i, cls := 0 }) rfl rfl full lapsed holds late runs best
    have full' : z.dsa.slots ≤ z.dsa.holders.length := by
      rw [asks.dsa]
      exact full.ge
    rw [← station] at moving asked
    refine ⟨_, executed, ?_, fun later => ?_, fun atOnce need asking needs made => ?_⟩
    · rw [sampleOccurrence_station, ((DriveOnly.arbitrate z).stations _).lcc, station]
    · rw [← station] at later
      obtain ⟨dsa, drive, -⟩ := arbitrate_yields full' choice asked moving later
      rw [sampleOccurrence_station, sampleOccurrence_dsa, dsa, drive, asks.dsa, station, asks.settings]
      exact ⟨rfl, rfl⟩
    · rw [← station] at atOnce needs
      have rejoined := arbitrate_yieldsAtOnce full' choice asked atOnce needs list
      rw [station] at rejoined
      rw [made]
      exact asks.rejoined rejoined _

end Sys2Proof.Machine

/-!
PROOF. The discrete inputs (O45; R133 to R135): the frame of a sensor's filter that passes, and a fall of ZONE_HOLD station by
station (R89, R113).
-/
namespace Sys2Proof.Machine

/-! ### A sensor's filter -/

/-- From `s` to `t` the drive, the LCC and the LPU have worked at station `i`, its filters as they were. -/
structure FiltersStay (i : Station) (s t : State) : Prop where
  beside : KeptBeside i s t
  link : LinkKept s t
  filters : (t.station i).filters = (s.station i).filters

section Sensors

variable {s t u : State} {i : Station}

theorem StationOps.filtersStay (h : StationOps i s t) : FiltersStay i s t := ⟨h.keeps.beside, h.keeps.link, h.keeps.filters⟩

theorem FiltersStay.trans (h : FiltersStay i s t) (k : FiltersStay i t u) : FiltersStay i s u :=
  ⟨h.beside.trans k.beside, h.link.trans k.link, k.filters.trans h.filters⟩

theorem DriveOnly.filtersStay (h : DriveOnly s t) (i : Station) : FiltersStay i s t :=
  ⟨⟨fun j _ => h.stations j, h.berth⟩, h.link, (h.stations i).filters⟩

theorem FiltersStay.refl (i : Station) (s : State) : FiltersStay i s s := (DriveOnly.refl s).filtersStay i

theorem FiltersStay.ite {p : Prop} [Decidable p] (h : FiltersStay i s t) (k : FiltersStay i s u) :
    FiltersStay i s (if p then t else u) := by
  split
  · exact h
  · exact k

theorem measureRelease_stays (s : State) (i : Station) : FiltersStay i s (measureRelease s i) := by
  unfold measureRelease
  split
  · exact .ite (StationOps.modMu s i _).filtersStay (.refl i s)
  · exact .refl i s

/-- What a sensor's changed level brings about stays at its station (R135, Table 6-8). -/
theorem levelMoved_stays (s : State) (i : Station) (which : Sensor) (level : Bool) (old : Station → LatchPosition) :
    FiltersStay i s (levelMoved s (.sensor i which) level old) := by
  have latch : FiltersStay i s (latchSensorMoved s i (old i)) :=
    .ite (StationWork.latchMoved (c := s.ceilingNow) s i _).ops.filtersStay (.refl i s)
  have detects : FiltersStay i s (detect s i .driveNotReady) :=
    (StationWork.detect (c := s.ceilingNow) s i _).ops.filtersStay
  cases which
  case latchClosed => exact latch
  case latchOpen => exact latch
  case headSeated =>
    cases level
    · exact (StationWork.headUnseats (c := s.ceilingNow) s i).ops.filtersStay
    · exact (StationWork.headSeats (c := s.ceilingNow) s i).ops.filtersStay
  case stowed =>
    cases level
    · exact .refl i s
    · exact (StationWork.stowedRises (c := s.ceilingNow) s i).ops.filtersStay
  case brakeOpen =>
    cases level
    · exact .ite (((DriveOnly.endSetting s i).trans (DriveOnly.settleStop _ i)).filtersStay i) (.refl i s)
    · exact .ite ((measureRelease_stays s i).trans ((DriveOnly.enterRunning _ i).filtersStay i)) (measureRelease_stays s i)
  case driveReady =>
    cases level
    · show FiltersStay i s (driveFalls s i)
      unfold driveFalls
      split
      case h_4 => exact .refl i s
      all_goals exact detects
    · exact .ite ((DriveOnly.enterBrakeWait s i).filtersStay i) (.refl i s)

/-- A sensor's filter whose pending level has held passes, and no other filter moves (R133, R135). -/
theorem sensor_passes {which : Sensor} {f : Filter} {p : PendingLevel} (pending : f.held = some p) (held : p.width ≤ p.age)
    (found : (s.station i).filters.get which = f) :
    ∃ t, exec (.filterWidthElapsed (.sensor i which)) s = .next t ∧ BerthKept s t ∧ LinkKept s t ∧
      (t.station i).filters = (s.station i).filters.set which { level := !f.level, held := none } ∧
      ∀ j : Station, j ≠ i → (s.station j).SameButDrive (t.station j) := by
  have whole : f = { level := f.level, held := some p } := by rw [← pending]
  have executed := exec_filterWidthElapsed (found.trans whole) held
  have passed := passed_becomes s i which (!f.level)
  have stays := levelMoved_stays (s.passed i which !f.level) i which (!f.level) fun j => (s.station j).latch
  refine ⟨_, executed, passed.berth.trans stays.beside.berth, passed.link.trans stays.link, ?_,
    fun j other => (passed.others j other).trans (stays.beside.others j other)⟩
  rw [stays.filters, passed_station]

/-! ### A raw edge -/

theorem rawEdge_eq (f : Filter) (level : Bool) (width : Nat) : f.rawEdge level width = f.takesEdge level width := by
  unfold Filter.rawEdge Filter.takesEdge
  split
  · rfl
  · obtain ⟨filtered, held⟩ := f
    cases held <;> rfl

theorem exec_rawInputEdge_sensor (s : State) (i : Station) (which : Sensor) (level : Bool) :
    exec (.rawInputEdge (.sensor i which) level) s = .next (s.modFilters i fun g => g.set which
      ((g.get which).takesEdge level s.settings.filterWidth)) := by
  have edge : exec (.rawInputEdge (.sensor i which) level) s = .next (s.modFilters i fun g => g.set which
      (((s.station i).filters.get which).rawEdge level s.settings.filterWidth)) := rfl
  rw [edge, rawEdge_eq]
  rfl

theorem exec_rawInputEdge_zoneHold (s : State) (level : Bool) :
    exec (.rawInputEdge .zoneHold level) s =
      .next { s with zoneFilter := s.zoneFilter.takesEdge level s.settings.filterWidth } := by
  rw [← rawEdge_eq]
  rfl

end Sensors

/-! ### A fall of ZONE_HOLD -/

section Falls

variable {s : State} {i j : Station}

/-- The handover of this DHU runs at once as ZONE_HOLD falls (R101, R102, R113). -/
def StationState.runsAfterZone (a : StationState) : Bool :=
  decide (a.dhu.phase = .held) && a.filters.driveReady.level && a.filters.brakeOpen.level

theorem zoneResume_dsa (s : State) (j : Station) : (zoneResume s j).dsa =
    if (s.station j).runsAfterZone then s.dsa.startsSlice j s.settings.sliceTime else s.dsa := by
  by_cases held : (s.station j).dhu.phase = .held
  · cases ready : (s.station j).filters.driveReady.level <;>
      simp [zoneResume, held, resumeHandover, ready, StationState.runsAfterZone, enterBrakeWait_dsa, enterDriveWait_dsa]
  · simp [zoneResume, held, StationState.runsAfterZone]

theorem zoneResume_settings (s : State) (j : Station) : (zoneResume s j).settings = s.settings :=
  congrArg BerthSettings.config (DriveOnly.zoneResume s j).berth.berth

/-- The arbiter after the handovers of these stations have begun again (R89, R113). -/
def State.resumedAt (s : State) (l : List Station) : Dsa :=
  { s.dsa with holders := s.dsa.holders.map fun h =>
      if h.station ∈ l ∧ (s.station h.station).runsAfterZone = true then h.startSlice s.settings.sliceTime else h }

theorem foldl_zoneResume (l : List Station) : ∀ s : State, l.Nodup →
    (l.foldl zoneResume s).dsa = s.resumedAt l ∧
    ∀ j : Station, (l.foldl zoneResume s).station j =
      if j ∈ l then (s.station j).zoneResumed s.settings else s.station j := by
  induction l with
  | nil => exact fun s _ => ⟨by simp [State.resumedAt], by simp⟩
  | cons i l ih =>
    intro s distinct
    obtain ⟨new, distinct⟩ := List.nodup_cons.mp distinct
    obtain ⟨dsa, stations⟩ := ih (zoneResume s i) distinct
    have others (k : Station) (other : k ≠ i) : (zoneResume s i).station k = s.station k := (DhuAct.zoneResume s i).others k other
    rw [List.foldl_cons, dsa]
    refine ⟨?_, fun j => ?_⟩
    · have turn (h : Holder) : (if h.station ∈ l ∧ ((zoneResume s i).station h.station).runsAfterZone = true then
            h.startSlice s.settings.sliceTime else h) =
          if h.station ∈ l ∧ (s.station h.station).runsAfterZone = true then h.startSlice s.settings.sliceTime else h := by
        by_cases later : h.station ∈ l
        · rw [others _ fun own => new (own ▸ later)]
        · simp [later]
      simp only [State.resumedAt, zoneResume_settings, turn, zoneResume_dsa]
      split
      · next runs =>
        simp only [Dsa.startsSlice, List.map_map]
        refine congrArg (fun hs => { s.dsa with holders := hs }) (List.map_congr_left fun h _ => ?_)
        by_cases own : h.station = i
        · simp [own, Holder.startSlice_station, new, runs]
        · simp [own]
      · next rests =>
        refine congrArg (fun hs => { s.dsa with holders := hs }) (List.map_congr_left fun h _ => ?_)
        by_cases own : h.station = i
        · simp [own, new, rests]
        · simp [own]
    · rw [stations j, zoneResume_settings]
      by_cases own : j = i
      · subst own
        simp [new, zoneResume_station]
      · simp [own, others j own]

/-- A slice timer's resumption, in the words of the statement (R89). -/
theorem resume_afterZone (x : SliceTimer) : x.resume = x.afterZone := by cases x <;> rfl

theorem startSlice_resumed (h : Holder) (sliceTime : Nat) :
    ({ h with slice := h.slice.resume } : Holder).startSlice sliceTime =
      { h with slice := if h.slice = .absent ∧ h.stopKind = .none then .running sliceTime else h.slice.afterZone } := by
  unfold Holder.startSlice
  cases slice : h.slice <;> simp [SliceTimer.resume, SliceTimer.afterZone]
  split <;> rfl

/-- The part as ZONE_HOLD has fallen, before any handover begins (R89, R184). -/
def State.zoneLifted (s : State) : State := ((s.zoneSet false).mapSlices SliceTimer.resume).makePending .zone

/-- A fall of ZONE_HOLD, in the words of the statement (R89, R113). -/
theorem zoneFalls_resumes (s : State) :
    (∀ j : Station, (zoneFalls (s.zoneSet false)).station j = (s.station j).zoneResumed s.settings) ∧
    (zoneFalls (s.zoneSet false)).dsa = { s.dsa with holders := s.dsa.holders.map fun h => { h with
      slice := if h.slice = .absent ∧ h.stopKind = .none ∧ (s.station h.station).dhu.phase = .held ∧
          (s.station h.station).filters.driveReady.level = true ∧
          (s.station h.station).filters.brakeOpen.level = true then .running s.settings.sliceTime
        else h.slice.afterZone } } := by
  obtain ⟨dsa, stations⟩ := foldl_zoneResume allStations s.zoneLifted (by decide)
  have falls : zoneFalls (s.zoneSet false) = allStations.foldl zoneResume s.zoneLifted := rfl
  have station (j : Station) : s.zoneLifted.station j = s.station j := rfl
  rw [falls, dsa]
  refine ⟨fun j => by rw [stations, if_pos (mem_allStations j), station]; rfl, ?_⟩
  have slices : s.zoneLifted.dsa = { s.dsa with holders := s.dsa.holders.map fun h => { h with slice := h.slice.resume } } :=
    rfl
  have settings : s.zoneLifted.settings = s.settings := rfl
  rw [State.resumedAt, slices, settings]
  simp only [List.map_map]
  refine congrArg (fun hs => { s.dsa with holders := hs }) (List.map_congr_left fun h _ => ?_)
  simp only [Function.comp_apply, station]
  by_cases runs : (s.station h.station).runsAfterZone = true
  · rw [if_pos ⟨mem_allStations _, runs⟩, startSlice_resumed]
    simp only [StationState.runsAfterZone, Bool.and_eq_true, decide_eq_true_eq] at runs
    obtain ⟨⟨held, ready⟩, brakeOpen⟩ := runs
    simp [held, ready, brakeOpen]
  · rw [if_neg fun both => runs both.2, resume_afterZone, if_neg]
    rintro ⟨-, -, held, ready, brakeOpen⟩
    exact runs (by simp [StationState.runsAfterZone, held, ready, brakeOpen])

theorem handsOver_notHeld (d : Dhu) (ready brakeOpen : Bool) (c : BerthConfig) :
    (d.handsOver ready brakeOpen c).phase ≠ .held := by
  unfold Dhu.handsOver
  split <;> simp

theorem zoneResumed_notHeld (a : StationState) (c : BerthConfig) : (a.zoneResumed c).dhu.phase ≠ .held := by
  unfold StationState.zoneResumed
  split
  · exact handsOver_notHeld _ _ _ _
  · next other => exact other

end Falls

end Sys2Proof.Machine

/-!
PROOF. A rise of ZONE_HOLD station by station (O45; R88, R89, R95, R108, R112): a turn by which no stop completes leaves its
station in SETTING or HELD and the arbiter as it was, and the one turn by which a stop completes frees the slot.
-/
namespace Sys2Proof.Machine

/-! ### A turn by which no stop completes -/

section Held

variable {s : State} {i j : Station}

/-- The turn of station `j` at a rise of ZONE_HOLD completes no stop: none by the zone, and none that is at rest already. -/
def State.staysHolding (s : State) (j : Station) : Prop :=
  ¬(s.station j).endsByZone ∧ (s.dsa.holds j = true → (s.station j).dhu.phase ≠ .idle)

theorem zoneHeld_lcc (a : StationState) (c : BerthConfig) : (a.zoneHeld c).lcc = a.lcc := by
  unfold StationState.zoneHeld
  split <;> rfl

theorem zoneHeld_filters (a : StationState) (c : BerthConfig) : (a.zoneHeld c).filters = a.filters := by
  unfold StationState.zoneHeld
  split <;> rfl

theorem zoneHeld_inactive {a : StationState} (still : a.dhu.phase.isActive = false) (c : BerthConfig) : a.zoneHeld c = a :=
  if_neg (ne_true_of_eq_false still)

theorem zoneHeld_idle (a : StationState) (c : BerthConfig) : (a.zoneHeld c).dhu.phase = .idle ↔ a.dhu.phase = .idle := by
  unfold StationState.zoneHeld
  split
  · next active =>
    have moving : a.dhu.phase ≠ .idle := by
      rintro idle
      simp [idle, DrivePhase.isActive] at active
    refine iff_of_false ?_ moving
    dsimp only
    split <;> simp
  · exact Iff.rfl

/-- SETTING entered under zone hold, no stop asked for, with its brake set already is HELD (R108, R112). -/
theorem enterSetting_zoneHeld (zone : s.zoneHold = true) (active : (s.station j).dhu.phase.isActive = true)
    (goes : ¬(s.station j).endsByZone) : enterSetting s j = s.setStation j ((s.station j).zoneHeld s.settings) := by
  have unasked (set : (s.station j).filters.brakeOpen.level = false) : (s.station j).dhu.stopRequest = .none := by
    by_contra asked
    exact goes ⟨active, asked, set⟩
  cases set : (s.station j).filters.brakeOpen.level with
  | true => simp [enterSetting, StationState.zoneHeld, active, set, State.modDhu, State.modMu, State.setStation_setStation]
  | false =>
    have kept (a : StationState) : (s.setStation j a).zoneHold = true := zone
    simp [enterSetting, endSetting, StationState.zoneHeld, active, set, unasked set, kept, State.modDhu, State.modMu,
      State.setStation_setStation]

theorem zoneStop_held (zone : s.zoneHold = true) (goes : ¬(s.station j).endsByZone) :
    zoneStop s j = s.setStation j ((s.station j).zoneHeld s.settings) := by
  have stands (still : (s.station j).dhu.phase.isActive = false) :
      s = s.setStation j ((s.station j).zoneHeld s.settings) := by
    rw [zoneHeld_inactive still, State.setStation_self]
  unfold zoneStop
  split
  case h_5 idle => exact stands (by rw [idle]; rfl)
  case h_6 setting => exact stands (by rw [setting]; rfl)
  case h_7 held => exact stands (by rw [held]; rfl)
  all_goals next phase => exact enterSetting_zoneHeld zone (by rw [phase]; rfl) goes

theorem zoneStops_held (zone : s.zoneHold = true) (stays : s.staysHolding j) :
    zoneStops s j = s.setStation j ((s.station j).zoneHeld s.settings) := by
  obtain ⟨goes, holding⟩ := stays
  rw [zoneStops, zoneStop_held zone goes]
  by_cases idle : (s.station j).dhu.phase = .idle
  · refine settleStop_unheld ?_
    rw [State.setStation_dsa]
    exact Bool.eq_false_iff.mpr fun holds => holding holds idle
  · refine settleStop_going ?_
    rw [State.station_setStation_same]
    exact mt (zoneHeld_idle _ _).mp idle

/-- Turns by which no stop completes (R95, R112). -/
theorem foldl_zoneStops_held (l : List Station) : ∀ {s : State}, l.Nodup → s.zoneHold = true →
    (∀ j ∈ l, s.staysHolding j) →
    (l.foldl zoneStops s).dsa = s.dsa ∧ (l.foldl zoneStops s).counters = s.counters ∧
    ∀ j : Station, (l.foldl zoneStops s).station j =
      if j ∈ l then (s.station j).zoneHeld s.settings else s.station j := by
  induction l with
  | nil => exact fun _ _ _ => ⟨rfl, rfl, by simp⟩
  | cons i l ih =>
    intro s distinct zone stays
    obtain ⟨new, distinct⟩ := List.nodup_cons.mp distinct
    rw [List.foldl_cons, zoneStops_held zone (stays i (by simp))]
    have others (k : Station) (other : k ≠ i) : (s.setStation i ((s.station i).zoneHeld s.settings)).station k = s.station k :=
      State.station_setStation_ne _ _ other
    have later (j : Station) (listed : j ∈ l) : (s.setStation i ((s.station i).zoneHeld s.settings)).staysHolding j := by
      have other : j ≠ i := fun own => new (own ▸ listed)
      have stay := stays j (List.mem_cons_of_mem i listed)
      rw [State.staysHolding, others j other]
      exact stay
    obtain ⟨dsa, counters, stations⟩ := ih (s := s.setStation i ((s.station i).zoneHeld s.settings)) distinct zone later
    refine ⟨dsa, counters, fun j => ?_⟩
    rw [stations j]
    by_cases own : j = i
    · subst own
      simp [new, State.station_setStation_same]
    · simp only [others j own, List.mem_cons, own, false_or]
      rfl

end Held

/-! ### The turn by which a stop completes -/

section Ends

variable {s u v : State} {i : Station} {post : List Station}

/-- A stop that the rise of ZONE_HOLD completes vacates the slot (R88, R108). -/
theorem vacated_zoneStop (ends : (s.station i).endsByZone) : Vacated i s (freeSlot (zoneStop s i) i) := by
  obtain ⟨active, asked, set⟩ := ends
  have enters : zoneStop s i = enterSetting s i := by
    unfold zoneStop
    split
    case h_5 idle => simp [idle, DrivePhase.isActive] at active
    case h_6 setting => simp [setting, DrivePhase.isActive] at active
    case h_7 held => simp [held, DrivePhase.isActive] at active
    all_goals rfl
  have ended : enterSetting s i = becomeIdle ((s.modDhu i fun d => { d with
      phase := .setting, demand := 0, stall := none, timer := .running .brakeSet 0 s.settings.brakeSetTimeout }).modMu i
      fun m => { m with releaseMeasure := none }) i := by
    dsimp only [enterSetting]
    rw [if_neg (by simp [set]), endSetting]
    simp only [State.station_modMu_same, State.station_modDhu_same]
  have same : (zoneStop s i).dsa = s.dsa := by
    rw [enters, ended]
    rfl
  refine .of_stop (f := id) (fun _ => rfl) (by simp [same]) ?_ (DhuAct.zoneStop s i).others (DriveOnly.zoneStop s i) ?_
  · rw [enters, ended, becomeIdle_station]
    simp [Dhu.atRest]
  · rw [enters, enterSetting_counters]

variable (vacated : Vacated i u v) (zone : u.zoneHold = true) (distinct : (i :: post).Nodup)
  (stays : ∀ j ∈ post, u.staysHolding j)

include vacated zone distinct stays

/-- The turns after the slot has come free with nobody to serve (R87, R112). -/
theorem turns_unserved : (post.foldl zoneStops v).dsa = v.dsa := by
  obtain ⟨new, distinct⟩ := List.nodup_cons.mp distinct
  refine (foldl_zoneStops_held post distinct (vacated.zoneHold.trans zone) fun j listed => ?_).1
  have other : j ≠ i := fun own => new (own ▸ listed)
  obtain ⟨goes, holding⟩ := stays j listed
  refine ⟨by rw [vacated.others j other]; exact goes, fun holds => ?_⟩
  rw [vacated.others j other]
  refine holding ?_
  rw [vacated.dsa] at holds
  simp only [Dsa.holds, List.any_eq_true, List.mem_filter] at holds ⊢
  obtain ⟨k, ⟨listed, -⟩, own⟩ := holds
  exact ⟨k, listed, own⟩

/-- The turns after the slot has gone to the entry at the head of these (R87, R88, R101, R112). -/
theorem turns_served {w : State} {e : WaitEntry} {left : List WaitEntry} {need : Need}
    (waits : w = v.withWaiting (e :: left)) (presents : (u.station e.station).lcc.need = some need)
    (free : (u.dsa.holders.filter fun k => decide (k.station ≠ i)).length < u.dsa.slots)
    (last : left = [] ∨ (u.dsa.holders.filter fun k => decide (k.station ≠ i)).length + 1 = u.dsa.slots)
    (classes : ∀ k ∈ left, 1 ≤ k.cls) :
    (post.foldl zoneStops (arbitrate w)).dsa = u.dsaServing i e left ∧
    ((post.foldl zoneStops (arbitrate w)).station e.station).dhu =
      u.granted e.station (v.station e.station).dhu need ∧
    (e.station ≠ i → ((post.foldl zoneStops (arbitrate w)).station i).dhu = (u.station i).dhu.atRest) ∧
    GrantCounted e.station u (post.foldl zoneStops (arbitrate w)) := by
  obtain ⟨new, distinct⟩ := List.nodup_cons.mp distinct
  have rests : ¬u.runsAtGrant e.station := by
    rintro ⟨clear, -⟩
    simp [zone] at clear
  obtain ⟨dsa, dhu, stands, counted⟩ := vacated.serves waits presents (fun runs => absurd runs rests) free last classes
  have zone' : (arbitrate w).zoneHold = true := by
    have kept : (arbitrate w).zoneHold = w.zoneHold := congrArg Filter.level (DriveOnly.arbitrate w).berth.zoneFilter
    rw [kept, waits]
    exact vacated.zoneHold.trans zone
  have held : ((arbitrate w).station e.station).dhu.phase = .held := by rw [dhu, State.granted, if_pos zone]
  have later (j : Station) (listed : j ∈ post) : (arbitrate w).staysHolding j := by
    have other : j ≠ i := fun own => new (own ▸ listed)
    by_cases served : j = e.station
    · subst served
      refine ⟨fun ends => ?_, fun _ => by rw [held]; simp⟩
      simp [StationState.endsByZone, held, DrivePhase.isActive] at ends
    · obtain ⟨goes, holding⟩ := stays j listed
      rw [State.staysHolding, stands j served, vacated.others j other]
      refine ⟨goes, fun holds => holding ?_⟩
      rw [dsa] at holds
      simp only [Dsa.holds, State.dsaServing, List.any_append, List.any_cons, List.any_nil, Bool.or_false, State.newHolder,
        Ne.symm served, decide_false, List.any_eq_true, List.mem_filter] at holds ⊢
      obtain ⟨k, ⟨stood, -⟩, own⟩ := holds
      exact ⟨k, stood, own⟩
  obtain ⟨slots, counters, stations⟩ := foldl_zoneStops_held post distinct zone' later
  refine ⟨slots.trans dsa, ?_, fun elsewhere => ?_, counted.of_counters rfl counters⟩
  · have inactive : ((arbitrate w).station e.station).dhu.phase.isActive = false := by rw [held]; rfl
    rw [stations, zoneHeld_inactive inactive, ite_self, dhu]
  · rw [stations, if_neg new, stands i elsewhere.symm, vacated.atRest]

end Ends

end Sys2Proof.Machine

/-!
PROOF. ZONE_HOLD's filter as it passes (O45; R88, R89, R95, R112, R113, R184): the turns after the one by which a stop completes,
and the rise and the fall in the words of the statement.
-/
namespace Sys2Proof.Machine

section Turns

variable {u v : State} {i : Station} {post : List Station}

/-! ### A station out of play stays so through the turns -/

theorem OutOfPlay.zoneStops {a : StationState} (h : OutOfPlay i a u) {j : Station} (other : i ≠ j) :
    OutOfPlay i a (zoneStops u j) := by
  have act := DhuAct.zoneStop u j
  have stopped : OutOfPlay i a (zoneStop u j) :=
    ⟨(act.others i other).trans h.station, h.noNeed, (act.holds i).trans h.noSlot⟩
  unfold Machine.zoneStops settleStop
  split
  · exact ((stopped.freeSlot j).rejoin j).arbitrate
  · exact stopped

theorem OutOfPlay.turns {a : StationState} (l : List Station) : ∀ {u : State}, OutOfPlay i a u → i ∉ l →
    OutOfPlay i a (l.foldl Machine.zoneStops u) := by
  induction l with
  | nil => exact fun h _ => h
  | cons j l ih =>
    intro u h absent
    obtain ⟨other, later⟩ := List.ne_and_not_mem_of_not_mem_cons absent
    exact ih (h.zoneStops other) later

/-! ### The turns after a stop that has completed -/

/-- A freed slot is read from the arbiter, the zone hold, and the needs and levels of the stations. -/
theorem SlotFreed.of_alike {r s t : State} (h : SlotFreed i s t) (dsa : s.dsa = r.dsa) (zoneHold : s.zoneHold = r.zoneHold)
    (stations : ∀ j : Station, (s.station j).lcc.need = (r.station j).lcc.need ∧
      (s.station j).filters = (r.station j).filters) : SlotFreed i r t := by
  have needs j := (stations j).1
  have filters j := (stations j).2
  unfold SlotFreed at h ⊢
  simpa only [dsa, zoneHold, needs, filters] using h

variable (zone : u.zoneHold = true) (distinct : (i :: post).Nodup) (stays : ∀ j ∈ post, u.staysHolding j)
  (ends : (u.station i).endsByZone) (holds : u.dsa.holds i = true)

include ends holds in
/-- The turn by which the stop of station `i` completes (R88, R112). -/
theorem zoneStops_ends : zoneStops u i = arbitrate (rejoin (freeSlot (zoneStop u i) i) i) := by
  refine if_pos ?_
  have rest : ((zoneStop u i).station i).dhu = (u.station i).dhu.atRest := (vacated_zoneStop ends).atRest
  rw [stopEnded, (DhuAct.zoneStop u i).holds, holds, rest]
  rfl

include zone distinct stays ends holds

/-- A station without a need leaves its slot to the entry at the head of the list (R87, R88, R108). -/
theorem turns_freed (noNeed : (u.station i).lcc.need = none) :
    ((post.foldl zoneStops (zoneStops u i)).station i).dhu = (u.station i).dhu.atRest ∧
    SlotFreed i u (post.foldl zoneStops (zoneStops u i)) := by
  have vacated := vacated_zoneStop ends
  rw [zoneStops_ends ends holds, vacated.rejoin_noNeed noNeed]
  generalize freeSlot (zoneStop u i) i = v at *
  have out : OutOfPlay i (v.station i) v := ⟨rfl, (vacated.need i).trans noNeed, by simp [Dsa.holds, vacated.dsa]⟩
  refine ⟨?_, fun nobody => ?_, ?_⟩
  · rw [(out.arbitrate.turns post (List.nodup_cons.mp distinct).1).station, vacated.atRest]
  · rw [arbitrate_noneWaiting (by rw [vacated.dsa]; exact nobody), turns_unserved vacated zone distinct stays, vacated.dsa]
  · rintro e more need others rfl waiting elsewhere presents classes slots -
    have list : v = v.withWaiting (e :: more) := by
      rw [← waiting]
      exact vacated.waiting_self
    obtain ⟨dsa, dhu, -, -⟩ := turns_served (w := v) vacated zone distinct stays list presents (by omega) (.inr slots)
      fun k listed => classes k (by simp [waiting, listed])
    have rests : ¬u.runsAtGrant e.station := by
      rintro ⟨clear, -⟩
      simp [zone] at clear
    rw [dsa, dhu, State.granted, if_pos zone, if_pos zone]
    refine ⟨rfl, rfl, ?_, rfl⟩
    simp only [State.dsaServing, State.newHolder, if_neg rests]

/-- A station with a need rejoins behind its class, and the slot goes to the entry at the head of the list (R88, R95). -/
theorem turns_rejoined {need : Need} (presents : (u.station i).lcc.need = some need) :
    SlotRejoined (u.station i).dhu need i u (post.foldl zoneStops (zoneStops u i)) := by
  have vacated := vacated_zoneStop ends
  rw [zoneStops_ends ends holds]
  generalize freeSlot (zoneStop u i) i = v at *
  have joined : rejoin v i = v.withWaiting (insertEntry { station := i, cls := need.cls } u.dsa.waiting) := by
    simp [rejoin, (vacated.need i).trans presents, joinList, vacated.dsa, State.withWaiting, State.modDsa]
  unfold SlotRejoined
  cases waiting : u.dsa.waiting with
  | nil =>
    rw [waiting] at joined
    intro free
    obtain ⟨dsa, dhu, -, counted⟩ := turns_served vacated zone distinct stays joined presents free (.inl rfl) (by simp)
    rw [vacated.atRest] at dhu
    exact ⟨dsa, dhu, counted⟩
  | cons e more =>
    cases other : (u.station e.station).lcc.need with
    | none => simp only [other]
    | some needed =>
      simp only [other]
      intro elsewhere once ordered ahead urgent classes slots
      rw [waiting, insertEntry_eq_filter ordered] at joined
      have behind : rejoin v i = v.withWaiting (e :: (more.filter (fun k => decide (k.cls ≤ need.cls)) ++
          { station := i, cls := need.cls } :: more.filter (fun k => decide (need.cls < k.cls)))) := by
        rw [joined]
        simp [ahead]
      obtain ⟨dsa, dhu, rests, counted⟩ := turns_served vacated zone distinct stays behind other (by omega) (.inr slots) (by
        intro k listed
        simp only [List.mem_append, List.mem_cons, List.mem_filter] at listed
        rcases listed with ⟨before, -⟩ | rfl | ⟨after, -⟩
        · exact classes k before
        · exact urgent
        · exact classes k after)
      rw [vacated.others _ elsewhere] at dhu
      exact ⟨dsa, dhu, rests elsewhere, counted⟩

end Turns

/-! ### ZONE_HOLD rises -/

section Rises

variable {s : State} {i : Station}

/-- The part as ZONE_HOLD has risen, before any drum stops (R89, R184). -/
def State.zoneRaised (s : State) : State := ((s.zoneSet true).mapSlices SliceTimer.pause).makePending .zone

theorem zoneRises_turns (s : State) : zoneRises (s.zoneSet true) = allStations.foldl zoneStops s.zoneRaised := rfl

theorem zoneRaised_dsa (s : State) : s.zoneRaised.dsa = s.underZone.dsa := by
  have same : SliceTimer.pause = SliceTimer.underZone := by
    funext x
    cases x <;> rfl
  have paused : s.zoneRaised.dsa = { s.dsa with holders := s.dsa.holders.map fun h => { h with
      slice := SliceTimer.pause h.slice } } := rfl
  rw [paused, same]
  rfl

theorem zoneRaised_holds (s : State) (j : Station) : s.zoneRaised.dsa.holds j = s.dsa.holds j := by
  rw [zoneRaised_dsa]
  simp [State.underZone, Dsa.holds, Function.comp_def]

theorem zoneRaised_still (s : State) : s.zoneRaised.slicesStill := by
  intro h listed
  rw [zoneRaised_dsa] at listed
  obtain ⟨k, -, rfl⟩ := List.mem_map.mp listed
  dsimp only
  cases k.slice <;> rfl

/-- After a rise every slice is paused and no drum is on its way to run or runs (R89, R112). -/
theorem zoneRises_still (s : State) :
    (∀ j : Station, ((zoneRises (s.zoneSet true)).station j).dhu.phase.isActive = false) ∧
    ∀ h ∈ (zoneRises (s.zoneSet true)).dsa.holders, h.slice.isRunning = false := by
  rw [zoneRises_turns]
  exact ⟨fun j => foldl_zoneStops_still allStations rfl j (mem_allStations j),
    (ZoneStill.foldl ZoneStill.zoneStops allStations s.zoneRaised).slices rfl (zoneRaised_still s)⟩

variable (matched : s.slotsMatchPhases)

include matched

theorem zoneRaised_stays {j : Station} (goes : ¬(s.station j).endsByZone) : s.zoneRaised.staysHolding j :=
  ⟨goes, fun holds => (matched j).mp ((zoneRaised_holds s j).symm.trans holds)⟩

/-- A rise by which no stop completes (R95, R112). -/
theorem zoneRises_holds (none : ∀ j : Station, ¬(s.station j).endsByZone) :
    (zoneRises (s.zoneSet true)).dsa = s.underZone.dsa ∧
    ∀ j : Station, (zoneRises (s.zoneSet true)).station j = (s.station j).zoneHeld s.settings := by
  obtain ⟨dsa, -, stations⟩ := foldl_zoneStops_held allStations (s := s.zoneRaised) (by decide) rfl
    fun j _ => zoneRaised_stays matched (none j)
  rw [zoneRises_turns]
  refine ⟨dsa.trans (zoneRaised_dsa s), fun j => ?_⟩
  rw [stations j, if_pos (mem_allStations j)]
  rfl

/-- A rise by which one stop completes (R88, R95, R108). -/
theorem zoneRises_ends (ends : (s.station i).endsByZone) (alone : ∀ j : Station, j ≠ i → ¬(s.station j).endsByZone)
    (idle : ∀ e ∈ s.dsa.waiting, (s.station e.station).dhu.phase = .idle) :
    ((s.station i).lcc.need = none →
      ((zoneRises (s.zoneSet true)).station i).dhu = (s.station i).dhu.atRest ∧
      SlotFreed i s.underZone (zoneRises (s.zoneSet true))) ∧
    ∀ need, (s.station i).lcc.need = some need →
      SlotRejoined (s.station i).dhu need i s.underZone (zoneRises (s.zoneSet true)) := by
  obtain ⟨pre, post, split⟩ := List.append_of_mem (mem_allStations i)
  have whole : (pre ++ i :: post).Nodup := split ▸ (by decide : allStations.Nodup)
  obtain ⟨distinct, distinct', apart⟩ := List.nodup_append.mp whole
  have absent : i ∉ pre := fun listed => apart i listed i (by simp) rfl
  have others : ∀ j ∈ post, j ≠ i := fun j listed own => (List.nodup_cons.mp distinct').1 (own ▸ listed)
  obtain ⟨dsa, counters, stations⟩ := foldl_zoneStops_held pre (s := s.zoneRaised) distinct rfl
    fun j listed => zoneRaised_stays matched (alone j fun own => absent (own ▸ listed))
  have turns : zoneRises (s.zoneSet true) = post.foldl zoneStops (zoneStops (pre.foldl zoneStops s.zoneRaised) i) := by
    rw [zoneRises_turns, split, List.foldl_append, List.foldl_cons]
  have frame : DriveOnly s.zoneRaised (pre.foldl zoneStops s.zoneRaised) :=
    DriveOnly.foldl (fun t j => (DriveOnly.zoneStop t j).trans (DriveOnly.settleStop _ j)) pre _
  have zone : (pre.foldl zoneStops s.zoneRaised).zoneHold = true := congrArg Filter.level frame.berth.zoneFilter
  have settings : (pre.foldl zoneStops s.zoneRaised).settings = s.settings :=
    congrArg BerthSettings.config frame.berth.berth
  have station : (pre.foldl zoneStops s.zoneRaised).station i = s.station i := by
    rw [stations, if_neg absent]
    rfl
  have kept (j : Station) : ((pre.foldl zoneStops s.zoneRaised).station j).lcc.need = (s.underZone.station j).lcc.need ∧
      ((pre.foldl zoneStops s.zoneRaised).station j).filters = (s.underZone.station j).filters :=
    ⟨congrArg Lcc.need (frame.stations j).lcc, (frame.stations j).filters⟩
  have rests (e : WaitEntry) (listed : e ∈ s.underZone.dsa.waiting) :
      ((pre.foldl zoneStops s.zoneRaised).station e.station).dhu = (s.underZone.station e.station).dhu := by
    have still : (s.zoneRaised.station e.station).dhu.phase.isActive = false := by
      have rest : (s.zoneRaised.station e.station).dhu.phase = .idle := idle e listed
      rw [rest]
      rfl
    rw [stations, zoneHeld_inactive still, ite_self]
    rfl
  have later (j : Station) (listed : j ∈ post) : (pre.foldl zoneStops s.zoneRaised).staysHolding j := by
    have before : j ∉ pre := fun early => apart j early j (List.mem_cons_of_mem i listed) rfl
    rw [State.staysHolding, stations, if_neg before, dsa]
    exact zoneRaised_stays matched (alone j (others j listed))
  have holds : (pre.foldl zoneStops s.zoneRaised).dsa.holds i = true := by
    rw [dsa, zoneRaised_holds]
    refine (matched i).mpr fun rest => ?_
    have active := ends.1
    simp [rest, DrivePhase.isActive] at active
  have dsa' : (pre.foldl zoneStops s.zoneRaised).dsa = s.underZone.dsa := dsa.trans (zoneRaised_dsa s)
  have counters' : (pre.foldl zoneStops s.zoneRaised).counters = s.underZone.counters := counters
  rw [turns]
  generalize pre.foldl zoneStops s.zoneRaised = u at *
  rw [← station] at ends ⊢
  refine ⟨fun noNeed => ?_, fun need presents => ?_⟩
  · obtain ⟨rest, freed⟩ := turns_freed zone distinct' later ends holds noNeed
    exact ⟨rest, freed.of_alike dsa' zone kept⟩
  · exact (turns_rejoined zone distinct' later ends holds presents).of_alike dsa' zone settings kept rests
      ⟨rfl, fun _ => rfl⟩ fun j counts => counts.of_counters counters' rfl

end Rises

/-! ### ZONE_HOLD's filter passes -/

/-- A rise makes ZONE pending, and no stop that it completes drops it (R184). -/
theorem mem_reports_zoneRises (s : State) : ReportEntry.zone ∈ (zoneRises s).link.reports := by
  have kept (t : State) (i : Station) (listed : ReportEntry.zone ∈ t.link.reports) :
      ReportEntry.zone ∈ (zoneStops t i).link.reports := by
    refine reports_subset_settleStop _ i ?_
    rw [zoneStop_link]
    exact listed
  rw [zoneRises_eq]
  exact foldl_keeps (P := fun t => ReportEntry.zone ∈ t.link.reports) kept allStations (pendReport_mem _ _)

/-- A fall makes ZONE pending (R184). -/
theorem mem_reports_zoneFalls (s : State) : ReportEntry.zone ∈ (zoneFalls s).link.reports := by
  have kept (t : State) (i : Station) (listed : ReportEntry.zone ∈ t.link.reports) :
      ReportEntry.zone ∈ (zoneResume t i).link.reports := by
    rw [zoneResume_link]
    exact listed
  rw [zoneFalls_eq]
  exact foldl_keeps (P := fun t => ReportEntry.zone ∈ t.link.reports) kept allStations (pendReport_mem _ _)

/-- After a fall no slice is paused (R89). -/
theorem zoneFalls_unpaused (s : State) : ∀ h ∈ (zoneFalls (s.zoneSet false)).dsa.holders, h.slice.isPaused = false := by
  rw [(zoneFalls_resumes s).2]
  intro h listed
  obtain ⟨k, -, rfl⟩ := List.mem_map.mp listed
  dsimp only
  split
  · rfl
  · cases k.slice <;> rfl

/-- ZONE_HOLD's filter passes (R133). -/
theorem exec_zoneHold_passes {s : State} {p : PendingLevel} (pending : s.zoneFilter.held = some p)
    (held : p.width ≤ p.age) :
    exec (.filterWidthElapsed .zoneHold) s =
      .next (if s.zoneFilter.level then zoneFalls (s.zoneSet false) else zoneRises (s.zoneSet true)) := by
  have due : (s.filter .zoneHold).due = true := by
    have same : s.filter .zoneHold = s.zoneFilter := rfl
    simp [same, Filter.due, pending, held]
  have passes : exec (.filterWidthElapsed .zoneHold) s = .next (filterPasses s .zoneHold) :=
    congrArg Host.Outcome.next (if_pos due)
  have moved : filterPasses s .zoneHold =
      levelMoved (s.zoneSet !s.zoneFilter.level) .zoneHold (!s.zoneFilter.level) fun j => (s.station j).latch := rfl
  rw [passes, moved]
  cases s.zoneFilter.level <;> rfl

/-- Settles O45: the frame of a sensor's filter, and the rise and fall of ZONE_HOLD station by station. -/
theorem filtersFollowTheInputs : Obligations.FiltersFollowTheInputs := by
  unfold Obligations.FiltersFollowTheInputs
  intro s i which level f p
  refine ⟨⟨exec_rawInputEdge_sensor s i which level, exec_rawInputEdge_zoneHold s level⟩, fun pending held =>
    ⟨sensor_passes pending held, ?_⟩⟩
  rintro rfl
  refine ⟨_, exec_zoneHold_passes pending held, ?_⟩
  cases s.zoneFilter.level with
  | false =>
    rw [if_neg Bool.false_ne_true]
    have frame := zoneRises_frame (s.zoneSet true)
    obtain ⟨still, slices⟩ := zoneRises_still s
    exact ⟨frame.berth, frame.link, mem_reports_zoneRises _, frame.stations,
      fun _ => ⟨still, slices, fun matched => ⟨zoneRises_holds matched, zoneRises_ends matched⟩⟩,
      fun fell => absurd fell Bool.false_ne_true⟩
  | true =>
    rw [if_pos rfl]
    have frame := zoneFalls_frame (s.zoneSet false)
    obtain ⟨stations, dsa⟩ := zoneFalls_resumes s
    refine ⟨frame.berth, frame.link, mem_reports_zoneFalls _, frame.stations,
      fun rose => absurd rose.symm Bool.false_ne_true, fun _ => ⟨fun j => ?_, zoneFalls_unpaused s, stations, dsa⟩⟩
    rw [stations]
    exact zoneResumed_notHeld _ _

end Sys2Proof.Machine
